-- ==== Sys2Proof/Word.lean ====
section
/-! DEFINITION. The plain types of the part: bytes, addresses, channels, sequence numbers, urgencies, and four of a kind. -/

namespace Sys2Proof

/-- One byte of a frame payload, an ANSWER record or the configuration image (Chapter 12). -/
abbrev Byte := BitVec 8

/-- A station address as the arbitration field carries it, 5 slots (R151): 1-30 stations, 31 the tool, 0 invalid
(Table 0.5). -/
abbrev Addr := Fin 32

/-- A channel of a station, 0-3 (Table 0.5). -/
abbrev Chan := Fin 4

/-- A claim sequence number or a call seq, 0-255, wrapping (R34, R58). -/
abbrev Seq := BitVec 8

/-- An urgency, 0-7, 0 most urgent (Table 0.5). -/
abbrev Urg := Fin 8

/-- One thing for each of a station's four channels. -/
structure Four (α : Type) where
  ch0 : α
  ch1 : α
  ch2 : α
  ch3 : α
  deriving DecidableEq, Repr

/-- Four equal values. -/
def Four.same {α : Type} (x : α) : Four α := { ch0 := x, ch1 := x, ch2 := x, ch3 := x }

/-- The tool address (Table 0.5, R162). -/
def toolAddr : Addr := 31

/-- The four channels in channel order. -/
def allChans : List Chan := [0, 1, 2, 3]

end Sys2Proof
end

