-- ==== Sys2Proof/Syntax.lean ====
section
/-! DEFINITION. The commands: one constructor of Instr for each row of spec/opcode_table.json, with the frames and the
received line signals some of them carry. -/

namespace Sys2Proof

/-- What a receiver knows of an accepted frame besides its payload: the sender address of the arbitration field (R151)
and whether the acknowledgement slot read 0 (R154, R157). -/
structure Rx where
  sender : Addr
  acked  : Bool
  deriving DecidableEq, Repr

/-- Payload of CLAIM (Table 12.2). `hold` is in units of 20 ms. -/
structure ClaimPayload where
  ch        : Chan
  seq       : Seq
  urgency   : Urg
  sheddable : Bool
  inrush    : Fin 64
  draw      : Fin 64
  hold      : Fin 256
  deriving DecidableEq, Repr

/-- Payload of RENEW (Table 12.2). -/
structure RenewPayload where
  ch    : Chan
  seq   : Seq
  count : Fin 16
  deriving DecidableEq, Repr

/-- Payload of SETTLED (Table 12.2). -/
structure SettledPayload where
  ch  : Chan
  seq : Seq
  deriving DecidableEq, Repr

/-- Payload of ABANDONED (Table 12.2). The reason is the code as written (R183). -/
structure AbandonedPayload where
  ch     : Chan
  seq    : Seq
  reason : Fin 16
  deriving DecidableEq, Repr

/-- Payload of STOPPED (Table 12.2). -/
structure StoppedPayload where
  ch     : Chan
  reason : Fin 16
  deriving DecidableEq, Repr

/-- Payload of EXPIRE (Table 12.2): it names the owner, because a non-owner sends it. -/
structure ExpirePayload where
  owner : Addr
  ch    : Chan
  seq   : Seq
  deriving DecidableEq, Repr

/-- Payload of SHED_CALL (Table 12.2). -/
structure ShedCallPayload where
  callerUrgency : Urg
  shortfall     : Fin 2048
  callSeq       : Seq
  deriving DecidableEq, Repr

/-- Payload of HELLO (Table 12.2). The start kind is the code as written (R183). -/
structure HelloPayload where
  digest    : BitVec 16
  startKind : Fin 4
  outages   : Fin 256
  deriving DecidableEq, Repr

/-- Payload of PRESENCE (Table 12.2). The membership state is the code as written (R183). -/
structure PresencePayload where
  mstate : Fin 8
  draws  : Fin 8
  starts : Fin 64
  digest : BitVec 16
  deriving DecidableEq, Repr

/-- Payload of RECOUNT (Table 12.2). `hold` is in units of 20 ms. -/
structure RecountPayload where
  isDraw    : Bool
  ch        : Chan
  urgency   : Urg
  sheddable : Bool
  inrush    : Fin 64
  draw      : Fin 64
  renewals  : Fin 4
  hold      : Fin 256
  seq       : Seq
  deriving DecidableEq, Repr

/-- Payload of INQUIRE (Table 12.2). -/
structure InquirePayload where
  target   : Addr
  selector : Fin 16
  index    : Fin 256
  deriving DecidableEq, Repr

/-- Payload of ANSWER (Table 12.2). -/
structure AnswerPayload where
  selector : Fin 16
  status   : Fin 16
  index    : Fin 256
  record   : List Byte
  deriving DecidableEq, Repr

/-- A frame's kind with its fields, without its sender (Table 12.1, Table 12.2). -/
inductive Frame where
  | claim      (p : ClaimPayload)
  | renew      (p : RenewPayload)
  | settled    (p : SettledPayload)
  | abandoned  (p : AbandonedPayload)
  | stopped    (p : StoppedPayload)
  | expire     (p : ExpirePayload)
  | shedCall   (p : ShedCallPayload)
  | hello      (p : HelloPayload)
  | presence   (p : PresencePayload)
  | syncReq    (target : Addr)
  | recount    (p : RecountPayload)
  | recountEnd (number : Fin 8)
  | absent     (target : Addr)
  | inquire    (p : InquirePayload)
  | answer     (p : AnswerPayload)
  deriving DecidableEq, Repr

/-- One slot as a receiver measured it (R149): the low time of the line and the interval to the next falling edge,
both in ns; `none` where the line stayed high. -/
structure Slot where
  low  : Nat
  next : Option Nat
  deriving DecidableEq, Repr

/-- A frame as this station received it, from the break to the check (R149, R151): the low time of the break, the time
from the end of that low to the first slot, and the slots of arbitration field, kind, length, payload and check. -/
structure RawFrame where
  breakLow : Nat
  breakGap : Nat
  slots    : List Slot
  deriving DecidableEq, Repr

/-- How the serial memory, or the line, made a read attempt fail (R167): CFG_SDA low after the ninth clock of the bus
check, or a byte that the target did not acknowledge, after the clocks that released CFG_SDA. -/
inductive LinkFailure where
  | stuck
  | addressWrite (clocks : Fin 10)
  | offset       (clocks : Fin 10)
  | addressRead  (clocks : Fin 10)
  deriving DecidableEq, Repr

/-- The commands of the part, one for each row of spec/opcode_table.json, each whole and indivisible. The frame commands
are ACCEPTED frames as this station sees them; the others are bus instants, events of pins and supplies, outcomes of the
image read, and the running out of the station's own timers. -/
inductive Instr where
  /-- CLAIM (R8) -/
  | claim (rx : Rx) (p : ClaimPayload)
  /-- RENEW (R21) -/
  | renew (rx : Rx) (p : RenewPayload)
  /-- SETTLED (R22) -/
  | settled (rx : Rx) (p : SettledPayload)
  /-- ABANDONED (R23) -/
  | abandoned (rx : Rx) (p : AbandonedPayload)
  /-- EXPIRE (R24) -/
  | expire (rx : Rx) (p : ExpirePayload)
  /-- STOPPED (R31) -/
  | stopped (rx : Rx) (p : StoppedPayload)
  /-- SHED_CALL (R36) -/
  | shedCall (rx : Rx) (p : ShedCallPayload)
  /-- HELLO (R138) -/
  | hello (rx : Rx) (p : HelloPayload)
  /-- PRESENCE (R135) -/
  | presence (rx : Rx) (p : PresencePayload)
  /-- SYNC_REQ (R139) -/
  | syncReq (rx : Rx) (target : Addr)
  /-- RECOUNT (R141) -/
  | recount (rx : Rx) (p : RecountPayload)
  /-- RECOUNT_END (R142) -/
  | recountEnd (rx : Rx) (number : Fin 8)
  /-- ABSENT (R146) -/
  | absent (rx : Rx) (target : Addr)
  /-- INQUIRE (R175) -/
  | inquire (rx : Rx) (p : InquirePayload)
  /-- ANSWER (R176) -/
  | answer (rx : Rx) (p : AnswerPayload)
  /-- TOOL_FRAME_REJECT (R162): an accepted frame of a kind other than INQUIRE from address 31. -/
  | toolFrameReject (f : Frame)
  /-- FRAME_VOIDED (R155): a frame whose objection slot read 0, as this station received it (not read for an own frame). -/
  | frameVoided (raw : RawFrame)
  /-- ARBITRATION_LOST (R152) -/
  | arbitrationLost
  /-- ADDRESS_CLASH (R153) -/
  | addressClash
  /-- FRAME_INCOMPLETE (R156) -/
  | frameIncomplete
  /-- FRAME_BREAK (R150) -/
  | frameBreak
  /-- BUS_FREE (R160) -/
  | busFree
  /-- HOLD_RUNS_OUT_AT_PEER (R17): the hold of the entry of a pair not owned here. -/
  | holdRunsOutAtPeer (owner : Addr) (ch : Chan)
  /-- HOLD_RUNS_OUT_AT_OWNER (R18): the hold of the own entry of a channel. -/
  | holdRunsOutAtOwner (ch : Chan)
  /-- RENEWAL_NEED (R98) -/
  | renewalNeed (ch : Chan)
  /-- REQ_LEVEL_CHANGE (R66): the level REQn takes. -/
  | reqLevelChange (ch : Chan) (active : Bool)
  /-- DEBOUNCE_TIMER_RUNS_OUT (R66) -/
  | debounceTimerRunsOut (ch : Chan)
  /-- SENSE_CHANGE (R87): the level SENSEn takes. -/
  | senseChange (ch : Chan) (active : Bool)
  /-- SENSE_GRACE_RUNS_OUT (R79) -/
  | senseGraceRunsOut (ch : Chan)
  /-- SHED_REST_RUNS_OUT (R44) -/
  | shedRestRunsOut (ch : Chan)
  /-- INH_PIN_CHANGE (R80): the level the INH pin takes. -/
  | inhPinChange (active : Bool)
  /-- INH_ASSERTED (R80) -/
  | inhAsserted
  /-- INH_RELEASED (R80) -/
  | inhReleased
  /-- PATIENCE_TIMER_RUNS_OUT (R50) -/
  | patienceTimerRunsOut (ch : Chan)
  /-- SHED_WAIT_RUNS_OUT (R40) -/
  | shedWaitRunsOut (ch : Chan)
  /-- DWELL_TIME_RUNS_OUT (R86): of a step of a channel's recipe (log 34). -/
  | dwellTimeRunsOut (ch : Chan := 0) (step : Fin 8 := 0)
  /-- AWAIT_TIMEOUT_RUNS_OUT (R87): of a step of a channel's recipe (log 34). -/
  | awaitTimeoutRunsOut (ch : Chan := 0) (step : Fin 8 := 0)
  /-- PRESENCE_TIMER_RUNS_OUT (R134) -/
  | presenceTimerRunsOut
  /-- LISTEN_WINDOW_RUNS_OUT (R133) -/
  | listenWindowRunsOut
  /-- SYNC_TIMEOUT_RUNS_OUT (R143) -/
  | syncTimeoutRunsOut
  /-- ABSENCE_TIME_REACHED (R145) -/
  | absenceTimeReached (peer : Addr)
  /-- REQUEST_TIMER_RUNS_OUT (R136) -/
  | requestTimerRunsOut (peer : Addr)
  /-- SAMPLE_TIMER_RUNS_OUT (R123) -/
  | sampleTimerRunsOut
  /-- POWER_FAIL_WARNING (R121) -/
  | powerFailWarning
  /-- VMAIN_LOST (R121) -/
  | vmainLost
  /-- RETENTION_LOSS (R117) -/
  | retentionLoss
  /-- VMAIN_RISE (R118) -/
  | vmainRise
  /-- RSTN_LOW (R118) -/
  | rstnLow
  /-- RSTN_RELEASE (R118) -/
  | rstnRelease
  /-- START (R119): with the level of the straps ADDR4-ADDR0 (R166). -/
  | start (straps : Addr)
  /-- IMAGE_HEADER_READ (R169): the first two bytes of the image, read after the clocks that released CFG_SDA (R167). -/
  | imageHeaderRead (tag len : Byte) (clocks : Fin 10 := 0)
  /-- IMAGE_READ_COMPLETE (R169): the bytes after the header, the check included. -/
  | imageReadComplete (rest : List Byte)
  /-- IMAGE_ATTEMPT_FAILS (R168): how the attempt failed. -/
  | imageAttemptFails (how : LinkFailure := .stuck)
  /-- CLOCK_STRETCH_TIMEOUT (R167): the clocks that released CFG_SDA, how many operations before the first byte were done,
  and the bytes read whole since the attempt, or the read of the rest, began (log 35). -/
  | clockStretchTimeout (clocks : Fin 10 := 0) (done : Nat := 0) (bytes : List Byte := [])
  /-- ATTEMPT_RETRY_WAIT_ELAPSED (R168) -/
  | attemptRetryWaitElapsed
  deriving DecidableEq, Repr

end Sys2Proof
end

