-- ==== Sys2Proof/Decode.lean ====
section
/-! DEFINITION. Commands spelt as words: the opcode table of this block gives no row any bits. -/

namespace Sys2Proof

/-- The command that a word spells by the table's bits. No row of spec/opcode_table.json gives bits ("fields" is empty
in each), so no word spells a command. -/
def decodeTableWord (_nbits _w : Nat) : Option Instr := none

end Sys2Proof
end

