-- ==== Sys2Proof/Config.lean ====
section
/-! DEFINITION. What the configuration image fixes for a station (Chapters 5, 6, 10), and the free values: what the spec
leaves open, as constants without a body. -/

namespace Sys2Proof

/-- One step of a start recipe (Table 5.2). Times and timeouts are in units of 10 ms. -/
inductive Step where
  /-- set PREn (`main = false`) or MAINn (`main = true`) to the level (R85) -/
  | drive (main : Bool) (on : Bool)
  /-- wait for a time (R86) -/
  | dwell (time : Nat) (yieldable : Bool)
  /-- wait for SENSEn to stand at the level (R87) -/
  | await (active : Bool) (timeout : Nat) (yieldable : Bool)
  /-- read SENSEn and judge it (R88) -/
  | check (active : Bool)
  deriving DecidableEq, Repr

/-- Request mode (R67). -/
inductive RequestMode where
  | level | toggle
  deriving DecidableEq, Repr

/-- Suspend policy (R106). -/
inductive SuspendPolicy where
  | hold | park
  deriving DecidableEq, Repr

/-- Restore policy (R125). -/
inductive RestorePolicy where
  | off | on | previous
  deriving DecidableEq, Repr

/-- One channel's loaded configuration (Table 10.2), in the image's own units. -/
structure ChannelConfig where
  requestMode   : RequestMode
  debounce      : Nat          -- x 10 ms
  senseRequired : Bool
  senseGrace    : Nat          -- x 10 ms
  sheddable     : Bool
  urgency       : Urg
  inrush        : Fin 64
  draw          : Fin 64
  holdLimit     : Fin 256      -- x 20 ms
  patience      : Nat          -- x 100 ms
  suspendPolicy : SuspendPolicy
  restorePolicy : RestorePolicy
  lookBack      : Nat
  recipe        : List Step
  deriving DecidableEq, Repr

/-- The loader's verdict on one channel record (R172), with the record's values where it is enabled and the index of
the first failing step where it is invalid by a step. -/
inductive Verdict where
  | notEnabled
  | invalid (step : Option Nat)
  | enabled (cfg : ChannelConfig)
  deriving DecidableEq, Repr

/-- The group section (Table 10.1). -/
structure GroupConfig where
  bitRate        : Nat
  presence       : Nat         -- x 50 ms
  inrushBudget   : Nat
  criticalMargin : Nat
  steadyBudget   : Nat
  quorum         : Nat
  deriving DecidableEq, Repr

/-- The station section (Table 10.1). -/
structure StationConfig where
  samplePeriod : Nat           -- x 100 ms
  shedRest     : Nat           -- s
  deriving DecidableEq, Repr

/-- The loaded image (R165): its sections and the verdict on each channel record. -/
structure Image where
  group    : GroupConfig
  station  : StationConfig
  channels : Four Verdict
  deriving DecidableEq, Repr

/-- What is read of a channel that has no loaded record. No rule reads it: a DISABLED channel has no recipe, no claim and
no timers (R81). -/
def ChannelConfig.blank : ChannelConfig :=
  { requestMode := .level, debounce := 0, senseRequired := false, senseGrace := 0, sheddable := false, urgency := 7,
    inrush := 0, draw := 0, holdLimit := 0, patience := 0, suspendPolicy := .hold, restorePolicy := .off, lookBack := 0,
    recipe := [] }

/-- What is read of the image where none is loaded. No rule reads it: without an image the station is LOADING or HALTED. -/
def Image.blank : Image :=
  { group := { bitRate := 0, presence := 0, inrushBudget := 0, criticalMargin := 0, steadyBudget := 0, quorum := 0 },
    station := { samplePeriod := 0, shedRest := 0 },
    channels := { ch0 := .notEnabled, ch1 := .notEnabled, ch2 := .notEnabled, ch3 := .notEnabled } }

namespace Config

/-- FREE VALUE: the eight sample positions of a channel after the retention supply was lost (R117: indeterminate). -/
opaque freeSamples : Nat → Nat → BitVec 8

/-- FREE VALUE: the fill count found in the retention domain after its supply was lost (R117: indeterminate). -/
opaque freeFill : Nat → Nat → Nat

/-- FREE VALUE: the outage count found in the retention domain after its supply was lost (R117: indeterminate). -/
opaque freeOutages : Nat → Fin 256

/-- FREE VALUE: the main-present flag found in the retention domain after its supply was lost (R117: indeterminate). -/
opaque freeMainPresent : Nat → Bool

/-- FREE VALUE: the recounts heard after a RECOUNT that arrives when the count already stands at 255 (Table 8.3 gives
the range 0-255 and no rule for passing it). -/
opaque freeHeard : Nat → Fin 256

end Config

end Sys2Proof
end

