-- ==== Sys2Proof/Machine/State.lean ====
section
/-! DEFINITION. The state of one station: every piece of state the spec gives the part, the queue of waiting commands,
and the state after reset. -/

namespace Sys2Proof.Machine

open Sys2Proof

/-- The reasons a step could stop with a fault: there are none. The part has no trap; what its manual calls a fault is a
record, a flag, a channel state or the membership state HALTED, all of them held in State. -/
inductive Fault where
  deriving DecidableEq, Repr

/-- The reasons a step could be refused. -/
inductive Refusal where
  /-- Raised by an arm of exec whose command has no meaning yet. No arm raises it. Safe. -/
  | notModelled (mnemonic : String)
  deriving DecidableEq, Repr

/-! ## Retention domain and starts (Chapter 7) -/

/-- The kinds of start (Table 7.3). -/
inductive StartKind where
  | cold | outage | pin
  deriving DecidableEq, Repr

/-- The validity pattern: "a fixed 16-bit value, or anything else" (Table 7.2). -/
inductive ValidityPattern where
  | fixed | other
  deriving DecidableEq, Repr

/-- The retention domain (Table 7.2). In `samples` position 0 is bit 7 and position 7 is bit 0, as Table 12.5 lays a
history out. -/
structure Retention where
  samples     : Four (BitVec 8)
  fill        : Four Nat
  outages     : Fin 256
  mainPresent : Bool
  pattern     : ValidityPattern
  deriving DecidableEq, Repr

/-- The History Store outside the retention domain (R119, R123, R126, R127). -/
structure History where
  startKind   : StartKind
  joined      : Bool
  marks       : Nat
  released    : Bool
  sampleTimer : Option Nat      -- ms left; none = stopped
  deriving DecidableEq, Repr

/-! ## Pins and supplies -/

/-- VMAIN as its monitor sees it: absent, below the warning threshold, above it (R116, R118, R121). -/
inductive Vmain where
  | absent | low | good
  deriving DecidableEq, Repr

/-- The supply the retention domain runs from (R116, R117). -/
inductive DomainSupply where
  | vmain | vkeep | none
  deriving DecidableEq, Repr

/-- The input pins (Table 0.2), by logical level: `true` is active. -/
structure Pins where
  req   : Four Bool
  sense : Four Bool
  inh   : Bool
  addr  : Addr
  rstn  : Bool                  -- true: high
  deriving DecidableEq, Repr

/-- Whether the part runs: without power, held in reset (R118), or running from a start on. -/
inductive Phase where
  | unpowered | inReset | running
  deriving DecidableEq, Repr

/-- The part's condition: supplies, reset, the power-fail warning and the 50 ms start delay (R118, R121, R122). -/
structure Power where
  vmain      : Vmain
  domain     : DomainSupply
  phase      : Phase
  warning    : Bool
  startDelay : Option Nat       -- ms left; none = not counting
  deriving DecidableEq, Repr

/-! ## Start Table and Draw Table (Chapters 1 and 2) -/

/-- A Start Table entry (Table 1.3). `remaining` is the hold remaining in ms; the hold limit is in units of 20 ms. -/
structure StartEntry where
  owner         : Addr
  ch            : Chan
  seq           : Seq
  urgency       : Urg
  sheddable     : Bool
  inrush        : Fin 64
  draw          : Fin 64
  holdLimit     : Fin 256
  remaining     : Nat
  holdRunning   : Bool
  renewals      : Fin 4
  expirePending : Bool
  unconfirmed   : Bool
  deriving DecidableEq, Repr

/-- A shed-pending mark with its caller and call seq (Table 2.1). -/
structure ShedMark where
  caller  : Addr
  callSeq : Seq
  deriving DecidableEq, Repr

/-- A present Draw Table slot (Table 2.1); a slot not listed is empty. -/
structure DrawSlot where
  urgency     : Urg
  sheddable   : Bool
  draw        : Fin 64
  shed        : Option ShedMark
  unconfirmed : Bool
  deriving DecidableEq, Repr

/-! ## Claim Queue (Chapter 3) -/

/-- A Claim Queue entry (Table 3.2). -/
structure QueueEntry where
  ch         : Chan
  stamp      : Nat
  eff        : Urg
  patience   : Option Nat       -- ms left; none = stopped
  shedCalled : Bool
  shedWait   : Option Nat       -- ms left; none = stopped
  voids      : Nat
  offered    : Option Seq
  deriving DecidableEq, Repr

/-- The outstanding shed call (R34): the queue entry it was built for, by its channel, its call seq and its voids. -/
structure ShedCall where
  ch      : Chan
  callSeq : Seq
  voids   : Nat
  deriving DecidableEq, Repr

/-- The Claim Queue: the entries, head first, its counters and its shed call (R34, R46, R47, R58). -/
structure ClaimQueue where
  entries     : List QueueEntry
  nextStamp   : Nat
  claimSeq    : Seq
  shedCallSeq : Seq
  shedCall    : Option ShedCall
  shedNeed    : Bool
  deriving DecidableEq, Repr

/-! ## Channels (Chapter 4) -/

/-- Channel states (Table 4.3). -/
inductive ChanState where
  | disabled | idle | queued | claiming | pending | starting | suspended | settling | on | shed | faulted
  deriving DecidableEq, Repr

/-- Reasons of releases (Table 12.3). -/
inductive Reason where
  | requestOff | inhibit | recipeFailed | holdExceeded | shed | senseLost
  deriving DecidableEq, Repr

/-- A channel's pending release (R77). -/
inductive Release where
  | none
  | settled
  | abandoned (why : Reason)
  | stopped (why : Reason)
  deriving DecidableEq, Repr

/-- The channel record (Table 4.1) with the levels of PREn and MAINn (`true` is on). -/
structure Channel where
  state           : ChanState
  latch           : Bool
  mark            : Bool
  release         : Release
  settleWithdrawn : Bool
  seq             : Option Seq
  renewals        : Fin 4
  debounced       : Bool
  debounceTimer   : Option Nat
  senseGrace      : Option Nat
  shedRest        : Option Nat
  pre             : Bool
  main            : Bool
  deriving DecidableEq, Repr

/-- The INH filter (R80). -/
structure InhFilter where
  asserted : Bool
  timer    : Option Nat
  deriving DecidableEq, Repr

/-! ## Recipe Engine and Context Stack (Chapters 5 and 6) -/

/-- The running slot (R90). -/
structure RunSlot where
  ch       : Chan
  step     : Nat
  timeLeft : Nat                -- ms
  deriving DecidableEq, Repr

/-- The output levels a PARK context keeps (Table 6.2). -/
structure Snapshot where
  pre  : Bool
  main : Bool
  deriving DecidableEq, Repr

/-- A context record (Table 6.2). -/
structure Context where
  ch       : Chan
  next     : Nat
  partialTime : Option Nat      -- ms
  policy   : SuspendPolicy
  snapshot : Option Snapshot
  deriving DecidableEq, Repr

/-- The Recipe Engine (R90): its two slots, the context stack (top first) and the renewal bookkeeping of each channel. -/
structure Engine where
  running     : Option RunSlot
  waiting     : Option Chan     -- the PENDING slot
  stack       : List Context
  renewVoids  : Four Nat
  exhausted   : Four Bool
  deriving DecidableEq, Repr

/-! ## Membership (Chapter 8) -/

/-- Membership states (Table 8.4). -/
inductive MState where
  | loading | halted | listen | syncing | inStep | isolated
  deriving DecidableEq, Repr

/-- Roster slot states (Table 8.3). -/
inductive PeerState where
  | unknown | present | absent
  deriving DecidableEq, Repr

/-- A roster slot (Table 8.3). `lastHeard` counts up in ms. -/
structure RosterSlot where
  state         : PeerState
  lastHeard     : Option Nat
  digest        : Option (BitVec 16)
  startKind     : Option StartKind
  outages       : Option (Fin 256)
  reported      : Option MState
  repStarts     : Option (Fin 64)
  repDraws      : Option (Fin 8)
  suspect       : Bool
  owed          : Bool
  heard         : Fin 256
  absentPending : Bool
  requestTimer  : Option Nat
  requestVoids  : Nat
  deriving DecidableEq, Repr

/-- A roster slot as every start leaves it (R130); also what an address not listed in the roster reads as. -/
def RosterSlot.atStart : RosterSlot :=
  { state := .unknown, lastHeard := none, digest := none, startKind := none, outages := none, reported := none,
    repStarts := none, repDraws := none, suspect := false, owed := false, heard := 0, absentPending := false,
    requestTimer := none, requestVoids := 0 }

/-- The station's own request of R143. -/
inductive OwnRequest where
  | all | self
  deriving DecidableEq, Repr

/-- The station's own recount round (R140). -/
structure Round where
  active : Bool
  next   : Nat
  sent   : Nat
  deriving DecidableEq, Repr

/-- The Membership Unit. The roster lists the slots that differ from RosterSlot.atStart, by address, rising. -/
structure Membership where
  state         : MState
  roster        : List (Nat × RosterSlot)
  discord       : Bool
  listenWindow  : Option Nat
  presenceTimer : Option Nat
  presenceDue   : Bool
  helloDue      : Bool
  helloVoids    : Nat
  ownRequest    : Option OwnRequest
  ownVoids      : Nat
  ownAccepted   : Bool
  awaited       : List Addr
  syncTimeout   : Option Nat
  round         : Round
  deriving DecidableEq, Repr

/-! ## Bus Interface (Chapter 9) -/

/-- The frame in the transmit slot (R160), with what its source must remember of it while it is on the bus: whether the
CLAIM's entry has left the queue (R59), and the queue entry a SHED_CALL was built for (R39). -/
structure TxFrame where
  frame     : Frame
  urgency   : Urg
  withdrawn : Bool
  shedFor   : Option Chan
  deriving DecidableEq, Repr

/-- The link counters (Table 9.6). -/
structure LinkCounters where
  sent       : Nat
  voided     : Nat
  objections : Nat
  arbLosses  : Nat
  unacked    : Nat
  clashes    : Nat
  refused    : Nat
  toolReject : Nat
  overflows  : Nat
  overruns   : Nat
  deriving DecidableEq, Repr

/-- The Bus Interface (R150, R157, R159, R160, R163, R164). `lineBusy` is a fact of the line: a frame is in progress on
it, seen from its break by this station (`receiving`) or not. -/
structure Bus where
  lineBusy     : Bool
  receiving    : Bool
  free         : Bool
  tx           : Option TxFrame
  counters     : LinkCounters
  unackRun     : Nat
  releaseVoids : Four Nat
  degraded     : Bool
  deriving DecidableEq, Repr

/-! ## Configuration Loader (Chapter 10) -/

/-- The load results (R165). -/
inductive LoadResult where
  | none | running | haltedImage | haltedGroup
  deriving DecidableEq, Repr

/-- Where the image read stands (R167, R168). -/
inductive LoadPhase where
  | idle
  | header
  | rest
  | retryWait (left : Nat)      -- ms
  deriving DecidableEq, Repr

/-- What the loader does on CFG_SCL and CFG_SDA (R167): one clock of the bus check, a start condition, a repeated start, a
byte sent, a byte read with its acknowledgement (`ack`) or without, a stop condition, the release of both lines. -/
inductive LinkOp where
  | clock
  | start
  | restart
  | send (b : Byte)
  | take (b : Byte) (ack : Bool)
  | stop
  | release
  deriving DecidableEq, Repr

/-- The loader's state (R165). `link` is what the loader has done on CFG_SCL and CFG_SDA in its latest attempt, in order
(log 35). -/
structure Loader where
  addr     : Option Addr
  image    : Option Image
  digest   : Option (BitVec 16)
  result   : LoadResult
  attempts : Nat
  bytes    : List Byte
  phase    : LoadPhase
  link     : List LinkOp
  deriving DecidableEq, Repr

/-! ## Fault List and Inquiry Responder (Chapter 11) -/

/-- Fault kinds (Table 11.4). -/
inductive FaultKind where
  | start | configBad | addressClash | recipeFailed | senseLost | holdExceeded | claimExpired | shedInsufficient
  | discordSeen | isolatedEntered | absentSelf | retryExhausted
  deriving DecidableEq, Repr

/-- A fault record (Table 11.3). -/
structure FaultRecord where
  kind      : FaultKind
  ch        : Option Chan
  step      : Option Nat
  peer      : Option Addr
  startKind : Option StartKind
  number    : BitVec 16
  deriving DecidableEq, Repr

/-- The fault list, newest first, and its record counter (R178). -/
structure FaultList where
  records : List FaultRecord
  counter : BitVec 16
  deriving DecidableEq, Repr

/-- The pending answer (R175). -/
structure PendingAnswer where
  selector : Fin 16
  index    : Fin 256
  voids    : Nat
  deriving DecidableEq, Repr

/-- The patterns of STAT (Table 11.5). -/
inductive StatPattern where
  | off | doubleFlash | blink4 | blink1 | steady
  deriving DecidableEq, Repr

/-- The indicator outputs: STAT's pattern and the time it has been shown, and FLT (R83, R180). -/
structure Indicators where
  stat    : StatPattern
  elapsed : Nat                 -- ms
  flt     : Bool
  deriving DecidableEq, Repr

/-! ## The station -/

/-- The state of one station. -/
structure State where
  /-- the commands waiting, first in first out (the model's own field) -/
  pending    : List Instr
  pins       : Pins
  power      : Power
  retention  : Retention
  history    : History
  /-- the Start Table, oldest entry first (R2) -/
  starts     : List StartEntry
  /-- the Draw Table: its present slots by slot number (R28), rising -/
  draws      : List (Nat × DrawSlot)
  queue      : ClaimQueue
  channels   : Four Channel
  inh        : InhFilter
  engine     : Engine
  member     : Membership
  bus        : Bus
  loader     : Loader
  faults     : FaultList
  answer     : Option PendingAnswer
  indicators : Indicators
  /-- an evaluation of the queue head is due at the end of this step (the model's own field; false between steps) -/
  notice     : Bool
  /-- how many free values have been drawn (the model's own field) -/
  freeCount  : Nat
  deriving DecidableEq, Repr

/-! ## Values at start -/

/-- A channel record as R62 sets it at every start. -/
def Channel.atStart : Channel :=
  { state := .idle, latch := false, mark := false, release := .none, settleWithdrawn := false, seq := none, renewals := 0,
    debounced := false, debounceTimer := none, senseGrace := none, shedRest := none, pre := false, main := false }

/-- The Claim Queue at every start (R34, R47, R48, R58). -/
def ClaimQueue.atStart : ClaimQueue :=
  { entries := [], nextStamp := 0, claimSeq := 0, shedCallSeq := 0, shedCall := none, shedNeed := false }

/-- The Recipe Engine at every start (R90). -/
def Engine.atStart : Engine :=
  { running := none, waiting := none, stack := [], renewVoids := Four.same 0, exhausted := Four.same false }

/-- The Membership Unit at every start (R130, R132, R133, R137, R140, R143). The two numbers of the round that is not active,
and what an own request keeps before the first is made, are the model's choice (DESIGN CHOICE, log 38). -/
def Membership.atStart : Membership :=
  { state := .loading, roster := [], discord := false, listenWindow := none, presenceTimer := none, presenceDue := false,
    helloDue := false, helloVoids := 0, ownRequest := none, ownVoids := 0, ownAccepted := false, awaited := [],
    syncTimeout := none, round := { active := false, next := 0, sent := 0 } }

/-- The link counters at every start (R163). -/
def LinkCounters.atStart : LinkCounters :=
  { sent := 0, voided := 0, objections := 0, arbLosses := 0, unacked := 0, clashes := 0, refused := 0, toolReject := 0,
    overflows := 0, overruns := 0 }

/-- The Bus Interface at every start (R164); whether a frame is in progress on the line is no state of the part's. -/
def Bus.atStart (lineBusy : Bool) : Bus :=
  { lineBusy := lineBusy, receiving := false, free := false, tx := none, counters := LinkCounters.atStart, unackRun := 0,
    releaseVoids := Four.same 0, degraded := false }

/-- The loader at every start (R165). -/
def Loader.atStart : Loader :=
  { addr := none, image := none, digest := none, result := .none, attempts := 0, bytes := [], phase := .idle, link := [] }

/-- The indicators while the part is held in reset (R83, R180). -/
def Indicators.atStart : Indicators := { stat := .off, elapsed := 0, flt := false }

/-- The part right after it was first powered: held in reset with VMAIN good and RSTN high, the start delay running
(R118); every piece of state outside the retention domain at its value at start; the retention contents those of a first
power-up, which the validity check finds invalid (R117). -/
def State.reset : State :=
  { pending := []
    pins := { req := Four.same false, sense := Four.same false, inh := false, addr := 0, rstn := true }
    power := { vmain := .good, domain := .vmain, phase := .inReset, warning := false, startDelay := some 50 }
    retention := { samples := Four.same 0, fill := Four.same 0, outages := 0, mainPresent := false, pattern := .other }
    history := { startKind := .cold, joined := false, marks := 0, released := false, sampleTimer := none }
    starts := []
    draws := []
    queue := ClaimQueue.atStart
    channels := Four.same Channel.atStart
    inh := { asserted := false, timer := none }
    engine := Engine.atStart
    member := Membership.atStart
    bus := Bus.atStart false
    loader := Loader.atStart
    faults := { records := [], counter := 0 }
    answer := none
    indicators := Indicators.atStart
    notice := false
    freeCount := 0 }

end Sys2Proof.Machine
end

