-- ==== Sys2Proof/Machine/Tables.lean ====
section
/-! DEFINITION. Reading and writing one of four channels, and one slot of a table that is held as a list of
(number, record) pairs with rising numbers. -/

namespace Sys2Proof

/-- The value of one channel. -/
def Four.get {α : Type} (f : Four α) : Chan → α
  | 0 => f.ch0
  | 1 => f.ch1
  | 2 => f.ch2
  | 3 => f.ch3

/-- Write the value of one channel. -/
def Four.set {α : Type} (f : Four α) (c : Chan) (x : α) : Four α :=
  match c with
  | 0 => { f with ch0 := x }
  | 1 => { f with ch1 := x }
  | 2 => { f with ch2 := x }
  | 3 => { f with ch3 := x }

/-- Apply a function to the value of every channel. -/
def Four.map {α β : Type} (g : α → β) (f : Four α) : Four β :=
  { ch0 := g f.ch0, ch1 := g f.ch1, ch2 := g f.ch2, ch3 := g f.ch3 }

/-- Apply a function of the channel and its value to every channel. -/
def Four.mapChan {α β : Type} (g : Chan → α → β) (f : Four α) : Four β :=
  { ch0 := g 0 f.ch0, ch1 := g 1 f.ch1, ch2 := g 2 f.ch2, ch3 := g 3 f.ch3 }

namespace Machine

/-- The record listed for a number; none where the number is not listed. -/
def slotGet {α : Type} : List (Nat × α) → Nat → Option α
  | [], _ => none
  | (k, v) :: t, n => if k = n then some v else slotGet t n

/-- List a record for a number, in its place among rising numbers. -/
def slotPut {α : Type} : List (Nat × α) → Nat → α → List (Nat × α)
  | [], n, x => [(n, x)]
  | (k, v) :: t, n, x =>
    if k = n then (n, x) :: t else if n < k then (n, x) :: (k, v) :: t else (k, v) :: slotPut t n x

/-- List no record for a number. -/
def slotErase {α : Type} (t : List (Nat × α)) (n : Nat) : List (Nat × α) :=
  t.filter fun kv => kv.1 ≠ n

/-- Rewrite the listed records by number. -/
def slotMap {α : Type} (g : Nat → α → α) (t : List (Nat × α)) : List (Nat × α) :=
  t.map fun kv => (kv.1, g kv.1 kv.2)

/-- The canonical form of a table: its numbers rise strictly. -/
def slotsRise {α : Type} : List (Nat × α) → Bool
  | [] => true
  | [_] => true
  | (a, _) :: (b, v) :: t => decide (a < b) && slotsRise ((b, v) :: t)

/-- Put an element into its place in a list ordered by `before`. -/
def insertBy {α : Type} (before : α → α → Bool) (x : α) : List α → List α
  | [] => [x]
  | y :: ys => if before x y then x :: y :: ys else y :: insertBy before x ys

/-- Order a list by `before`; elements that tie keep their order. -/
def sortBy {α : Type} (before : α → α → Bool) : List α → List α
  | [] => []
  | x :: xs => insertBy before x (sortBy before xs)

end Machine

end Sys2Proof
end

