-- ==== Sys2Proof/Machine/Flags.lean ====
section
/-! DEFINITION. What the station computes from its state without changing it: the sums and the admission test, the shed
set and the shed need, the conditions of an offer, renewal needs, discord, and the levels of STAT and FLT. -/

namespace Sys2Proof.Machine

open Sys2Proof

/-! ## Loaded values and conditions of the part -/

/-- The strapped address (R166). -/
def State.own (s : State) : Addr := s.loader.addr.getD 0

/-- The loaded image (R165). -/
def State.image (s : State) : Image := s.loader.image.getD Image.blank

/-- The group section (Table 10.1). -/
def State.group (s : State) : GroupConfig := s.image.group

/-- The record of an enabled channel. -/
def Verdict.cfg : Verdict → ChannelConfig
  | .enabled k => k
  | .notEnabled => ChannelConfig.blank
  | .invalid _ => ChannelConfig.blank

/-- The loaded configuration of a channel (R165, R172). -/
def State.cfg (s : State) (c : Chan) : ChannelConfig := Verdict.cfg (s.image.channels.get c)

/-- A channel's record. -/
def State.chan (s : State) (c : Chan) : Channel := s.channels.get c

/-- The presence interval in ms (Table 8.1). -/
def State.presenceMs (s : State) : Nat := s.group.presence * 50

/-- The group digest of the loaded image (R171). -/
def State.digest (s : State) : BitVec 16 := s.loader.digest.getD 0

/-- The membership states in which accepted frames are applied (R4, Table 8.4). -/
def MState.applies : MState → Bool
  | .listen | .syncing | .inStep | .isolated => true
  | .loading | .halted => false

/-- SYNCING, IN_STEP or ISOLATED. -/
def MState.joinedUp : MState → Bool
  | .syncing | .inStep | .isolated => true
  | .loading | .halted | .listen => false

/-- The station runs and applies frames. -/
def State.operating (s : State) : Bool := decide (s.power.phase = .running) && s.member.state.applies

/-- The station runs, applies frames, and is not in the power-fail warning: its channels, lines and recipes act. -/
def State.live (s : State) : Bool := s.operating && !s.power.warning

/-- The part waits for its start: in reset, or in the warning condition with VMAIN recovered, the start delay running (R118,
R122). -/
def State.awaitsStart (s : State) : Bool :=
  s.power.startDelay.isSome
    && (decide (s.power.phase = .inReset) || decide (s.power.phase = .running) && s.power.warning)

/-- The station takes part in the frame that ends now: it runs, and it sends the frame, or saw its break, or the frame
began on a free line and brings its break with it (R150, R154). -/
def State.takesPart (s : State) : Bool :=
  s.operating && (s.bus.tx.isSome || s.bus.receiving || !s.bus.lineBusy)

/-! ## Start Table and Draw Table -/

/-- The hold limit of an entry in ms. -/
def StartEntry.limitMs (e : StartEntry) : Nat := e.holdLimit.val * 20

/-- The entry is the one of a pair. -/
def StartEntry.isPair (e : StartEntry) (owner : Addr) (c : Chan) : Bool := decide (e.owner = owner ∧ e.ch = c)

/-- The entry is the one that a frame names: owner, channel and seq (R20). -/
def StartEntry.isNamed (e : StartEntry) (owner : Addr) (c : Chan) (q : Seq) : Bool :=
  decide (e.owner = owner ∧ e.ch = c ∧ e.seq = q)

/-- The entry of a pair. -/
def State.pairEntry (s : State) (owner : Addr) (c : Chan) : Option StartEntry := s.starts.find? (·.isPair owner c)

/-- The entry a frame names (R20). -/
def State.namedEntry (s : State) (owner : Addr) (c : Chan) (q : Seq) : Option StartEntry :=
  s.starts.find? (·.isNamed owner c q)

/-- The number of the slot of a pair (R28). -/
def slotNo (owner : Addr) (c : Chan) : Nat := owner.val * 4 + c.val

/-- The slot of a pair; none where it is empty. -/
def State.drawSlot (s : State) (owner : Addr) (c : Chan) : Option DrawSlot := slotGet s.draws (slotNo owner c)

/-- A slot number belongs to an owner (R28). -/
def ownedSlot (owner : Addr) (n : Nat) : Bool := decide (n / 4 = owner.val)

/-- The inrush sum (R7). -/
def State.inrushSum (s : State) : Nat := (s.starts.map (·.inrush.val)).sum

/-- The steady sum (R7). -/
def State.steadySum (s : State) : Nat := (s.draws.map (·.2.draw.val)).sum + (s.starts.map (·.draw.val)).sum

/-- The draw of the slots marked shed-pending (R34). -/
def State.markedDraw (s : State) : Nat := ((s.draws.filter (·.2.shed.isSome)).map (·.2.draw.val)).sum

/-- The number of Start Table entries of an owner. -/
def State.startCount (s : State) (owner : Addr) : Nat := (s.starts.filter (fun e => decide (e.owner = owner))).length

/-- The number of present Draw Table slots of an owner. -/
def State.drawCount (s : State) (owner : Addr) : Nat := (s.draws.filter (fun kv => ownedSlot owner kv.1)).length

/-- The five verdicts on a claim (R11). -/
inductive Judgement where
  | admitted | duplicate | full | inrush | draw
  deriving DecidableEq, Repr

/-- The inrush limit a configured urgency selects (R8). -/
def State.inrushLimit (s : State) (urgency : Urg) : Nat :=
  if urgency = 0 then s.group.inrushBudget + s.group.criticalMargin else s.group.inrushBudget

/-- The admission test: four checks, the first that fails gives the reason (R8). -/
def State.admissionTest (s : State) (owner : Addr) (c : Chan) (urgency : Urg) (inrush draw : Nat) : Judgement :=
  if (s.pairEntry owner c).isSome || (s.drawSlot owner c).isSome then .duplicate
  else if 32 ≤ s.starts.length then .full
  else if s.inrushLimit urgency < s.inrushSum + inrush then .inrush
  else if s.group.steadyBudget < s.steadySum + draw then .draw
  else .admitted

/-! ## Shedding -/

/-- A present slot is a candidate of a shed call (R36). -/
def shedCandidate (caller : Urg) (d : DrawSlot) : Bool :=
  d.sheddable && d.shed.isNone && decide (caller < d.urgency) && decide (1 ≤ d.draw.val)

/-- The shed order: higher urgency value, larger draw, higher station, higher channel; the last two are the higher slot
number (R36). -/
def shedBefore (a b : Nat × DrawSlot) : Bool :=
  decide (b.2.urgency < a.2.urgency)
    || (decide (a.2.urgency = b.2.urgency)
      && (decide (b.2.draw < a.2.draw) || (decide (a.2.draw = b.2.draw) && decide (b.1 < a.1))))

/-- Take from the front until the draws taken cover the need. -/
def takeDraw : Nat → List (Nat × DrawSlot) → List (Nat × DrawSlot)
  | _, [] => []
  | 0, _ => []
  | need + 1, kv :: rest => kv :: takeDraw (need + 1 - kv.2.draw.val) rest

/-- The candidates of a shed call in shed order (R36). -/
def shedOrder (draws : List (Nat × DrawSlot)) (caller : Urg) : List (Nat × DrawSlot) :=
  sortBy shedBefore (draws.filter fun kv => shedCandidate caller kv.2)

/-- The shed set: empty where all candidates together hold less than the shortfall (R36). -/
def shedSet (draws : List (Nat × DrawSlot)) (caller : Urg) (shortfall : Nat) : List (Nat × DrawSlot) :=
  let order := shedOrder draws caller
  if (order.map (·.2.draw.val)).sum < shortfall then [] else takeDraw shortfall order

/-- The shortfall for a claim of the given draw (R34). -/
def State.shortfall (s : State) (draw : Nat) : Int :=
  (s.steadySum : Int) + draw - s.group.steadyBudget - s.markedDraw

/-! ## Claim Queue -/

/-- The number of PRESENT peers (R130). -/
def State.presentPeers (s : State) : Nat := (s.member.roster.filter (fun kv => decide (kv.2.state = .present))).length

/-- The entry of a channel. -/
def State.queueEntry (s : State) (c : Chan) : Option QueueEntry := s.queue.entries.find? (fun e => decide (e.ch = c))

/-- The order of entries: effective urgency, restore mark, enqueue stamp (R47). -/
def entryBefore (mark : Chan → Bool) (a b : QueueEntry) : Bool :=
  decide (a.eff < b.eff)
    || (decide (a.eff = b.eff)
      && ((mark a.ch && !mark b.ch) || (decide (mark a.ch = mark b.ch) && decide (a.stamp < b.stamp))))

/-- The local pre-check: the admission test on the own copy for the head channel's claim (R53). -/
def State.precheck (s : State) (c : Chan) : Judgement :=
  s.admissionTest s.own c (s.cfg c).urgency (s.cfg c).inrush.val (s.cfg c).draw.val

/-- Condition 4 of R52: the engine could take the start now. -/
def State.engineOpen (s : State) (c : Chan) : Bool :=
  match s.engine.running with
  | none => true
  | some r => decide ((s.cfg c).urgency < (s.cfg r.ch).urgency)

/-- Conditions 1 to 6 of R52. -/
def State.offerable (s : State) (e : QueueEntry) : Bool :=
  (decide (s.member.state = .inStep) || decide (s.member.state = .isolated))
    && !s.inh.asserted
    && (decide (e.eff = 0) || (!s.member.discord && decide (s.group.quorum ≤ s.presentPeers + 1)))
    && s.engineOpen e.ch
    && s.engine.waiting.isNone
    && decide ((s.chan e.ch).release = .none)

/-- All the conditions of R52. -/
def State.offers (s : State) (e : QueueEntry) : Bool := s.offerable e && decide (s.precheck e.ch = .admitted)

/-- The shed need of R33 for a queue entry that is the head. -/
def State.shedNeedOf (s : State) (e : QueueEntry) : Bool :=
  decide ((s.cfg e.ch).urgency = 0) && !e.shedCalled && s.offerable e && decide (s.precheck e.ch = .draw)
    && decide (1 ≤ s.shortfall (s.cfg e.ch).draw.val ∧ s.shortfall (s.cfg e.ch).draw.val ≤ 2047)
    && !(shedSet s.draws 0 (s.shortfall (s.cfg e.ch).draw.val).toNat).isEmpty

/-- The frame in the transmit slot is a CLAIM of the channel (R54). -/
def State.claimOnBus (s : State) (c : Chan) : Bool :=
  match s.bus.tx with
  | some { frame := .claim p, .. } => decide (p.ch = c)
  | _ => false

/-- The frame in the transmit slot is the SETTLED of the channel (R71). -/
def State.settledOnBus (s : State) (c : Chan) : Bool :=
  match s.bus.tx with
  | some { frame := .settled p, .. } => decide (p.ch = c)
  | _ => false

/-! ## Recipe Engine -/

/-- The step in progress of a running slot. -/
def State.stepOf (s : State) (r : RunSlot) : Option Step := (s.cfg r.ch).recipe[r.step]?

/-- The yieldable flag of a step (R89). -/
def stepYields : Step → Bool
  | .dwell _ y => y
  | .await _ _ y => y
  | .drive _ _ => false
  | .check _ => false

/-- The channel's start lies in the engine: running slot, PENDING slot or context stack (R97). -/
def State.tracked (s : State) (c : Chan) : Bool :=
  (match s.engine.running with
    | some r => decide (r.ch = c)
    | none => false)
    || decide (s.engine.waiting = some c)
    || s.engine.stack.any (fun r => decide (r.ch = c))

/-- The step index of a start as a fault record or a CHANNEL record gives it: the step in progress, or the next step of
its context (R100, R177). -/
def State.startStep (s : State) (c : Chan) : Option Nat :=
  match s.engine.running with
  | some r =>
    if r.ch = c then some r.step else (s.engine.stack.find? (fun k => decide (k.ch = c))).map (·.next)
  | none => (s.engine.stack.find? (fun k => decide (k.ch = c))).map (·.next)

/-- The own copy's entry of a channel's present start: own address, channel, current seq (R97). -/
def State.trackedEntry (s : State) (c : Chan) : Option StartEntry :=
  match (s.chan c).seq with
  | some q => s.namedEntry s.own c q
  | none => none

/-- The renewal need of a channel (R98). -/
def State.renewalDue (s : State) (c : Chan) : Bool :=
  s.tracked c && decide ((s.chan c).renewals < 3) && !s.engine.exhausted.get c
    && match s.trackedEntry c with
      | some e => decide (0 < e.remaining ∧ 4 * e.remaining < e.limitMs)
      | none => false

/-! ## Membership -/

/-- The roster slot of an address (R130). -/
def State.peer (s : State) (a : Addr) : RosterSlot := (slotGet s.member.roster a.val).getD RosterSlot.atStart

/-- Some PRESENT peer's known digest differs from the own digest (R137). -/
def State.discordSeen (s : State) : Bool :=
  s.member.roster.any fun kv =>
    decide (kv.2.state = .present) && (match kv.2.digest with | some d => decide (d ≠ s.digest) | none => false)

/-- This station owes a SYNC_REQ naming the peer of a slot (R136). -/
def RosterSlot.requestOwed (x : RosterSlot) : Bool :=
  decide (x.state = .present) && x.suspect && x.requestTimer.isNone

/-- An accepted SYNC_REQ of a target covers an address (R139). -/
def covers (target a : Addr) : Bool := decide (target = 0) || decide (target = a)

/-- SYNCING may be left: the own request has been accepted, no awaited peer has a recount owed while PRESENT, and the own
round is not active (R143). -/
def State.mayLeaveSyncing (s : State) : Bool :=
  decide (s.member.state = .syncing) && s.member.ownAccepted
    && s.member.awaited.all (fun a => !((s.peer a).owed && decide ((s.peer a).state = .present)))
    && !s.member.round.active

/-! ## Indicators -/

/-- The pattern STAT shows, the first row of Table 11.5 that applies (R180). -/
def State.statPattern (s : State) : StatPattern :=
  if s.power.phase ≠ .running || s.power.warning then .off
  else
    match s.member.state with
    | .loading => .off
    | .halted => .doubleFlash
    | .listen | .syncing => if s.member.discord then .blink4 else .blink1
    | .inStep => if s.member.discord then .blink4 else .steady
    | .isolated => .blink4

/-- The level of STAT at a time since its pattern began (Table 11.5); `true` is on. -/
def statLevel (p : StatPattern) (ms : Nat) : Bool :=
  match p with
  | .off => false
  | .steady => true
  | .doubleFlash => decide (ms % 1000 < 100) || (decide (200 ≤ ms % 1000) && decide (ms % 1000 < 300))
  | .blink4 => decide (ms % 250 < 125)
  | .blink1 => decide (ms % 1000 < 500)

/-- Some channel is FAULTED, or the station is HALTED (R83). -/
def State.faulted (s : State) : Bool :=
  decide (s.member.state = .halted)
    || allChans.any (fun c => decide ((s.chan c).state = .faulted))

/-- The level FLT takes: kept from the power-fail warning on, through a loss of power too, until the part is held in reset
or recovers; deasserted from then until the start; otherwise by the channel and membership states (R83, R118). -/
def State.fltLevel (s : State) : Bool :=
  match s.power.phase with
  | .inReset => false
  | .unpowered => s.indicators.flt
  | .running => if s.power.warning then decide (s.power.vmain ≠ .good) && s.indicators.flt else s.faulted

end Sys2Proof.Machine
end

