-- ==== Sys2Proof/WellFormed.lean ====
section
/-! DEFINITION. Which commands can occur: the checks that the operand types do not make already. -/

namespace Sys2Proof

/-- An accepted frame's sender is not 0: a frame from address 0 is faulty at every receiver (R154). -/
def Rx.wf (rx : Rx) : Bool := decide (rx.sender ≠ 0)

/-- A peer or target operand names a station, 1-30 (Table 0.5). -/
def stationAddr (a : Addr) : Bool := decide (a ≠ 0) && decide (a ≠ toolAddr)

/-- A frame's record is one that its kind can carry: an ANSWER has 2-9 payload bytes (R181). -/
def Frame.wf : Frame → Bool
  | .answer p => decide (p.record.length ≤ 7)
  | .claim _ | .renew _ | .settled _ | .abandoned _ | .stopped _ | .expire _ | .shedCall _ | .hello _ | .presence _
  | .syncReq _ | .recount _ | .recountEnd _ | .absent _ | .inquire _ => true

/-- The kind of the frame is INQUIRE. -/
def Frame.isInquire : Frame → Bool
  | .inquire _ => true
  | .claim _ | .renew _ | .settled _ | .abandoned _ | .stopped _ | .expire _ | .shedCall _ | .hello _ | .presence _
  | .syncReq _ | .recount _ | .recountEnd _ | .absent _ | .answer _ => false

/-- The number of payload bytes that the length slots (9th to 12th after the arbitration field's 8 and the kind's 4)
of a received frame give is not checked here: a void frame may hold anything, but it has at least the 16 slots before
the payload (R151). -/
def RawFrame.wf (r : RawFrame) : Bool := decide (16 ≤ r.slots.length)

/-- Well-formed commands. -/
def Instr.wf : Instr → Bool
  | .claim rx _ | .renew rx _ | .settled rx _ | .abandoned rx _ | .expire rx _ | .stopped rx _ | .shedCall rx _
  | .hello rx _ | .presence rx _ | .syncReq rx _ | .recount rx _ | .recountEnd rx _ | .absent rx _
  | .inquire rx _ => rx.wf
  | .answer rx p => rx.wf && (Frame.answer p).wf
  | .toolFrameReject f => f.wf && !f.isInquire
  | .frameVoided raw => raw.wf
  | .holdRunsOutAtPeer owner _ => stationAddr owner
  | .absenceTimeReached peer => stationAddr peer
  | .requestTimerRunsOut peer => stationAddr peer
  | .imageReadComplete rest => decide (rest.length = 107)
  | .clockStretchTimeout _ _ bytes => decide (bytes.length ≤ 107)
  | .arbitrationLost | .addressClash | .frameIncomplete | .frameBreak | .busFree | .holdRunsOutAtOwner _
  | .renewalNeed _ | .reqLevelChange _ _ | .debounceTimerRunsOut _ | .senseChange _ _ | .senseGraceRunsOut _
  | .shedRestRunsOut _ | .inhPinChange _ | .inhAsserted | .inhReleased | .patienceTimerRunsOut _ | .shedWaitRunsOut _
  | .dwellTimeRunsOut _ _ | .awaitTimeoutRunsOut _ _ | .presenceTimerRunsOut | .listenWindowRunsOut | .syncTimeoutRunsOut
  | .sampleTimerRunsOut | .powerFailWarning | .vmainLost | .retentionLoss | .vmainRise | .rstnLow | .rstnRelease
  | .start _ | .imageHeaderRead _ _ _ | .imageAttemptFails _ | .attemptRetryWaitElapsed => true

end Sys2Proof
end

