-- ==== Sys2Proof/Machine/Operands.lean ====
section
/-! DEFINITION. The formats of Chapter 12 and the checks of R151 and R169: codes, payload layouts, frames as slots on
ABL (sent and received), and the configuration image. -/

namespace Sys2Proof.Machine

open Sys2Proof

/-! ## Bits and checks -/

/-- The low `w` bits of a number, most significant first (R151: every field is sent most significant bit first). -/
def bitsOf : Nat → Nat → List Bool
  | 0, _ => []
  | w + 1, n => decide (n / 2 ^ w % 2 = 1) :: bitsOf w n

/-- The number that bits spell, most significant first. -/
def natOfBits (bits : List Bool) : Nat :=
  bits.foldl (fun n b => 2 * n + cond b 1 0) 0

/-- One bit into the frame check: polynomial x⁸ + x² + x + 1 (R151). -/
def crc8Bit (crc : BitVec 8) (bit : Bool) : BitVec 8 :=
  if crc.msb != bit then (crc <<< 1) ^^^ 0x07#8 else crc <<< 1

/-- The check of a frame over its slots in the order sent: initial value 0, no final inversion (R151). -/
def crc8 (bits : List Bool) : BitVec 8 :=
  bits.foldl crc8Bit 0

/-- One bit into the image check: polynomial x¹⁶ + x¹² + x⁵ + 1 (R169). -/
def crc16Bit (crc : BitVec 16) (bit : Bool) : BitVec 16 :=
  if crc.msb != bit then (crc <<< 1) ^^^ 0x1021#16 else crc <<< 1

/-- The check of the image and the group digest: initial value all ones, bit 7 of each byte first (R169, R171). -/
def crc16 (bytes : List Byte) : BitVec 16 :=
  (bytes.flatMap fun b => bitsOf 8 b.toNat).foldl crc16Bit 0xFFFF#16

/-- Bits `lo` upward of a byte, `w` of them, as a number. -/
def field (b : Byte) (lo w : Nat) : Nat :=
  b.toNat / 2 ^ lo % 2 ^ w

/-- One bit of a byte. -/
def flag (b : Byte) (i : Nat) : Bool :=
  decide (field b i 1 = 1)

/-- A byte from a number. -/
def byteOf (n : Nat) : Byte := BitVec.ofNat 8 n

/-- 1 for set, 0 for clear. -/
def bit (b : Bool) : Nat := cond b 1 0

/-- Two bytes of a 16-bit value, most significant first (Chapter 12). -/
def wordBytes (w : BitVec 16) : List Byte := [byteOf (w.toNat / 256), byteOf (w.toNat % 256)]

/-- A 16-bit value from its two bytes. -/
def wordOf (hi lo : Byte) : BitVec 16 := BitVec.ofNat 16 (hi.toNat * 256 + lo.toNat)

/-! ## Codes (Tables 12.3 and 12.4) -/

def Reason.code : Reason → Fin 16
  | .requestOff => 1
  | .inhibit => 2
  | .recipeFailed => 3
  | .holdExceeded => 4
  | .shed => 5
  | .senseLost => 6

def StartKind.code : StartKind → Fin 4
  | .cold => 0
  | .outage => 1
  | .pin => 2

/-- The start kind a HELLO carries; code 3 is recorded as unknown (R183). -/
def startKindOf (n : Fin 4) : Option StartKind :=
  if n = 0 then some .cold else if n = 1 then some .outage else if n = 2 then some .pin else none

def MState.code : MState → Fin 8
  | .loading => 0
  | .halted => 1
  | .listen => 2
  | .syncing => 3
  | .inStep => 4
  | .isolated => 5

/-- The membership state a PRESENCE reports; a code outside 2-5 is recorded as unknown (R183). -/
def reportedStateOf (n : Fin 8) : Option MState :=
  if n = 2 then some .listen else if n = 3 then some .syncing else if n = 4 then some .inStep
  else if n = 5 then some .isolated else none

def ChanState.code : ChanState → Nat
  | .disabled => 0
  | .idle => 1
  | .queued => 2
  | .claiming => 3
  | .pending => 4
  | .starting => 5
  | .suspended => 6
  | .settling => 7
  | .on => 8
  | .shed => 9
  | .faulted => 10

def Release.kindCode : Release → Nat
  | .none => 0
  | .settled => 1
  | .abandoned _ => 2
  | .stopped _ => 3

def Release.reasonCode : Release → Nat
  | .none => 0
  | .settled => 0
  | .abandoned r => r.code.val
  | .stopped r => r.code.val

def PeerState.code : PeerState → Nat
  | .unknown => 0
  | .present => 1
  | .absent => 2

def FaultKind.code : FaultKind → Nat
  | .start => 1
  | .configBad => 2
  | .addressClash => 3
  | .recipeFailed => 4
  | .senseLost => 5
  | .holdExceeded => 6
  | .claimExpired => 7
  | .shedInsufficient => 8
  | .discordSeen => 9
  | .isolatedEntered => 10
  | .absentSelf => 11
  | .retryExhausted => 12

/-! ## Frames as bytes (Tables 12.1 and 12.2) -/

/-- The kind code (Table 12.1). -/
def frameKind : Frame → Nat
  | .claim _ => 1
  | .renew _ => 2
  | .settled _ => 3
  | .abandoned _ => 4
  | .stopped _ => 5
  | .expire _ => 6
  | .shedCall _ => 7
  | .hello _ => 8
  | .presence _ => 9
  | .syncReq _ => 10
  | .recount _ => 11
  | .recountEnd _ => 12
  | .absent _ => 13
  | .inquire _ => 14
  | .answer _ => 15

/-- The payload bytes a station sends; unused bits are 0 (R182). -/
def framePayload : Frame → List Byte
  | .claim p =>
    [byteOf (p.ch.val * 64 + p.urgency.val * 8 + bit p.sheddable * 4), p.seq, byteOf (p.inrush.val * 4),
      byteOf (p.draw.val * 4), byteOf p.hold.val]
  | .renew p => [byteOf (p.ch.val * 64 + p.count.val), p.seq]
  | .settled p => [byteOf (p.ch.val * 64), p.seq]
  | .abandoned p => [byteOf (p.ch.val * 64 + p.reason.val), p.seq]
  | .stopped p => [byteOf (p.ch.val * 64 + p.reason.val)]
  | .expire p => [byteOf (p.owner.val * 8 + p.ch.val), p.seq]
  | .shedCall p =>
    [byteOf (p.callerUrgency.val * 32 + p.shortfall.val / 256), byteOf (p.shortfall.val % 256), p.callSeq]
  | .hello p => wordBytes p.digest ++ [byteOf p.startKind.val, byteOf p.outages.val]
  | .presence p => [byteOf (p.mstate.val * 32 + p.draws.val), byteOf p.starts.val] ++ wordBytes p.digest
  | .syncReq t => [byteOf t.val]
  | .recount p =>
    [byteOf (bit p.isDraw * 128 + p.ch.val * 32 + p.urgency.val * 4 + bit p.sheddable * 2),
      byteOf (p.inrush.val * 4 + p.renewals.val), byteOf (p.draw.val * 4), byteOf p.hold.val, p.seq]
  | .recountEnd n => [byteOf n.val]
  | .absent t => [byteOf t.val]
  | .inquire p => [byteOf p.target.val, byteOf p.selector.val, byteOf p.index.val]
  | .answer p => byteOf (p.selector.val * 16 + p.status.val) :: byteOf p.index.val :: p.record

/-- The frame a kind code and a payload spell. None where the length is wrong for the kind, or the kind is 0 (R181).
Unused bits are read as if they were 0 (R182). -/
def readPayload (kind : Nat) (bytes : List Byte) : Option Frame :=
  match kind, bytes with
  | 1, [b0, b1, b2, b3, b4] =>
    some (.claim
      { ch := Fin.ofNat 4 (field b0 6 2), seq := b1, urgency := Fin.ofNat 8 (field b0 3 3),
        sheddable := flag b0 2, inrush := Fin.ofNat 64 (field b2 2 6), draw := Fin.ofNat 64 (field b3 2 6),
        hold := Fin.ofNat 256 b4.toNat })
  | 2, [b0, b1] => some (.renew { ch := Fin.ofNat 4 (field b0 6 2), seq := b1, count := Fin.ofNat 16 (field b0 0 4) })
  | 3, [b0, b1] => some (.settled { ch := Fin.ofNat 4 (field b0 6 2), seq := b1 })
  | 4, [b0, b1] =>
    some (.abandoned
      { ch := Fin.ofNat 4 (field b0 6 2), seq := b1, reason := Fin.ofNat 16 (field b0 0 4) })
  | 5, [b0] => some (.stopped { ch := Fin.ofNat 4 (field b0 6 2), reason := Fin.ofNat 16 (field b0 0 4) })
  | 6, [b0, b1] =>
    some (.expire
      { owner := Fin.ofNat 32 (field b0 3 5), ch := Fin.ofNat 4 (field b0 0 2), seq := b1 })
  | 7, [b0, b1, b2] =>
    some (.shedCall
      { callerUrgency := Fin.ofNat 8 (field b0 5 3),
        shortfall := Fin.ofNat 2048 (field b0 0 3 * 256 + b1.toNat), callSeq := b2 })
  | 8, [b0, b1, b2, b3] =>
    some (.hello
      { digest := wordOf b0 b1, startKind := Fin.ofNat 4 (field b2 0 2), outages := Fin.ofNat 256 b3.toNat })
  | 9, [b0, b1, b2, b3] =>
    some (.presence
      { mstate := Fin.ofNat 8 (field b0 5 3), draws := Fin.ofNat 8 (field b0 0 3),
        starts := Fin.ofNat 64 (field b1 0 6), digest := wordOf b2 b3 })
  | 10, [b0] => some (.syncReq (Fin.ofNat 32 (field b0 0 5)))
  | 11, [b0, b1, b2, b3, b4] =>
    some (.recount
      { isDraw := flag b0 7, ch := Fin.ofNat 4 (field b0 5 2), urgency := Fin.ofNat 8 (field b0 2 3),
        sheddable := flag b0 1, inrush := Fin.ofNat 64 (field b1 2 6), draw := Fin.ofNat 64 (field b2 2 6),
        renewals := Fin.ofNat 4 (field b1 0 2), hold := Fin.ofNat 256 b3.toNat, seq := b4 })
  | 12, [b0] => some (.recountEnd (Fin.ofNat 8 (field b0 0 3)))
  | 13, [b0] => some (.absent (Fin.ofNat 32 (field b0 0 5)))
  | 14, [b0, b1, b2] =>
    some (.inquire
      { target := Fin.ofNat 32 (field b0 0 5), selector := Fin.ofNat 16 (field b1 0 4),
        index := Fin.ofNat 256 b2.toNat })
  | 15, b0 :: b1 :: record =>
    if record.length ≤ 7 then
      some (.answer
        { selector := Fin.ofNat 16 (field b0 4 4), status := Fin.ofNat 16 (field b0 0 4),
          index := Fin.ofNat 256 b1.toNat, record := record })
    else none
  | _, _ => none

/-! ## Frames as slots (R148, R149, R151, R154) -/

/-- The slot length T in ns of a bit-rate code (Table 9.1). -/
def slotTime (code : Nat) : Nat :=
  if code = 0 then 100000 else if code = 1 then 50000 else if code = 2 then 20000 else 10000

/-- The slots that the check covers: arbitration field, kind, length, payload (R151). -/
def coveredBits (urgency : Urg) (sender : Addr) (f : Frame) : List Bool :=
  bitsOf 3 urgency.val ++ bitsOf 5 sender.val ++ bitsOf 4 (frameKind f) ++ bitsOf 4 (framePayload f).length
    ++ (framePayload f).flatMap fun b => bitsOf 8 b.toNat

/-- The slots of a frame from the arbitration field to the check, in the order sent (R151). -/
def frameBits (urgency : Urg) (sender : Addr) (f : Frame) : List Bool :=
  coveredBits urgency sender f ++ bitsOf 8 (crc8 (coveredBits urgency sender f)).toNat

/-- A slot as its sender drives it: a 1 holds the line low for T/4, a 0 for 3T/4; the next slot begins T after it (R148). -/
def driveSlot (t : Nat) (b : Bool) : Slot :=
  { low := if b then t / 4 else 3 * t / 4, next := some t }

/-- A whole frame as its sender drives it: break 6T, first slot 7T after its falling edge (R150). -/
def driveFrame (t : Nat) (urgency : Urg) (sender : Addr) (f : Frame) : RawFrame :=
  { breakLow := 6 * t, breakGap := t, slots := (frameBits urgency sender f).map (driveSlot t) }

/-- The value of a received slot by its shape; none where the shape is illegal (Table 9.2). -/
def readSlot (t : Nat) (x : Slot) : Option Bool :=
  match x.next with
  | none => none
  | some n =>
    if 7 * t ≤ 8 * n ∧ 8 * n ≤ 9 * t then
      if t ≤ 8 * x.low ∧ 8 * x.low ≤ 3 * t then some true
      else if 5 * t ≤ 8 * x.low ∧ 8 * x.low ≤ 7 * t then some false
      else none
    else none

/-- The values of received slots; none where one has an illegal shape. -/
def readSlots (t : Nat) : List Slot → Option (List Bool)
  | [] => some []
  | x :: xs =>
    match readSlot t x, readSlots t xs with
    | some b, some bs => some (b :: bs)
    | _, _ => none

/-- The break is legal: low for 5T to 7T, first slot T/2 to 2T after the end of the low (Table 9.2). -/
def breakLegal (t : Nat) (r : RawFrame) : Bool :=
  decide (5 * t ≤ r.breakLow ∧ r.breakLow ≤ 7 * t ∧ t ≤ 2 * r.breakGap ∧ r.breakGap ≤ 2 * t)

/-- The value of a slot sampled T/2 after its falling edge: low reads 0 and high reads 1, whatever the slot's shape (R148). -/
def sampleSlot (t : Nat) (x : Slot) : Bool := decide (2 * x.low ≤ t)

/-- The slots due from the arbitration field to the check, by the length field as read (R151). -/
def dueSlots (t : Nat) (slots : List Slot) : Nat :=
  24 + 8 * natOfBits (((slots.drop 12).take 4).map (sampleSlot t))

/-- The line stays high past 9T/8 after the begin of a slot, where a further slot is due (R149). -/
def staysHigh (t : Nat) (x : Slot) : Bool :=
  match x.next with
  | none => true
  | some n => decide (8 * x.low < 9 * t ∧ 9 * t < 8 * n)

/-- A received frame is incomplete: the line stays high where a slot is due, stays low beyond 7T, or falls for a further
slot after the last due (R149, R151, R156). -/
def frameIncomplete (t : Nat) (r : RawFrame) : Bool :=
  decide (7 * t < r.breakLow) || decide (r.slots.length ≠ dueSlots t r.slots)
    || r.slots.any fun x => staysHigh t x || decide (7 * t < x.low)

/-- The first `n` bytes that slots spell. -/
def bytesOfBits : Nat → List Bool → List Byte
  | 0, _ => []
  | n + 1, bits => byteOf (natOfBits (bits.take 8)) :: bytesOfBits n (bits.drop 8)

/-- What a good frame's slots say: sender and frame. None where the frame is faulty: a check that does not match, kind 0,
a length over 10 or wrong for the kind, sender 0 (R154, R181). -/
def readBits (bits : List Bool) : Option (Addr × Frame) :=
  let sender := Fin.ofNat 32 (natOfBits ((bits.drop 3).take 5))
  let kind := natOfBits ((bits.drop 8).take 4)
  let len := natOfBits ((bits.drop 12).take 4)
  let covered := bits.take (16 + 8 * len)
  let check := (bits.drop (16 + 8 * len)).take 8
  if bits.length = 24 + 8 * len ∧ len ≤ 10 ∧ sender ≠ 0 ∧ (crc8 covered).toNat = natOfBits check then
    match readPayload kind (bytesOfBits len (bits.drop 16)) with
    | some f => some (sender, f)
    | none => none
  else none

/-- A received frame judged by R154: its sender and content where it is good, none where it is faulty. -/
def readFrame (t : Nat) (r : RawFrame) : Option (Addr × Frame) :=
  if breakLegal t r then
    match readSlots t r.slots with
    | some bits => readBits bits
    | none => none
  else none

/-- The command that an accepted frame is (Table 9.3, R162). -/
def commandOf (rx : Rx) (f : Frame) : Instr :=
  if rx.sender = toolAddr ∧ f.isInquire = false then .toolFrameReject f
  else
    match f with
    | .claim p => .claim rx p
    | .renew p => .renew rx p
    | .settled p => .settled rx p
    | .abandoned p => .abandoned rx p
    | .stopped p => .stopped rx p
    | .expire p => .expire rx p
    | .shedCall p => .shedCall rx p
    | .hello p => .hello rx p
    | .presence p => .presence rx p
    | .syncReq t => .syncReq rx t
    | .recount p => .recount rx p
    | .recountEnd n => .recountEnd rx n
    | .absent t => .absent rx t
    | .inquire p => .inquire rx p
    | .answer p => .answer rx p

/-! ## The serial memory link (R167) -/

/-- The device address 1010000b with its direction bit, 1 to read. -/
def deviceByte (read : Bool) : Byte := if read then 0xA1#8 else 0xA0#8

/-- The bus check, step 1: CFG_SCL is clocked until CFG_SDA is released, and a stop condition is sent; nothing where
CFG_SDA stands high. -/
def busCheck (clocks : Fin 10) : List LinkOp :=
  if clocks = 0 then [] else List.replicate clocks.val .clock ++ [.stop]

/-- Steps 1 to 3 up to the first byte read: bus check, offset write, repeated start, device address to read. -/
def openRead (clocks : Fin 10) : List LinkOp :=
  busCheck clocks ++ [.start, .send (deviceByte false), .send 0#8, .restart, .send (deviceByte true)]

/-- What the loader does in an attempt that fails before its first byte is read: a stop condition where the link allows
one, and both lines released. -/
def failedLink : LinkFailure → List LinkOp
  | .stuck => List.replicate 9 .clock ++ [.release]
  | .addressWrite clocks => busCheck clocks ++ [.start, .send (deviceByte false), .stop, .release]
  | .offset clocks => busCheck clocks ++ [.start, .send (deviceByte false), .send 0#8, .stop, .release]
  | .addressRead clocks => openRead clocks ++ [.stop, .release]

/-- Bytes read in sequence with `left` bytes of the image still to come: each is acknowledged but the image's last
(steps 3 and 5). -/
def readBytes : Nat → List Byte → List LinkOp
  | _, [] => []
  | left, b :: bs => .take b (decide (left ≠ 1)) :: readBytes (left - 1) bs

/-- Bytes read in sequence to the end of the image. -/
def readRest (bytes : List Byte) : List LinkOp := readBytes bytes.length bytes

/-- What was done up to a clock that the target held low before the header had been read whole: the first operations, or,
where the format tag had come, all of them and that byte. -/
def stretchedHeader (clocks : Fin 10) (done : Nat) : List Byte → List LinkOp
  | [] => (openRead clocks).take done
  | tag :: _ => openRead clocks ++ [.take tag true]

/-- One clock of CFG_SCL with CFG_SDA at a level. -/
def clockLevels (sda : Bool) : List (Bool × Bool) := [(false, sda), (true, sda), (false, sda)]

/-- The levels of CFG_SCL and CFG_SDA that the loader drives for an operation, in order; `true` is high, that is, released.
A start condition is a fall of CFG_SDA while CFG_SCL is high, a stop condition a rise; a byte is sent bit 7 first, and its
receiver acknowledges it in a ninth clock by holding CFG_SDA low. One line changes at a time, but where both are let go. -/
def LinkOp.levels : LinkOp → List (Bool × Bool)
  | .clock => [(false, true), (true, true)]
  | .start => [(true, true), (true, false), (false, false)]
  | .restart => [(false, true), (true, true), (true, false), (false, false)]
  | .send b => (bitsOf 8 b.toNat).flatMap clockLevels ++ clockLevels true
  | .take _ ack => (List.replicate 8 true).flatMap clockLevels ++ clockLevels (!ack)
  | .stop => [(false, true), (false, false), (true, false), (true, true)]
  | .release => [(true, true)]

/-! ## The configuration image (R169, R170, R172, R185) -/

/-- The byte at an offset. -/
def byteAt (bytes : List Byte) (i : Nat) : Byte := bytes.getD i 0

/-- The header of R169: the format tag 10100100b and the image length 109 (R185). -/
def headerPasses (tag len : Byte) : Bool := decide (tag = 0xA4#8 ∧ len = 109#8)

/-- The image is accepted: tag, length, and the check over every byte before it (R169). -/
def imageAccepted (bytes : List Byte) : Bool :=
  decide (bytes.length = 109) && headerPasses (byteAt bytes 0) (byteAt bytes 1)
    && decide (crc16 (bytes.take 107) = wordOf (byteAt bytes 107) (byteAt bytes 108))

/-- The group section (Table 12.6). -/
def groupSection (bytes : List Byte) : GroupConfig :=
  { bitRate := field (byteAt bytes 2) 0 2
    presence := (byteAt bytes 3).toNat
    inrushBudget := (byteAt bytes 4).toNat
    criticalMargin := (byteAt bytes 5).toNat
    steadyBudget := field (byteAt bytes 6) 0 3 * 256 + (byteAt bytes 7).toNat
    quorum := (byteAt bytes 8).toNat }

/-- The station section (Table 12.6). -/
def stationSection (bytes : List Byte) : StationConfig :=
  { samplePeriod := (byteAt bytes 9).toNat, shedRest := (byteAt bytes 10).toNat }

/-- Every field of the group section lies in its range (R170, Table 10.1). -/
def groupPasses (g : GroupConfig) : Bool :=
  decide (2 ≤ g.presence ∧ g.presence ≤ 100 ∧ 1 ≤ g.inrushBudget ∧ g.inrushBudget ≤ 255 ∧ g.criticalMargin ≤ 63
    ∧ 1 ≤ g.steadyBudget ∧ g.steadyBudget ≤ 2047 ∧ 1 ≤ g.quorum ∧ g.quorum ≤ 30 ∧ g.bitRate ≤ 3)

/-- Every field of the station section lies in its range (R170, Table 10.1). -/
def stationPasses (c : StationConfig) : Bool :=
  decide (1 ≤ c.samplePeriod ∧ c.samplePeriod ≤ 25 ∧ 1 ≤ c.shedRest ∧ c.shedRest ≤ 255)

/-- The group digest: the CRC of R169 over bytes 2-8 (R171, R185). -/
def groupDigest (bytes : List Byte) : BitVec 16 := crc16 ((bytes.drop 2).take 7)

/-- One step slot (Table 12.7); none where it fails Table 10.2. -/
def readStep (b0 b1 : Byte) : Option Step :=
  match field b0 5 3 with
  | 0 => some (.drive (flag b0 3) (flag b0 2))
  | 1 => if b1.toNat = 0 then none else some (.dwell b1.toNat (flag b0 4))
  | 2 => if b1.toNat = 0 then none else some (.await (flag b0 2) b1.toNat (flag b0 4))
  | 3 => some (.check (flag b0 2))
  | _ => none

/-- The first `n` steps of a channel record, from step `i` on; or the index of the first that fails (R172). -/
def readSteps : Nat → Nat → List Byte → Except Nat (List Step)
  | 0, _, _ => .ok []
  | n + 1, i, bytes =>
    match readStep (byteAt bytes 0) (byteAt bytes 1) with
    | none => .error i
    | some st =>
      match readSteps n (i + 1) (bytes.drop 2) with
      | .ok sts => .ok (st :: sts)
      | .error j => .error j

/-- The restore policy of bits 2-1 of a channel record's first byte; 3 is undefined (R185). -/
def readRestore (n : Nat) : Option RestorePolicy :=
  if n = 0 then some .off else if n = 1 then some .on else if n = 2 then some .previous else none

/-- The loader's verdict on one channel record of 24 bytes (R172, Table 10.2). The fields before the steps are judged
first; the first failing field decides whether a step index is recorded. -/
def judgeRecord (g : GroupConfig) (r : List Byte) : Verdict :=
  let b0 := byteAt r 0
  let b1 := byteAt r 1
  if flag b0 7 then
    let debounce := field b1 4 4
    let urgency : Urg := Fin.ofNat 8 (field b1 0 3)
    let inrush := field (byteAt r 3) 2 6
    let draw := field (byteAt r 4) 2 6
    let lookBack := field (byteAt r 7) 4 4
    let count := field (byteAt r 7) 0 4
    let limit := if urgency = 0 then g.inrushBudget + g.criticalMargin else g.inrushBudget
    match readRestore (field b0 1 2) with
    | none => .invalid none
    | some restore =>
      if 1 ≤ debounce ∧ 1 ≤ (byteAt r 2).toNat ∧ 1 ≤ inrush ∧ inrush ≤ limit ∧ draw ≤ g.steadyBudget
          ∧ 1 ≤ (byteAt r 5).toNat ∧ lookBack ≤ 7 ∧ 1 ≤ count ∧ count ≤ 8 then
        match readSteps count 0 (r.drop 8) with
        | .error i => .invalid (some i)
        | .ok steps =>
          .enabled
            { requestMode := if flag b0 6 then .toggle else .level
              debounce := debounce
              senseRequired := flag b0 5
              senseGrace := (byteAt r 2).toNat
              sheddable := flag b0 4
              urgency := urgency
              inrush := Fin.ofNat 64 inrush
              draw := Fin.ofNat 64 draw
              holdLimit := Fin.ofNat 256 (byteAt r 5).toNat
              patience := (byteAt r 6).toNat
              suspendPolicy := if flag b0 3 then .park else .hold
              restorePolicy := restore
              lookBack := lookBack
              recipe := steps }
      else .invalid none
  else .notEnabled

/-- The 24 bytes of a channel's record (Table 12.6). -/
def recordBytes (bytes : List Byte) (c : Chan) : List Byte := (bytes.drop (11 + 24 * c.val)).take 24

/-- The loaded image of accepted bytes whose group and station sections pass. -/
def readImage (bytes : List Byte) : Image :=
  let g := groupSection bytes
  { group := g
    station := stationSection bytes
    channels :=
      { ch0 := judgeRecord g (recordBytes bytes 0), ch1 := judgeRecord g (recordBytes bytes 1),
        ch2 := judgeRecord g (recordBytes bytes 2), ch3 := judgeRecord g (recordBytes bytes 3) } }

end Sys2Proof.Machine
end

