-- ==== Sys2Proof/Machine/Answers.lean ====
section
/-! DEFINITION. What the Inquiry Responder reads: the record each selector and index names, laid out as Table 12.5. -/

namespace Sys2Proof.Machine

open Sys2Proof

/-- A link counter as two bytes (Table 12.5). -/
def counterBytes (n : Nat) : List Byte := wordBytes (BitVec.ofNat 16 n)

/-- STATION, index 0 (Table 11.2, Table 12.5). -/
def stationRecord (s : State) : List Byte :=
  [byteOf (s.member.state.code.val * 32 + bit s.member.discord * 16 + s.history.startKind.code.val),
    byteOf s.retention.outages.val, byteOf s.starts.length, byteOf s.draws.length,
    byteOf (s.queue.entries.length * 16 + s.engine.stack.length)]

/-- ROSTER: the slot of an address (Table 8.3, Table 12.5). -/
def rosterRecord (x : RosterSlot) : List Byte :=
  [byteOf (x.state.code * 64 + bit x.suspect * 32 + bit x.owed * 16 + bit x.absentPending * 8 + bit x.digest.isSome * 4
      + (match x.startKind with
        | some k => k.code.val
        | none => 3))]
    ++ wordBytes (x.digest.getD 0)
    ++ [byteOf (if x.startKind.isSome then (x.outages.getD 0).val else 0),
      byteOf ((match x.reported with
          | some m => m.code.val
          | none => 7) * 32 + bit x.repStarts.isSome * 16 + (x.repDraws.getD 0).val),
      byteOf (match x.repStarts with
        | some n => n.val
        | none => 255)]

/-- START: the entry at a position of the admission order (Table 1.3, Table 12.5). -/
def startRecord (e : StartEntry) : List Byte :=
  [byteOf (e.owner.val * 8 + e.ch.val), e.seq,
    byteOf (e.urgency.val * 32 + bit e.sheddable * 16 + bit e.expirePending * 8 + bit e.unconfirmed * 4 + e.renewals.val),
    byteOf (e.inrush.val * 4), byteOf (e.draw.val * 4), byteOf e.holdLimit.val, byteOf (e.remaining / 20)]

/-- DRAW: the slot of a number; an empty slot gives four bytes of 0 (Table 2.1, Table 12.5). -/
def drawRecord : Option DrawSlot → List Byte
  | none => [0, 0, 0, 0]
  | some d =>
    [byteOf (128 + bit d.shed.isSome * 64 + bit d.unconfirmed * 32 + bit d.sheddable * 16 + d.urgency.val),
      byteOf (d.draw.val * 4),
      byteOf (match d.shed with
        | some m => m.caller.val
        | none => 0),
      (match d.shed with
        | some m => m.callSeq
        | none => 0)]

/-- The step index a CHANNEL record gives: the step in progress in STARTING, the next step of the context in SUSPENDED,
absent otherwise (Table 11.2). -/
def reportedStep (s : State) (c : Chan) : Option Nat :=
  match (s.chan c).state with
  | .starting => s.startStep c
  | .suspended => s.startStep c
  | .disabled | .idle | .queued | .claiming | .pending | .settling | .on | .shed | .faulted => none

/-- The queue fields a CHANNEL record gives: for QUEUED and CLAIMING only (R184). -/
def reportedEntry (s : State) (c : Chan) : Option QueueEntry :=
  if (s.chan c).state = .queued ∨ (s.chan c).state = .claiming then s.queueEntry c else none

/-- CHANNEL: the record of a channel (Table 4.1, Table 12.5). -/
def channelRecord (s : State) (c : Chan) : List Byte :=
  let k := s.chan c
  [byteOf (k.state.code * 16 + bit k.latch * 8 + bit k.mark * 4 + bit k.settleWithdrawn * 2 + bit k.debounced),
    byteOf (k.release.kindCode * 64 + k.release.reasonCode * 4 + bit k.pre * 2 + bit k.main),
    k.seq.getD 0,
    byteOf (bit k.seq.isSome * 128 + k.renewals.val * 32 + bit (reportedStep s c).isSome * 16
      + (reportedStep s c).getD 0),
    byteOf (match reportedEntry s c with
      | some e => 128 + e.eff.val
      | none => 0)]
    ++ wordBytes (match reportedEntry s c with
      | some e => BitVec.ofNat 16 e.stamp
      | none => 0)

/-- HISTORY: a channel's samples, position 0 in bit 7, and its fill count (Table 12.5). -/
def historyRecord (s : State) (c : Chan) : List Byte :=
  [s.retention.samples.get c, byteOf (s.retention.fill.get c)]

/-- FAULT: a fault record (Table 11.3, Table 12.5). -/
def faultRecord (r : FaultRecord) : List Byte :=
  [byteOf (r.kind.code * 16 + bit r.ch.isSome * 8 + bit r.step.isSome * 4 + (r.ch.getD 0).val),
    byteOf (r.step.getD 0 * 32 + (r.peer.getD 0).val),
    byteOf (match r.startKind with
      | some k => k.code.val
      | none => 0)]
    ++ wordBytes r.number

/-- LINK: a link counter, or at index 10 the status record (R163, Table 12.5). -/
def linkRecord (b : Bus) (index : Nat) : List Byte :=
  match index with
  | 0 => counterBytes b.counters.sent
  | 1 => counterBytes b.counters.voided
  | 2 => counterBytes b.counters.objections
  | 3 => counterBytes b.counters.arbLosses
  | 4 => counterBytes b.counters.unacked
  | 5 => counterBytes b.counters.clashes
  | 6 => counterBytes b.counters.refused
  | 7 => counterBytes b.counters.toolReject
  | 8 => counterBytes b.counters.overflows
  | 9 => counterBytes b.counters.overruns
  | _ => [byteOf (bit b.degraded * 128), byteOf b.unackRun]

/-- The record that a selector and an index name; none where they name none (R177, Table 11.2). -/
def recordOf (s : State) (selector : Fin 16) (index : Fin 256) : Option (List Byte) :=
  match selector.val with
  | 1 => if index = 0 then some (stationRecord s) else none
  | 2 =>
    if 1 ≤ index.val ∧ index.val ≤ 30 ∧ index.val ≠ s.own.val then
      some (rosterRecord (s.peer (Fin.ofNat 32 index.val)))
    else none
  | 3 => (s.starts[index.val]?).map startRecord
  | 4 => if 4 ≤ index.val ∧ index.val ≤ 123 then some (drawRecord (slotGet s.draws index.val)) else none
  | 5 => if index.val ≤ 3 then some (channelRecord s (Fin.ofNat 4 index.val)) else none
  | 6 => if index.val ≤ 3 then some (historyRecord s (Fin.ofNat 4 index.val)) else none
  | 7 => (s.faults.records[index.val]?).map faultRecord
  | 8 => if index.val ≤ 10 then some (linkRecord s.bus index.val) else none
  | _ => none

/-- The ANSWER to a pending answer, read from the state of the moment (R176, R177): status 0 OK with the record, or
status 1 NO_RECORD without one. -/
def answerFrame (s : State) (p : PendingAnswer) : AnswerPayload :=
  match recordOf s p.selector p.index with
  | some r => { selector := p.selector, status := 0, index := p.index, record := r }
  | none => { selector := p.selector, status := 1, index := p.index, record := [] }

end Sys2Proof.Machine
end

