-- ==== Sys2Proof/Machine/Ops.lean ====
section
/-! DEFINITION. The shared operations: fault records, channel and roster updates, the Claim Queue and its evaluation, the
Recipe Engine and its context stack, demand, aborts, membership transitions, HALTED, reset, and what ends every step. -/

namespace Sys2Proof.Machine

open Sys2Proof

/-! ## Small updates -/

/-- A counter that rises by one and saturates (R157, R159, R163). -/
def satSucc (limit n : Nat) : Nat := if n < limit then n + 1 else limit

/-- Rewrite a channel's record. -/
def State.modChan (s : State) (c : Chan) (f : Channel → Channel) : State :=
  { s with channels := s.channels.set c (f (s.channels.get c)) }

/-- A notice to the Claim Queue: its head is evaluated at the end of the step (R6, R32, R51). -/
def State.notify (s : State) : State := { s with notice := true }

/-- Rewrite the roster slot of an address; a slot that reads as at start is not listed. -/
def State.modPeer (s : State) (a : Addr) (f : RosterSlot → RosterSlot) : State :=
  let x := f (s.peer a)
  { s with member.roster :=
      if x = RosterSlot.atStart then slotErase s.member.roster a.val else slotPut s.member.roster a.val x }

/-- Rewrite every listed roster slot. -/
def State.mapPeers (s : State) (f : Nat → RosterSlot → RosterSlot) : State :=
  { s with member.roster := (slotMap f s.member.roster).filter fun kv => kv.2 ≠ RosterSlot.atStart }

/-- Rewrite the link counters (R163). -/
def State.tally (s : State) (f : LinkCounters → LinkCounters) : State :=
  { s with bus.counters := f s.bus.counters }

/-- Append a record to the fault list: newest first, eight at most, numbered by the record counter (R179). -/
def State.log (s : State) (kind : FaultKind) (ch : Option Chan) (step : Option Nat) (peer : Option Addr) : State :=
  { s with faults :=
      { records :=
          ({ kind := kind, ch := ch, step := step, peer := peer, startKind := none, number := s.faults.counter }
            :: s.faults.records).take 8
        counter := s.faults.counter + 1 } }

/-- Both outputs of a channel to off level (R65). -/
def State.outsOff (s : State) (c : Chan) : State := s.modChan c fun k => { k with pre := false, main := false }

/-- Set or replace a channel's pending release; its release void count returns to 0 (R77, R78, R159). -/
def State.setRelease (s : State) (c : Chan) (r : Release) : State :=
  { s.modChan c (fun k => { k with release := r }) with bus.releaseVoids := s.bus.releaseVoids.set c 0 }

/-- Clear a channel's pending release: an evaluation event (R78). -/
def State.clearRelease (s : State) (c : Chan) : State := (s.setRelease c .none).notify

/-- A pending SETTLED is replaced by the release that a settle taken back owes, its mark cleared: it is cleared, and so an
evaluation event (R71, R78). -/
def State.replaceSettled (s : State) (c : Chan) (r : Release) : State :=
  ((s.setRelease c r).modChan c fun k => { k with settleWithdrawn := false }).notify

/-- Put a channel into a state. -/
def State.enter (s : State) (c : Chan) (st : ChanState) : State := s.modChan c fun k => { k with state := st }

/-! ## Restore marks and sampling -/

/-- The restore mark of a channel. -/
def State.markOf (s : State) (c : Chan) : Bool := (s.chan c).mark

/-- Re-form the queue's order (R47). -/
def State.reform (s : State) : State :=
  { s with queue.entries := sortBy (entryBefore s.markOf) s.queue.entries }

/-- Sampling is released at the first moment at which the station has joined and no restore mark is set (R127). -/
def State.judgeSampling (s : State) : State :=
  if s.live && s.history.joined && decide (s.history.marks = 0) && !s.history.released then
    { s with history.released := true, history.sampleTimer := some (s.image.station.samplePeriod * 100) }
  else s

/-- Clear a channel's restore mark: the queue re-forms its order and evaluates its head, the History Store counts the mark
(R64, R126). -/
def State.clearMark (s : State) (c : Chan) : State :=
  if (s.chan c).mark then
    let s := s.modChan c fun k => { k with mark := false }
    let s := { s with history.marks := s.history.marks - 1 }
    s.reform.notify.judgeSampling
  else s

/-! ## Claim Queue -/

/-- Rewrite the queue entry of a channel. -/
def State.modEntry (s : State) (c : Chan) (f : QueueEntry → QueueEntry) : State :=
  { s with queue.entries := s.queue.entries.map fun e => if e.ch = c then f e else e }

/-- The patience timer of an entry at an effective urgency: it runs while the entry can still age (R50). -/
def agingTimer (k : ChannelConfig) (eff : Urg) : Option Nat :=
  if 2 ≤ k.urgency ∧ k.patience ≠ 0 ∧ 1 < eff then some (k.patience * 100) else none

/-- Renumber the entries 0 upward in their stamp order, when the stamp counter would pass 65535 (R47). -/
def renumber (entries : List QueueEntry) : List QueueEntry :=
  entries.map fun e => { e with stamp := (entries.filter fun f => decide (f.stamp < e.stamp)).length }

/-- A channel enters QUEUED and joins the queue as a new entry (R48). -/
def State.join (s : State) (c : Chan) : State :=
  let k := s.cfg c
  let e : QueueEntry :=
    { ch := c, stamp := s.queue.nextStamp, eff := k.urgency, patience := agingTimer k k.urgency, shedCalled := false,
      shedWait := none, voids := 0, offered := none }
  let all := s.queue.entries ++ [e]
  let q := s.queue
  let q :=
    if 65535 ≤ q.nextStamp then { q with entries := renumber all, nextStamp := all.length }
    else { q with entries := all, nextStamp := q.nextStamp + 1 }
  ({ s.enter c .queued with queue := q }).reform.notify

/-- A channel's entry leaves the queue; a shed call built for it has no entry any more (R34, R39, R49). -/
def State.leave (s : State) (c : Chan) : State :=
  { s with
    queue.entries := s.queue.entries.filter fun e => decide (e.ch ≠ c)
    queue.shedCall := s.queue.shedCall.filter fun k => decide (k.ch ≠ c)
    bus.tx := s.bus.tx.map fun t => if t.shedFor = some c then { t with shedFor := none } else t
    notice := true }

/-- A CLAIMING entry returns to QUEUED at its place: void count 0, no offered seq (R55, R56, R57). -/
def State.requeue (s : State) (c : Chan) : State :=
  (s.modEntry c fun e => { e with voids := 0, offered := none }).enter c .queued

/-- The entry of a channel is the head. -/
def State.isHead (s : State) (c : Chan) : Bool :=
  match s.queue.entries with
  | e :: _ => decide (e.ch = c)
  | [] => false

/-- No shed need stands: the SHED_CALL is no candidate and an outstanding call ends (R34, R35). -/
def State.endShedNeed (s : State) : State := { s with queue.shedNeed := false, queue.shedCall := none }

/-- Judge the shed need of a QUEUED head (R33, R34). -/
def State.judgeShedNeed (s : State) (e : QueueEntry) : State :=
  if s.shedNeedOf e then
    { s with queue.shedNeed := true, queue.shedCall := s.queue.shedCall.filter fun k => decide (k.ch = e.ch) }
  else s.endShedNeed

/-- A CLAIMING entry that is not the head and whose CLAIM is not on the bus is withdrawn (R60). -/
def State.withdrawBehind (s : State) : List QueueEntry → State
  | [] => s
  | e :: es =>
    (if (s.chan e.ch).state = .claiming ∧ s.claimOnBus e.ch = false then s.requeue e.ch else s).withdrawBehind es

/-- Evaluate the head (R51): offer it, judge its shed need, withdraw it, or leave it waiting. -/
def State.judgeHead (s : State) : State :=
  match s.queue.entries with
  | [] => s.endShedNeed
  | e :: _ =>
    match (s.chan e.ch).state with
    | .queued =>
      if s.offers e then ((s.modEntry e.ch fun e => { e with shedWait := none }).enter e.ch .claiming).endShedNeed
      else s.judgeShedNeed e
    | .claiming =>
      if s.claimOnBus e.ch || s.offers e then s.endShedNeed else (s.requeue e.ch).judgeShedNeed e
    | .disabled | .idle | .pending | .starting | .suspended | .settling | .on | .shed | .faulted => s.endShedNeed

/-- The evaluation of R51 with the withdrawals of R60. -/
def State.evaluate (s : State) : State := (s.withdrawBehind s.queue.entries.tail).judgeHead

/-- A channel whose join waited for the end of its withdrawn claim joins now (R48, R59, R68). -/
def State.deferredJoin (s : State) (c : Chan) : State :=
  if (s.chan c).state = .idle ∧ (s.chan c).latch then s.join c else s

/-! ## Recipe Engine -/

/-- How a run of steps ends (R89). -/
inductive StepsEnd where
  | waits (step left : Nat)
  | completes
  | fails (step : Nat)
  deriving DecidableEq, Repr

/-- Take steps from step `i` on until a timed step has time to wait, a step fails, or the last completes; with the levels
of PRE and MAIN they leave (R85-R89, R92). -/
def runSteps (sense : Bool) : List Step → Nat → Bool → Bool → StepsEnd × Bool × Bool
  | [], _, pre, main => (.completes, pre, main)
  | .drive onMain level :: rest, i, pre, main =>
    if onMain then runSteps sense rest (i + 1) pre level else runSteps sense rest (i + 1) level main
  | .dwell time _ :: _, i, pre, main => (.waits i (time * 10), pre, main)
  | .await level timeout _ :: rest, i, pre, main =>
    if sense = level then runSteps sense rest (i + 1) pre main else (.waits i (timeout * 10), pre, main)
  | .check level :: rest, i, pre, main =>
    if sense = level then runSteps sense rest (i + 1) pre main else (.fails i, pre, main)

/-- The start of a channel leaves the engine: its renewal exhausted mark is cleared (R99). -/
def State.forgetRenewals (s : State) (c : Chan) : State := { s with engine.exhausted := s.engine.exhausted.set c false }

/-- A recipe completes: SETTLING with SETTLED pending, outputs as they stand; the running slot empties (R93, steps 1
and 2; R74). -/
def State.completeRecipe (s : State) (c : Chan) : State :=
  let s := (s.enter c .settling).setRelease c .settled
  ({ s with engine.running := none }).forgetRenewals c

/-- A recipe fails at a step: outputs off, ABANDONED(RECIPE_FAILED) pending, FAULTED, mark cleared, record written; the
running slot empties (R94, steps 1 to 3; R74). -/
def State.failRecipe (s : State) (c : Chan) (step : Nat) : State :=
  let s := (((s.outsOff c).setRelease c (.abandoned .recipeFailed)).enter c .faulted).clearMark c
  let s := s.log .recipeFailed (some c) (some step) none
  ({ s with engine.running := none }).forgetRenewals c

/-- Take the steps of a channel's recipe from step `i` on (R89). -/
def State.takeSteps (s : State) (c : Chan) (i : Nat) : State :=
  match runSteps (s.pins.sense.get c) ((s.cfg c).recipe.drop i) i (s.chan c).pre (s.chan c).main with
  | (ends, pre, main) =>
    let s := s.modChan c fun k => { k with pre := pre, main := main }
    match ends with
    | .waits j left => { s with engine.running := some { ch := c, step := j, timeLeft := left } }
    | .completes => s.completeRecipe c
    | .fails j => s.failRecipe c j

/-- A start takes the running slot at step index 0 and begins (R91, R111). -/
def State.beginStart (s : State) (c : Chan) : State := (s.enter c .starting).takeSteps c 0

/-- Suspend the running recipe of a channel: its record is pushed; under PARK the levels are kept in it and the outputs go
off (R104, R105, R106, R107). -/
def State.suspend (s : State) (c : Chan) (next : Nat) (left : Option Nat) : State :=
  let policy := (s.cfg c).suspendPolicy
  let snap : Option Snapshot :=
    match policy with
    | .park => some { pre := (s.chan c).pre, main := (s.chan c).main }
    | .hold => none
  let r : Context := { ch := c, next := next, partialTime := left, policy := policy, snapshot := snap }
  let s := if policy = .park then s.outsOff c else s
  let s := s.enter c .suspended
  { s with engine.stack := r :: s.engine.stack, engine.running := none }

/-- Resume a record taken off the top (R112). A partial time of 0 runs out at once (R105). -/
def State.resume (s : State) (r : Context) : State :=
  let s :=
    match r.snapshot with
    | some lv => s.modChan r.ch fun k => { k with pre := lv.pre, main := lv.main }
    | none => s
  let s := s.enter r.ch .starting
  let next : Option Step := (s.cfg r.ch).recipe[r.next]?
  match r.partialTime, next with
  | some left, some (.dwell _ _) =>
    if left = 0 then s.takeSteps r.ch (r.next + 1)
    else { s with engine.running := some { ch := r.ch, step := r.next, timeLeft := left } }
  | some left, some (.await level _ _) =>
    if s.pins.sense.get r.ch = level then s.takeSteps r.ch (r.next + 1)
    else if left = 0 then s.failRecipe r.ch r.next
    else { s with engine.running := some { ch := r.ch, step := r.next, timeLeft := left } }
  | _, _ => s.takeSteps r.ch r.next

/-- A freed engine takes up the PENDING start, else the top record, and goes on while what it took up ends at once
(R111). Each round takes up one start; a station has four. -/
def State.freeLoop : Nat → State → State
  | 0, s => s
  | n + 1, s =>
    match s.engine.running with
    | some _ => s
    | none =>
      match s.engine.waiting with
      | some c => freeLoop n (({ s with engine.waiting := none }).beginStart c)
      | none =>
        match s.engine.stack with
        | r :: rest => freeLoop n (({ s with engine.stack := rest }).resume r)
        | [] => s

/-- The engine frees itself where its running slot is empty, and gives an availability notice (R93, R111). -/
def State.freeEngine (s : State) : State :=
  match s.engine.running with
  | some _ => s
  | none => (State.freeLoop 5 s).notify

/-- The step in progress completes: the recipe suspends at the boundary where a start waits in the PENDING slot and more
steps follow; otherwise the next steps are taken (R92, R93, R107, R108). -/
def State.stepCompletes (s : State) (r : RunSlot) : State :=
  if r.step + 1 < (s.cfg r.ch).recipe.length then
    match s.engine.waiting with
    | some _ => (s.suspend r.ch (r.step + 1) none).freeEngine
    | none => (s.takeSteps r.ch (r.step + 1)).freeEngine
  else (s.completeRecipe r.ch).freeEngine

/-- The step in progress fails (R87, R94). -/
def State.stepFails (s : State) (r : RunSlot) : State := (s.failRecipe r.ch r.step).freeEngine

/-- An admitted own start is placed: it begins at an idle engine, preempts at a yieldable step, or takes the PENDING slot
(R91, R103, R104, R107). The engine gives an availability notice. -/
def State.placeStart (s : State) (c : Chan) : State :=
  let s :=
    { s with
      engine.renewVoids := s.engine.renewVoids.set c 0
      engine.exhausted := s.engine.exhausted.set c false }
  match s.engine.running with
  | none => ((s.beginStart c).freeEngine).notify
  | some r =>
    match s.stepOf r with
    | some st =>
      if stepYields st then (((s.suspend r.ch r.step (some r.timeLeft)).beginStart c).freeEngine).notify
      else ({ s.enter c .pending with engine.waiting := some c }).notify
    | none => ({ s.enter c .pending with engine.waiting := some c }).notify

/-- A start is taken from the engine, wherever it lies (R95, R113): its renewal bookkeeping is cleared; a running start
frees the engine; a start in the PENDING slot empties it; a record leaves the stack. -/
def State.removeStart (s : State) (c : Chan) : State :=
  if s.tracked c then
    let s :=
      { s with
        engine.renewVoids := s.engine.renewVoids.set c 0
        engine.exhausted := s.engine.exhausted.set c false }
    if s.engine.waiting = some c then ({ s with engine.waiting := none }).notify
    else
      match s.engine.running with
      | some r =>
        if r.ch = c then ({ s with engine.running := none }).freeEngine
        else { s with engine.stack := s.engine.stack.filter fun k => decide (k.ch ≠ c) }
      | none => { s with engine.stack := s.engine.stack.filter fun k => decide (k.ch ≠ c) }
  else s

/-- The states of a start in progress: PENDING, STARTING, SUSPENDED (R70, R76). -/
def ChanState.inEngine : ChanState → Bool
  | .pending | .starting | .suspended => true
  | .disabled | .idle | .queued | .claiming | .settling | .on | .shed | .faulted => false

/-! ## Aborts and demand -/

/-- The abort of one start in progress (R76): outputs off, start taken from the engine, release set, record written, and
last the join. The step index of the record is where the start lay before it was taken. -/
def State.abortStart (s : State) (c : Chan) (rel : Release) (kind : FaultKind) (peer : Option Addr) : State :=
  let step := s.startStep c
  let s := ((s.outsOff c).removeStart c).setRelease c rel
  (s.log kind (some c) step peer).join c

/-- The abort of one start by INH: no record (R76, R80). -/
def State.inhibitStart (s : State) (c : Chan) : State :=
  (((s.outsOff c).removeStart c).setRelease c (.abandoned .inhibit)).join c

/-- The first part of an abort of every start in progress: outputs off and pending release set, channel by channel
(R76, R114). `rel` is the release it leaves; none keeps the one that stands. -/
def State.abortChan (s : State) (rel : Option Release) (c : Chan) : State :=
  if (s.chan c).state.inEngine then
    let s := s.outsOff c
    match rel with
    | some r => s.setRelease c r
    | none => s
  else s

/-- The joins of an abort of every start, of the channels that were in the engine (R114). -/
def State.joinAll (s : State) : List Chan → State
  | [] => s
  | c :: cs => (s.join c).joinAll cs

/-- The channels with a start in progress, in channel order. -/
def State.startsInProgress (s : State) : List Chan := allChans.filter fun c => (s.chan c).state.inEngine

/-- Every start in progress is aborted at once: the engine is emptied before it frees itself, nothing begins or resumes,
and the channels join the queue in channel order (R114). -/
def State.abortAll (s : State) (rel : Option Release) : State :=
  let cs := s.startsInProgress
  let s := allChans.foldl (fun s c => s.abortChan rel c) s
  let s :=
    { s with engine :=
        { running := none, waiting := none, stack := []
          renewVoids := cs.foldl (fun f c => f.set c 0) s.engine.renewVoids
          exhausted := cs.foldl (fun f c => f.set c false) s.engine.exhausted } }
  (s.joinAll cs).notify

/-- Demand on (R68): an IDLE channel joins the queue, unless its withdrawn claim is still on the bus (R59). -/
def State.demandOn (s : State) (c : Chan) : State :=
  let s := s.modChan c fun k => { k with latch := true }
  if (s.chan c).state = .idle ∧ s.claimOnBus c = false then s.join c else s

/-- Demand off (R69-R72). -/
def State.demandOff (s : State) (c : Chan) : State :=
  let s := (s.modChan c fun k => { k with latch := false }).clearMark c
  match (s.chan c).state with
  | .queued => (s.leave c).enter c .idle
  | .claiming =>
    let s :=
      if s.claimOnBus c then { s with bus.tx := s.bus.tx.map fun t => { t with withdrawn := true } } else s
    (s.leave c).enter c .idle
  | .pending | .starting | .suspended =>
    (((s.outsOff c).removeStart c).setRelease c (.abandoned .requestOff)).enter c .idle
  | .settling =>
    let s := (s.outsOff c).enter c .idle
    if s.settledOnBus c then s.modChan c fun k => { k with settleWithdrawn := true }
    else s.replaceSettled c (.abandoned .requestOff)
  | .on =>
    let s := ((s.outsOff c).setRelease c (.stopped .requestOff)).enter c .idle
    s.modChan c fun k => { k with senseGrace := none }
  | .shed => (s.enter c .idle).modChan c fun k => { k with shedRest := none }
  | .faulted => s.enter c .idle
  | .idle => s
  | .disabled => s

/-- A press or release writes the demand latch by the request mode; a write that leaves it as it was is no event (R67). -/
def State.writeLatch (s : State) (c : Chan) (active : Bool) : State :=
  let old := (s.chan c).latch
  let new :=
    match (s.cfg c).requestMode with
    | .level => active
    | .toggle => if active then !old else old
  if old = new then s else if new then s.demandOn c else s.demandOff c

/-- The own hold of a start ran out: a tracked start whose seq is the current one is aborted with HOLD_EXCEEDED (R18,
R100). -/
def State.ownHoldOut (s : State) (c : Chan) (q : Seq) : State :=
  if s.live && s.tracked c && decide ((s.chan c).seq = some q) then
    s.abortStart c (.abandoned .holdExceeded) .holdExceeded none
  else s

/-- A settled load runs: ON, release cleared, restore mark cleared, sense supervision begun (R75, R79). -/
def State.enterOn (s : State) (c : Chan) : State :=
  let s := ((s.clearRelease c).enter c .on).clearMark c
  if (s.cfg c).senseRequired && !s.pins.sense.get c then
    s.modChan c fun k => { k with senseGrace := some ((s.cfg c).senseGrace * 10) }
  else s

/-! ## Start Table and Draw Table -/

/-- Rewrite the entries of a copy that a test picks. -/
def State.modStarts (s : State) (pick : StartEntry → Bool) (f : StartEntry → StartEntry) : State :=
  { s with starts := s.starts.map fun e => if pick e then f e else e }

/-- Remove the entries of a copy that a test picks; the others close up (R2). -/
def State.dropStarts (s : State) (pick : StartEntry → Bool) : State :=
  { s with starts := s.starts.filter fun e => !pick e }

/-- Fill or replace the slot of a pair (R30). -/
def State.fillSlot (s : State) (owner : Addr) (c : Chan) (d : DrawSlot) : State :=
  { s with draws := slotPut s.draws (slotNo owner c) d }

/-- Empty the slot of a pair (R30). -/
def State.emptySlot (s : State) (owner : Addr) (c : Chan) : State :=
  { s with draws := slotErase s.draws (slotNo owner c) }

/-- Remove every entry and slot of an owner that a test of its unconfirmed mark picks, with the notices that follow
(R138, R142, R146). -/
def State.dropOwner (s : State) (owner : Addr) (onlyUnconfirmed : Bool) : State :=
  let hitStart (e : StartEntry) : Bool := decide (e.owner = owner) && (!onlyUnconfirmed || e.unconfirmed)
  let hitSlot (kv : Nat × DrawSlot) : Bool := ownedSlot owner kv.1 && (!onlyUnconfirmed || kv.2.unconfirmed)
  let hit := s.starts.any hitStart || s.draws.any hitSlot
  let t := { s.dropStarts hitStart with draws := s.draws.filter fun kv => !hitSlot kv }
  if hit then t.notify else t

/-! ## Membership -/

/-- STAT is judged again: another pattern begins with its first on phase, the same one goes on without a break (R180). -/
def State.judgeStat (s : State) : State :=
  if s.statPattern = s.indicators.stat then s
  else { s with indicators.stat := s.statPattern, indicators.elapsed := 0 }

/-- A change of membership state, reported to STAT and to the Claim Queue (R132, R180, R51). -/
def State.setMState (s : State) (m : MState) : State := ({ s with member.state := m }).judgeStat.notify

/-- PRESENT peers whose last-heard timer has reached the absence time get their absent-pending mark (R145). -/
def State.markAbsentees (s : State) : State :=
  s.mapPeers fun _ x =>
    if x.state = .present ∧ 3 * s.presenceMs ≤ x.lastHeard.getD 0 then { x with absentPending := true } else x

/-- ISOLATED is entered from IN_STEP where the unacknowledged run stands at 3 or more (R144). -/
def State.judgeIsolated (s : State) : State :=
  if s.member.state = .inStep ∧ 3 ≤ s.bus.unackRun then
    (s.setMState .isolated).log .isolatedEntered none none none
  else s

/-- IN_STEP is entered: the sync bookkeeping ends, the History Store sets its joined flag (R127, R132, R144, R145). -/
def State.enterInStep (s : State) : State :=
  let s := s.setMState .inStep
  let s :=
    { s with
      member.syncTimeout := none
      member.listenWindow := none
      member.ownAccepted := false
      member.awaited := []
      history.joined := true }
  s.judgeSampling.markAbsentees.judgeIsolated

/-- SYNCING is entered, or entered again, with an own request; a request for itself does not replace one for all that is
pending (R143). -/
def State.enterSyncing (s : State) (req : OwnRequest) : State :=
  let req := if s.member.ownRequest = some .all then .all else req
  let s := s.setMState .syncing
  let s :=
    { s with
      member.listenWindow := none
      member.ownRequest := some req
      member.ownVoids := 0
      member.ownAccepted := false
      member.awaited := []
      member.syncTimeout := some (2 * s.presenceMs) }
  s.markAbsentees

/-- Judge whether SYNCING ends (R143). -/
def State.judgeExit (s : State) : State := if s.mayLeaveSyncing then s.enterInStep else s

/-- Judge the discord flag again; a rise or fall is reported to STAT and to the Claim Queue, and a rise names the peer whose
digest raised it (R137, R180, R51). -/
def State.judgeDiscord (s : State) (raiser : Addr) : State :=
  let now := s.discordSeen
  if now = s.member.discord then s
  else
    let s := ({ s with member.discord := now }).judgeStat.notify
    if now then s.log .discordSeen none none (some raiser) else s

/-- An accepted frame from a peer address, before its own effects: the sender's last-heard timer restarts, a first frame
or a rejoin makes the slot PRESENT and SUSPECT, and an ISOLATED station enters SYNCING (R131, R144, R145). A HELLO makes
the slot PRESENT by its own rule (R138). -/
def State.hearPeer (s : State) (a : Addr) (isHello : Bool) : State :=
  let was := (s.peer a).state
  let s := s.modPeer a fun x => { x with lastHeard := some 0, absentPending := false }
  let s :=
    if was = .present ∨ isHello = true then s
    else
      let doubt := was = .absent ∨ s.member.state.joinedUp = true
      ((s.modPeer a fun x => { x with state := .present, suspect := x.suspect || decide doubt }).notify).judgeDiscord a
  if s.member.state = .isolated then s.enterSyncing .all else s

/-! ## Entering HALTED and reset -/

/-- Stop the timers of the station and hold everything else; outputs off, line released (R4, R49, R82, R96, R124, R132,
R164, R174, R175). -/
def State.enterHalted (s : State) : State :=
  { s with
    channels := s.channels.map fun k =>
      { k with debounceTimer := none, senseGrace := none, shedRest := none, pre := false, main := false }
    inh := { s.inh with timer := none }
    starts := s.starts.map fun e => { e with holdRunning := false }
    queue := { s.queue with entries := s.queue.entries.map fun e => { e with patience := none, shedWait := none } }
    history := { s.history with released := false, sampleTimer := none }
    member :=
      { s.member with
        state := .halted
        roster := (slotMap (fun _ x => { x with lastHeard := none, requestTimer := none }) s.member.roster).filter
          fun kv => kv.2 ≠ RosterSlot.atStart
        listenWindow := none
        presenceTimer := none
        presenceDue := false
        helloDue := false
        ownRequest := none
        ownAccepted := false
        awaited := []
        syncTimeout := none
        round := { active := false, next := 0, sent := 0 } }
    bus := { s.bus with tx := none, receiving := false, free := false, lineBusy := s.bus.lineBusy && s.bus.tx.isNone }
    loader := { s.loader with phase := .idle, bytes := [] } }

/-- ABL is released: an own frame in progress is cut off (R118, R164). -/
def State.releaseLine (s : State) : State :=
  { s with bus := { s.bus with tx := none, lineBusy := s.bus.lineBusy && s.bus.tx.isNone } }

/-- Everything outside the retention domain, the pins and the supplies goes to its value at start (R118). An own frame in
progress is cut off. FLT is judged at the step's end (R83). -/
def State.discard (s : State) : State :=
  { s with
    history := { startKind := .cold, joined := false, marks := 0, released := false, sampleTimer := none }
    starts := []
    draws := []
    queue := ClaimQueue.atStart
    channels := Four.same Channel.atStart
    inh := { asserted := false, timer := none }
    engine := Engine.atStart
    member := Membership.atStart
    bus := Bus.atStart (s.bus.lineBusy && s.bus.tx.isNone)
    loader := Loader.atStart
    faults := { records := [], counter := 0 }
    answer := none
    indicators := { Indicators.atStart with flt := s.indicators.flt }
    notice := false }

/-! ## Ends of own frames -/

/-- An own CLAIM ended without acceptance: a withdrawn claim ends and lets its channel join; an entry that is no longer
the head, or that INH holds, returns to QUEUED (R55, R57, R59, R60). -/
def State.claimEnded (s : State) (t : TxFrame) (c : Chan) : State :=
  if t.withdrawn then s.deferredJoin c
  else if s.isHead c then if s.inh.asserted then s.requeue c else s
  else (s.requeue c).notify

/-- An own SETTLED ended without acceptance: a withdrawn settle becomes ABANDONED(REQUEST_OFF) (R71). -/
def State.settleEnded (s : State) (c : Chan) : State :=
  if (s.chan c).settleWithdrawn then
    s.replaceSettled c (.abandoned .requestOff)
  else s

/-- The transmit slot empties. -/
def State.clearTx (s : State) : State := { s with bus.tx := none }

/-- The own frame lost the line, by arbitration or clash: no outcome, the station goes on as a listener (R57, R59, R71,
R152, R153). -/
def State.ownLost (s : State) (t : TxFrame) : State :=
  let s := { s.clearTx with bus.receiving := true }
  if s.power.warning then s
  else
    match t.frame with
    | .claim p => s.claimEnded t p.ch
    | .settled p => s.settleEnded p.ch
    | .renew _ | .abandoned _ | .stopped _ | .expire _ | .shedCall _ | .hello _ | .presence _ | .syncReq _ | .recount _
    | .recountEnd _ | .absent _ | .inquire _ | .answer _ => s

/-- The own frame lost arbitration (R152). -/
def State.loseArbitration (s : State) (t : TxFrame) : State :=
  (s.tally fun k => { k with arbLosses := satSucc 65535 k.arbLosses }).ownLost t

/-- An address clash is met: counted, recorded; the second since the start halts the station (R153). -/
def State.meetClash (s : State) : State :=
  let s :=
    match s.bus.tx with
    | some t => s.ownLost t
    | none => s
  let s := (s.tally fun k => { k with clashes := satSucc 65535 k.clashes }).log .addressClash none none none
  if 2 ≤ s.bus.counters.clashes then s.enterHalted else s

/-! ## What ends a step -/

/-- STAT and FLT follow the state (R83, R180). -/
def State.refresh (s : State) : State := { s.judgeStat with indicators.flt := s.fltLevel }

end Sys2Proof.Machine
end

