-- ==== Sys2Proof/Machine/Selector.lean ====
section
/-! DEFINITION. The transmit selector: its sources, what each builds from the state of the moment, and the choice among
them (Chapter 9, R160, R161). -/

namespace Sys2Proof.Machine

open Sys2Proof

/-- The sources of candidate frames (Table 9.5); a CLAIM with its effective urgency. -/
inductive Source where
  | release | expire | absent | shedCall | renewal | recount | syncReq | hello | presence | answer
  | claim (eff : Urg)
  deriving DecidableEq, Repr

/-- The sources by frame urgency, and by their place among equal urgencies (R161). -/
def sourceOrder : List Source :=
  [.release, .expire, .absent, .shedCall, .claim 0, .renewal, .claim 1, .recount, .claim 2, .syncReq, .claim 3, .claim 4,
    .hello, .claim 5, .presence, .claim 6, .answer, .claim 7]

/-- The frame urgency of a source (Table 9.5). -/
def Source.urgency : Source → Urg
  | .release => 0
  | .expire => 0
  | .absent => 0
  | .shedCall => 0
  | .renewal => 1
  | .recount => 2
  | .syncReq => 3
  | .hello => 5
  | .presence => 6
  | .answer => 7
  | .claim eff => eff

/-- The sources that a membership state permits (Table 8.4). -/
def MState.permits (m : MState) (src : Source) : Bool :=
  match m with
  | .loading => false
  | .halted => false
  | .listen => decide (src = .hello ∨ src = .presence ∨ src = .answer ∨ src = .release)
  | .syncing =>
    match src with
    | .claim _ => false
    | .shedCall => false
    | .release | .expire | .absent | .renewal | .recount | .syncReq | .hello | .presence | .answer => true
  | .inStep => true
  | .isolated => true

/-- The frame of a channel's pending release (Table 4.5). -/
def State.releaseFrame (s : State) (c : Chan) : Option Frame :=
  match (s.chan c).release with
  | .none => none
  | .settled => some (.settled { ch := c, seq := (s.chan c).seq.getD 0 })
  | .abandoned r => some (.abandoned { ch := c, seq := (s.chan c).seq.getD 0, reason := r.code })
  | .stopped r => some (.stopped { ch := c, reason := r.code })

/-- The first channel, in channel order, that a test picks. -/
def firstChan (p : Chan → Bool) : Option Chan := allChans.find? p

/-- The SHED_CALL for the head's shed need: an outstanding call of this entry keeps its call seq (R34, R35). -/
def State.buildShedCall (s : State) : State × Option Frame :=
  match s.queue.entries with
  | [] => (s.endShedNeed, none)
  | e :: _ =>
    if s.queue.shedNeed && decide ((s.chan e.ch).state = .queued) && s.shedNeedOf e then
      let short : Fin 2048 := Fin.ofNat 2048 (s.shortfall (s.cfg e.ch).draw.val).toNat
      match s.queue.shedCall.filter (fun k => decide (k.ch = e.ch)) with
      | some k => (s, some (.shedCall { callerUrgency := 0, shortfall := short, callSeq := k.callSeq }))
      | none =>
        ({ s with
            queue.shedCall := some { ch := e.ch, callSeq := s.queue.shedCallSeq, voids := 0 }
            queue.shedCallSeq := s.queue.shedCallSeq + 1 },
          some (.shedCall { callerUrgency := 0, shortfall := short, callSeq := s.queue.shedCallSeq }))
    else (s.endShedNeed, none)

/-- A channel in this state is recounted (R140). -/
def ChanState.recounted : ChanState → Bool
  | .pending | .starting | .suspended | .settling | .on => true
  | .disabled | .idle | .queued | .claiming | .shed | .faulted => false

/-- The frame of the own recount round, from the state of the moment (R140). -/
def State.recountFrame (s : State) : Frame :=
  match firstChan (fun c => decide (s.member.round.next ≤ c.val) && (s.chan c).state.recounted) with
  | none => .recountEnd (Fin.ofNat 8 s.member.round.sent)
  | some c =>
    let k := s.cfg c
    if (s.chan c).state = .on then
      .recount
        { isDraw := true, ch := c, urgency := k.urgency, sheddable := k.sheddable, inrush := 0, draw := k.draw,
          renewals := 0, hold := 0, seq := 0 }
    else
      .recount
        { isDraw := false, ch := c, urgency := k.urgency, sheddable := k.sheddable, inrush := k.inrush, draw := k.draw,
          renewals := (s.chan c).renewals,
          hold := (match s.trackedEntry c with
            | some e => Fin.ofNat 256 (e.remaining / 20)
            | none => k.holdLimit),
          seq := (s.chan c).seq.getD 0 }

/-- The SYNC_REQ owed: the own request first, then the lowest peer (R136, R143, R161). -/
def State.syncReqFrame (s : State) : Option Frame :=
  match s.member.ownRequest with
  | some .all => some (.syncReq 0)
  | some .self => some (.syncReq s.own)
  | none => (s.member.roster.find? (fun kv => kv.2.requestOwed)).map fun kv => .syncReq (Fin.ofNat 32 kv.1)

/-- The CLAIM of the head in CLAIMING: judged again; built with the offered seq, or withdrawn (R54, R55). -/
def State.buildClaim (s : State) (eff : Urg) : State × Option Frame :=
  match s.queue.entries with
  | [] => (s, none)
  | e :: _ =>
    if (s.chan e.ch).state = .claiming ∧ e.eff = eff then
      if s.offers e then
        let k := s.cfg e.ch
        let q := e.offered.getD s.queue.claimSeq
        (s.modEntry e.ch fun e => { e with offered := some q },
          some (.claim
            { ch := e.ch, seq := q, urgency := k.urgency, sheddable := k.sheddable, inrush := k.inrush, draw := k.draw,
              hold := k.holdLimit }))
      else (s.requeue e.ch, none)
    else (s, none)

/-- What a source builds from the state of the moment; none where it has no candidate or its candidate is moot. -/
def State.build (s : State) : Source → State × Option Frame
  | .release => (s, allChans.findSome? s.releaseFrame)
  | .expire =>
    (s, (s.starts.find? (fun e => e.expirePending)).map fun e => .expire { owner := e.owner, ch := e.ch, seq := e.seq })
  | .absent => (s, (s.member.roster.find? (fun kv => kv.2.absentPending)).map fun kv => .absent (Fin.ofNat 32 kv.1))
  | .shedCall => s.buildShedCall
  | .renewal =>
    (s, (firstChan s.renewalDue).map fun c =>
      .renew { ch := c, seq := (s.chan c).seq.getD 0, count := Fin.ofNat 16 ((s.chan c).renewals.val + 1) })
  | .recount => (s, if s.member.round.active then some s.recountFrame else none)
  | .syncReq => (s, s.syncReqFrame)
  | .hello =>
    (s, if s.member.helloDue then
        some (.hello { digest := s.digest, startKind := s.history.startKind.code, outages := s.retention.outages })
      else none)
  | .presence =>
    (s, if s.member.presenceDue then
        some (.presence
          { mstate := s.member.state.code, draws := Fin.ofNat 8 (s.drawCount s.own),
            starts := Fin.ofNat 64 (s.startCount s.own), digest := s.digest })
      else none)
  | .answer => (s, s.answer.map fun p => .answer (answerFrame s p))
  | .claim eff => s.buildClaim eff

/-- The queue entry a SHED_CALL is built for is the head's (R34, R39). -/
def State.shedCaller (s : State) : Source → Option Chan
  | .shedCall => s.queue.entries.head?.map (·.ch)
  | .release | .expire | .absent | .renewal | .recount | .syncReq | .hello | .presence | .answer | .claim _ => none

/-- A built frame fills the transmit slot and its break begins (R160). -/
def State.beginFrame (s : State) (src : Source) (f : Frame) : State :=
  { s with bus :=
      { s.bus with
        tx := some { frame := f, urgency := src.urgency, withdrawn := false, shedFor := s.shedCaller src }
        lineBusy := true
        receiving := false
        free := false } }

/-- Take the sources in their order until one builds a frame (R160). -/
def State.trySources (s : State) : List Source → State
  | [] => s
  | src :: rest =>
    if s.member.state.permits src then
      match s.build src with
      | (s', some f) => s'.beginFrame src f
      | (s', none) => s'.trySources rest
    else s.trySources rest

/-- The transmit selector runs on a free bus with no frame begun, in the states that send, outside the power-fail warning
(R160, R121). -/
def State.select (s : State) : State :=
  if s.live && s.bus.free && !s.bus.lineBusy && s.bus.tx.isNone then s.trySources sourceOrder else s

/-- The evaluation that the notices of this step call for (R51). -/
def State.takeNotice (s : State) : State :=
  if s.notice then
    if s.live then ({ s with notice := false }).evaluate else { s with notice := false }
  else s

/-- What ends every step: the evaluation the notices call for, the transmit selector, the indicators. -/
def State.finish (s : State) : State := s.takeNotice.select.refresh

end Sys2Proof.Machine
end

