-- ==== Sys2Proof/Machine/Receive.lean ====
section
/-! DEFINITION. An accepted frame reaches the station: whether it takes part, whether the frame is its own, what every
accepted own frame and every accepted peer frame does besides its own effects (R131, R134, R153-R157, R162). -/

namespace Sys2Proof.Machine

open Sys2Proof

/-- The frame is a HELLO. -/
def isHello : Frame → Bool
  | .hello _ => true
  | .claim _ | .renew _ | .settled _ | .abandoned _ | .stopped _ | .expire _ | .shedCall _ | .presence _ | .syncReq _
  | .recount _ | .recountEnd _ | .absent _ | .inquire _ | .answer _ => false

/-- The end of a frame on the line: the bus is not free until its free-bus instant (R150). -/
def State.frameEnds (s : State) : State := { s with bus := { s.bus with lineBusy := false, receiving := false, free := false } }

/-- Whose frame it was that was accepted: the frame in the transmit slot leaves it and is the own frame; another frame in
its place means that the own one lost the line; a frame from the own address that this station did not send is a clash
with the frame it was sending (R152, R153, R155). -/
def State.takeLine (s : State) (sender : Addr) (f : Frame) : State × Option TxFrame :=
  match s.bus.tx with
  | none => (s, none)
  | some t =>
    if sender = s.own then
      if t.frame = f then (s.clearTx, some t) else (s.meetClash, none)
    else (s.loseArbitration t, none)

/-- What every accepted own frame does: frames sent, the presence timer, LINK_DEGRADED, the unacknowledged run (R134, R155,
R157, R159). -/
def State.ownAccepted (s : State) (acked : Bool) : State :=
  let s := s.tally fun k => { k with sent := satSucc 65535 k.sent }
  let s :=
    { s with
      bus.degraded := false
      member.presenceTimer := some s.presenceMs
      member.presenceDue := false }
  if acked then { s with bus.unackRun := 0 }
  else
    let s := { s with bus.unackRun := satSucc 255 s.bus.unackRun }
    (s.tally fun k => { k with unacked := satSucc 65535 k.unacked }).judgeIsolated

/-- The effects of an accepted frame: of its sender as own frame or peer, then its own. A frame from the own address that
was not sent is not applied (R153); from address 31 only an INQUIRE is (R162). -/
def State.applyFrame (s : State) (rx : Rx) (f : Frame) (body : Option TxFrame → State → State) : State :=
  match s.takeLine rx.sender f with
  | (s, some t) => body (some t) (s.ownAccepted rx.acked)
  | (s, none) =>
    if rx.sender = s.own ∨ rx.sender = 0 then s
    else if rx.sender = toolAddr then
      if f.isInquire then body none s else s.tally fun k => { k with toolReject := satSucc 65535 k.toolReject }
    else body none (s.hearPeer rx.sender (isHello f))

/-- An accepted frame. A station that takes no part in it sees only the end of the frame (R4, R150, R154). -/
def State.receive (s : State) (rx : Rx) (f : Frame) (body : Option TxFrame → State → State) : State :=
  if s.takesPart then (s.applyFrame rx f body).frameEnds.finish else s.frameEnds.finish

end Sys2Proof.Machine
end

