-- ==== Sys2Proof/Machine/Members.lean ====
section
/-! DEFINITION. The membership frames: HELLO, PRESENCE, SYNC_REQ, RECOUNT, RECOUNT_END, ABSENT (Chapter 8). -/

namespace Sys2Proof.Machine

open Sys2Proof

/-- A roster slot after its peer's HELLO (R138, R183). -/
def helloSlot (p : HelloPayload) (x : RosterSlot) : RosterSlot :=
  { x with
    state := .present, lastHeard := some 0, digest := some p.digest, startKind := startKindOf p.startKind,
    outages := some p.outages, suspect := false, owed := false, heard := 0, absentPending := false,
    requestTimer := none, requestVoids := 0 }

/-- The effects of an accepted HELLO (R133, R138). -/
def applyHello (sender : Addr) (p : HelloPayload) (own : Option TxFrame) (s : State) : State :=
  let s := s.dropOwner sender false
  match own with
  | some _ => { s with member.helloDue := false }
  | none =>
    let was := (s.peer sender).state
    let s := (s.modPeer sender (helloSlot p)).judgeDiscord sender
    let s := if was = .present then s else s.notify
    s.judgeExit

/-- HELLO (R138). -/
def execHello (rx : Rx) (p : HelloPayload) (s : State) : Host.Outcome State Fault Refusal :=
  .next (s.receive rx (.hello p) (applyHello rx.sender p))

/-- A roster slot after its peer's PRESENCE, before the comparison (R135, R183). -/
def presenceSlot (p : PresencePayload) (x : RosterSlot) : RosterSlot :=
  { x with
    reported := reportedStateOf p.mstate, repStarts := some p.starts, repDraws := some p.draws, digest := some p.digest }

/-- The counts a PRESENCE reports differ from the own copy's (R135). -/
def State.countsDiffer (s : State) (a : Addr) (p : PresencePayload) : Bool :=
  decide (s.startCount a ≠ p.starts.val ∨ s.drawCount a ≠ p.draws.val)

/-- The effects of an accepted PRESENCE (R135, R137). -/
def applyPresence (sender : Addr) (p : PresencePayload) (own : Option TxFrame) (s : State) : State :=
  match own with
  | some _ => s
  | none =>
    let s := (s.modPeer sender (presenceSlot p)).judgeDiscord sender
    let x := s.peer sender
    if s.member.state.joinedUp && !x.owed && !x.suspect && s.countsDiffer sender p then
      s.modPeer sender fun x => { x with suspect := true }
    else s

/-- PRESENCE (R135). -/
def execPresence (rx : Rx) (p : PresencePayload) (s : State) : Host.Outcome State Fault Refusal :=
  .next (s.receive rx (.presence p) (applyPresence rx.sender p))

/-- The entries and slots of the covered stations other than this one are unconfirmed (R139, step 1). -/
def State.markUnconfirmed (s : State) (target : Addr) : State :=
  { s with
    starts := s.starts.map fun e =>
      if covers target e.owner ∧ e.owner ≠ s.own then { e with unconfirmed := true } else e
    draws := slotMap (fun n d =>
      if (target = 0 ∨ n / 4 = target.val) ∧ n / 4 ≠ s.own.val then { d with unconfirmed := true } else d) s.draws }

/-- The covered peers' rounds are under way, and owed requests for covered SUSPECT peers are satisfied (R136; R139,
steps 2 and 4). -/
def State.markOwed (s : State) (target : Addr) : State :=
  s.mapPeers fun n x =>
    if target = 0 ∨ n = target.val then
      let x := if x.state = .present then { x with owed := true, heard := 0 } else x
      if x.suspect then { x with requestTimer := some s.presenceMs, requestVoids := 0 } else x
    else x

/-- The own recount round begins afresh (R139, step 3; R140). -/
def State.beginRound (s : State) : State := { s with member.round := { active := true, next := 0, sent := 0 } }

/-- An accepted SYNC_REQ of this station is its own request (R143). -/
def State.isOwnRequest (s : State) (target : Addr) : Bool :=
  match s.member.ownRequest with
  | some .all => decide (target = 0)
  | some .self => decide (target = s.own)
  | none => false

/-- The addresses of the PRESENT peers. -/
def State.presentAddrs (s : State) : List Addr :=
  (s.member.roster.filter fun kv => decide (kv.2.state = .present)).map fun kv => Fin.ofNat 32 kv.1

/-- The own request was accepted: the awaited set is recorded and the sync timeout restarts (R143). -/
def State.requestAccepted (s : State) (target : Addr) : State :=
  { s with
    member.ownRequest := none
    member.ownAccepted := true
    member.awaited := if target = 0 then s.presentAddrs else []
    member.syncTimeout := some (2 * s.presenceMs) }

/-- The effects of an accepted SYNC_REQ (R139, R143). -/
def applySyncReq (target : Addr) (own : Option TxFrame) (s : State) : State :=
  if target = toolAddr then s
  else
    let s := (s.markUnconfirmed target).markOwed target
    let s := if covers target s.own && s.member.state.joinedUp then s.beginRound else s
    let s := if own.isSome && s.isOwnRequest target then s.requestAccepted target else s
    s.judgeExit

/-- SYNC_REQ (R139). -/
def execSyncReq (rx : Rx) (target : Addr) (s : State) : Host.Outcome State Fault Refusal :=
  .next (s.receive rx (.syncReq target) (applySyncReq target))

/-- An entry replaced by a RECOUNT of type START: its hold limit is kept (R141). -/
def recountReplace (p : RecountPayload) (e : StartEntry) : StartEntry :=
  { e with
    seq := p.seq, urgency := p.urgency, sheddable := p.sheddable, inrush := p.inrush, draw := p.draw,
    renewals := p.renewals, remaining := min (p.hold.val * 20) e.limitMs, holdRunning := true, expirePending := false,
    unconfirmed := false }

/-- An entry created by a RECOUNT of type START: a hold limit of 255 x 20 ms (R141, Table 1.3). -/
def recountCreate (owner : Addr) (p : RecountPayload) : StartEntry :=
  { owner := owner, ch := p.ch, seq := p.seq, urgency := p.urgency, sheddable := p.sheddable, inrush := p.inrush,
    draw := p.draw, holdLimit := 255, remaining := p.hold.val * 20, holdRunning := true, renewals := p.renewals,
    expirePending := false, unconfirmed := false }

/-- An entry of this station or a peer whose hold was set to 0: it has run out (R17, R18, R141). -/
def State.runOut (s : State) (owner : Addr) (c : Chan) (q : Seq) : State :=
  if owner = s.own then
    (s.modStarts (fun e => e.isPair owner c) fun e => { e with holdRunning := false }).ownHoldOut c q
  else s.modStarts (fun e => e.isPair owner c) fun e => { e with holdRunning := false, expirePending := true }

/-- A RECOUNT of type START at a copy (R141, R183). -/
def State.recountStart (s : State) (owner : Addr) (p : RecountPayload) : State :=
  if p.inrush = 0 then s
  else
    match s.pairEntry owner p.ch with
    | some e =>
      let t := s.modStarts (fun e => e.isPair owner p.ch) (recountReplace p)
      let t := if e.inrush ≠ p.inrush ∨ e.draw ≠ p.draw then t.notify else t
      if p.hold = 0 then t.runOut owner p.ch p.seq else t
    | none =>
      if s.starts.length < 32 then
        let t := (({ s with starts := s.starts ++ [recountCreate owner p] }).emptySlot owner p.ch).notify
        if p.hold = 0 then t.runOut owner p.ch p.seq else t
      else s.tally fun k => { k with overflows := satSucc 65535 k.overflows }

/-- The slot a RECOUNT of type DRAW fills (R141). -/
def recountSlot (p : RecountPayload) : DrawSlot :=
  { urgency := p.urgency, sheddable := p.sheddable, draw := p.draw, shed := none, unconfirmed := false }

/-- A RECOUNT of type DRAW at a copy (R32, R141). -/
def State.recountDraw (s : State) (owner : Addr) (p : RecountPayload) : State :=
  let changed :=
    (s.pairEntry owner p.ch).isSome
      || match s.drawSlot owner p.ch with
        | some d => decide (d.draw ≠ p.draw)
        | none => true
  let t := (s.dropStarts fun e => e.isPair owner p.ch).fillSlot owner p.ch (recountSlot p)
  if changed then t.notify else t

/-- Recounts heard rises by one; past 255 its value is free (Table 8.3, R141). -/
def State.countHeard (s : State) (a : Addr) : State :=
  if (s.peer a).owed then
    if (s.peer a).heard.val < 255 then s.modPeer a fun x => { x with heard := Fin.ofNat 256 (x.heard.val + 1) }
    else { s.modPeer a (fun x => { x with heard := Config.freeHeard s.freeCount }) with freeCount := s.freeCount + 1 }
  else s

/-- The own RECOUNT accepted: the round goes on after the recounted channel (R140). -/
def State.roundSent (s : State) (c : Chan) : State :=
  { s with member.round := { s.member.round with next := c.val + 1, sent := s.member.round.sent + 1 } }

/-- The effects of an accepted RECOUNT (R140, R141). -/
def applyRecount (owner : Addr) (p : RecountPayload) (own : Option TxFrame) (s : State) : State :=
  let s :=
    match own with
    | some _ => s.roundSent p.ch
    | none => s.countHeard owner
  if p.isDraw then s.recountDraw owner p else s.recountStart owner p

/-- RECOUNT (R141). -/
def execRecount (rx : Rx) (p : RecountPayload) (s : State) : Host.Outcome State Fault Refusal :=
  .next (s.receive rx (.recount p) (applyRecount rx.sender p))

/-- A roster slot after its peer's RECOUNT_END with recount-owed set (R136, R142). -/
def recountEndSlot (number : Fin 8) (x : RosterSlot) : RosterSlot :=
  if x.owed then
    if number.val = x.heard.val then
      { x with owed := false, suspect := false, requestTimer := none, requestVoids := 0 }
    else { x with owed := false, suspect := true }
  else x

/-- The effects of an accepted RECOUNT_END (R140, R142). -/
def applyRecountEnd (sender : Addr) (number : Fin 8) (own : Option TxFrame) (s : State) : State :=
  let s := s.dropOwner sender true
  let s :=
    match own with
    | some _ => { s with member.round.active := false }
    | none => s.modPeer sender (recountEndSlot number)
  s.judgeExit

/-- RECOUNT_END (R142). -/
def execRecountEnd (rx : Rx) (number : Fin 8) (s : State) : Host.Outcome State Fault Refusal :=
  .next (s.receive rx (.recountEnd number) (applyRecountEnd rx.sender number))

/-- A roster slot after an ABSENT naming its peer (R136, R146). -/
def absentSlot (x : RosterSlot) : RosterSlot :=
  { x with
    state := .absent, lastHeard := none, requestTimer := none, suspect := false, owed := false, absentPending := false,
    digest := none, startKind := none, outages := none, reported := none, repStarts := none, repDraws := none,
    requestVoids := 0 }

/-- An ABSENT naming a peer (R146). -/
def State.peerAbsent (s : State) (target : Addr) : State :=
  if (s.peer target).state = .absent then s
  else
    let was := (s.peer target).state
    let s := ((s.dropOwner target false).modPeer target absentSlot).judgeDiscord target
    let s := s.judgeExit
    if was = .present then s.notify else s

/-- An ABSENT naming this station (R147). -/
def State.selfAbsent (s : State) (sender : Addr) : State :=
  let s := s.dropOwner s.own false
  let s := if s.live && !s.startsInProgress.isEmpty then s.abortAll none else s
  let s := s.log .absentSelf none none (some sender)
  if s.member.state.joinedUp then s.enterSyncing .self else s

/-- The effects of an accepted ABSENT (R146, R147). -/
def applyAbsent (sender target : Addr) (_own : Option TxFrame) (s : State) : State :=
  if target = 0 ∨ target = toolAddr then s
  else if target = s.own then s.selfAbsent sender
  else s.peerAbsent target

/-- ABSENT (R146). -/
def execAbsent (rx : Rx) (target : Addr) (s : State) : Host.Outcome State Fault Refusal :=
  .next (s.receive rx (.absent target) (applyAbsent rx.sender target))

end Sys2Proof.Machine
end

