-- ==== Sys2Proof/Machine/StartTable.lean ====
section
/-! DEFINITION. The Start Table frames: CLAIM, RENEW, SETTLED, ABANDONED, EXPIRE (Chapter 1). -/

namespace Sys2Proof.Machine

open Sys2Proof

/-- The entry an admitted claim creates (R9). -/
def claimEntry (owner : Addr) (p : ClaimPayload) : StartEntry :=
  { owner := owner, ch := p.ch, seq := p.seq, urgency := p.urgency, sheddable := p.sheddable, inrush := p.inrush,
    draw := p.draw, holdLimit := p.hold, remaining := p.hold.val * 20, holdRunning := true, renewals := 0,
    expirePending := false, unconfirmed := false }

/-- A voided attempt of an offer is counted; the eighth exhausts the offer, with its record (R57). -/
def State.countClaimVoid (s : State) (c : Chan) : State :=
  match s.queueEntry c with
  | some e =>
    if 8 ≤ e.voids + 1 then (s.requeue c).log .retryExhausted (some c) none none
    else s.modEntry c fun e => { e with voids := e.voids + 1 }
  | none => s

/-- An own claim ends without a verdict, by a void or by R12: counted as a voided attempt of its offer (R57), with which an
entry that is no longer the head, or that INH holds, returns to QUEUED (R55, R59, R60; log 27); a withdrawn claim ends and
is not counted (R59). -/
def State.claimVoided (s : State) (t : TxFrame) (c : Chan) : State :=
  if t.withdrawn then s.deferredJoin c else (s.countClaimVoid c).claimEnded t c

/-- The claimed channel writes the claim's seq as its current seq, its renewal count 0 (R69, R73). -/
def State.writeSeq (s : State) (c : Chan) (q : Seq) : State := s.modChan c fun k => { k with seq := some q, renewals := 0 }

/-- An admitted own claim: its entry leaves the queue and the engine places its start; while INH is asserted the start is
aborted at once (R56, R73, R80, R91). -/
def State.startAdmitted (s : State) (c : Chan) (q : Seq) : State :=
  let s := ((s.writeSeq c q).leave c).placeStart c
  if s.inh.asserted && ((s.chan c).state.inEngine) then s.inhibitStart c else s

/-- The verdict on an own claim reaches the queue and the channel (R10, R11, R56, R58, R59, R69). In the power-fail warning
the channel and its entry are held (R82). -/
def State.claimVerdict (s : State) (t : TxFrame) (p : ClaimPayload) (v : Judgement) : State :=
  let s := { s with queue.claimSeq := s.queue.claimSeq + 1 }
  let s := if v = .admitted then s else s.tally fun k => { k with refused := satSucc 65535 k.refused }
  if s.live then
    if t.withdrawn then
      if v = .admitted then
        ((s.writeSeq p.ch p.seq).setRelease p.ch (.abandoned .requestOff)).deferredJoin p.ch
      else s.deferredJoin p.ch
    else if v = .admitted then s.startAdmitted p.ch p.seq
    else if s.isHead p.ch then s.requeue p.ch
    else (s.requeue p.ch).notify
  else s

/-- The effects of an accepted CLAIM (R8-R12). -/
def applyClaim (owner : Addr) (p : ClaimPayload) (own : Option TxFrame) (s : State) : State :=
  if p.inrush = 0 ∨ p.hold = 0 then
    match own with
    | some t => if s.live then s.claimVoided t p.ch else s
    | none => s
  else
    let v := s.admissionTest owner p.ch p.urgency p.inrush.val p.draw.val
    let s := if v = .admitted then ({ s with starts := s.starts ++ [claimEntry owner p] }).notify else s
    match own with
    | some t => s.claimVerdict t p v
    | none => s

/-- CLAIM (R8). -/
def execClaim (rx : Rx) (p : ClaimPayload) (s : State) : Host.Outcome State Fault Refusal :=
  .next (s.receive rx (.claim p) (applyClaim rx.sender p))

/-- A RENEW is applied to the entry it names (R21). -/
def renewApplies (e : StartEntry) (count : Fin 16) : Bool :=
  decide (1 ≤ count.val ∧ count.val ≤ 3 ∧ e.renewals.val < count.val)

/-- The entry a RENEW names, after it (R20, R21). -/
def renewEntry (count : Fin 16) (e : StartEntry) : StartEntry :=
  if renewApplies e count then
    { e with
      renewals := Fin.ofNat 4 count.val, remaining := e.limitMs, holdRunning := true, expirePending := false,
      unconfirmed := false }
  else { e with unconfirmed := false }

/-- The own RENEW at its channel: the void count clears; an applied one gives the channel its count and clears the
exhausted mark (R61, R99). -/
def State.ownRenewed (s : State) (c : Chan) (count : Fin 16) (applied : Bool) : State :=
  let s := { s with engine.renewVoids := s.engine.renewVoids.set c 0 }
  if applied then
    { s.modChan c (fun k => { k with renewals := Fin.ofNat 4 count.val }) with
      engine.exhausted := s.engine.exhausted.set c false }
  else s

/-- The effects of an accepted RENEW (R20, R21, R99). -/
def applyRenew (owner : Addr) (p : RenewPayload) (own : Option TxFrame) (s : State) : State :=
  let applied :=
    match s.namedEntry owner p.ch p.seq with
    | some e => renewApplies e p.count
    | none => false
  let s := s.modStarts (fun e => e.isNamed owner p.ch p.seq) (renewEntry p.count)
  match own with
  | some _ => if s.live then s.ownRenewed p.ch p.count applied else s
  | none => s

/-- RENEW (R21). -/
def execRenew (rx : Rx) (p : RenewPayload) (s : State) : Host.Outcome State Fault Refusal :=
  .next (s.receive rx (.renew p) (applyRenew rx.sender p))

/-- The slot an accepted SETTLED fills from the entry it removes (R22). -/
def settledSlot (e : StartEntry) : DrawSlot :=
  { urgency := e.urgency, sheddable := e.sheddable, draw := e.draw, shed := none, unconfirmed := false }

/-- The own SETTLED accepted, at its channel (R71, R75, R78). -/
def State.ownSettled (s : State) (c : Chan) : State :=
  if (s.chan c).settleWithdrawn then s.replaceSettled c (.stopped .requestOff)
  else if (s.chan c).state = .settling then s.enterOn c
  else s.clearRelease c

/-- The effects of an accepted SETTLED (R20, R22, R71, R75). -/
def applySettled (owner : Addr) (p : SettledPayload) (own : Option TxFrame) (s : State) : State :=
  let s :=
    match s.namedEntry owner p.ch p.seq with
    | some e => ((s.dropStarts fun e => e.isNamed owner p.ch p.seq).fillSlot owner p.ch (settledSlot e)).notify
    | none => s
  match own with
  | some _ => if s.live then s.ownSettled p.ch else s
  | none => s

/-- SETTLED (R22). -/
def execSettled (rx : Rx) (p : SettledPayload) (s : State) : Host.Outcome State Fault Refusal :=
  .next (s.receive rx (.settled p) (applySettled rx.sender p))

/-- The entries a frame names leave the Start Table, with the notice of R6. -/
def State.dropNamed (s : State) (owner : Addr) (c : Chan) (q : Seq) : State :=
  match s.namedEntry owner c q with
  | some _ => (s.dropStarts fun e => e.isNamed owner c q).notify
  | none => s

/-- The effects of an accepted ABANDONED (R20, R23, R78). -/
def applyAbandoned (owner : Addr) (p : AbandonedPayload) (own : Option TxFrame) (s : State) : State :=
  let s := s.dropNamed owner p.ch p.seq
  match own with
  | some _ => if s.live then s.clearRelease p.ch else s
  | none => s

/-- ABANDONED (R23). -/
def execAbandoned (rx : Rx) (p : AbandonedPayload) (s : State) : Host.Outcome State Fault Refusal :=
  .next (s.receive rx (.abandoned p) (applyAbandoned rx.sender p))

/-- A SETTLING channel whose entry expired is re-queued: outputs off, SETTLED dropped, record written (R25, R76). -/
def State.settleExpired (s : State) (c : Chan) (peer : Addr) : State :=
  let s := ((s.outsOff c).setRelease c .none).log .claimExpired (some c) none (some peer)
  s.join c

/-- The own entry that an EXPIRE removed, at its channel, by the channel's state (Table 1.4). -/
def State.ownEntryExpired (s : State) (c : Chan) (q : Seq) (sender : Addr) : State :=
  if (s.chan c).seq = some q then
    match (s.chan c).state with
    | .pending | .starting | .suspended => s.abortStart c .none .claimExpired (some sender)
    | .settling => s.settleExpired c sender
    | .disabled | .idle | .queued | .claiming | .on | .shed | .faulted =>
      match (s.chan c).release with
      | .abandoned _ => s.clearRelease c
      | .none | .settled | .stopped _ => s
  else s

/-- The effects of an accepted EXPIRE (R20, R24, R25). -/
def applyExpire (sender : Addr) (p : ExpirePayload) (_own : Option TxFrame) (s : State) : State :=
  match s.namedEntry p.owner p.ch p.seq with
  | some _ =>
    let s := (s.dropStarts fun e => e.isNamed p.owner p.ch p.seq).notify
    if p.owner = s.own ∧ s.live then s.ownEntryExpired p.ch p.seq sender else s
  | none => s

/-- EXPIRE (R24). -/
def execExpire (rx : Rx) (p : ExpirePayload) (s : State) : Host.Outcome State Fault Refusal :=
  .next (s.receive rx (.expire p) (applyExpire rx.sender p))

end Sys2Proof.Machine
end

