-- ==== Sys2Proof/Machine/BusEvents.lean ====
section
/-! DEFINITION. Instants of the bus other than an acceptance: void, arbitration loss, clash, incomplete frame, break, free
bus (Chapter 9). -/

namespace Sys2Proof.Machine

open Sys2Proof

/-- A voided own RENEW (R99), also one whose start left the engine while it was on the bus: it is counted, and the eighth
exhausts the renewal and writes its record (DESIGN CHOICE, log 32). -/
def State.renewVoided (s : State) (c : Chan) : State :=
  let n := s.engine.renewVoids.get c + 1
  let s := { s with engine.renewVoids := s.engine.renewVoids.set c (min n 8) }
  if n = 8 then ({ s with engine.exhausted := s.engine.exhausted.set c true }).log .retryExhausted (some c) none none
  else s

/-- A voided own release: its release void count rises; at 8 or above LINK_DEGRADED is set (R159). -/
def State.releaseVoided (s : State) (c : Chan) : State :=
  let n := satSucc 255 (s.bus.releaseVoids.get c)
  { s with
    bus.releaseVoids := s.bus.releaseVoids.set c n
    bus.degraded := s.bus.degraded || decide (8 ≤ n) }

/-- A voided own SHED_CALL adds to the outstanding call it belongs to; the eighth ends the call (R35). -/
def State.shedCallVoided (s : State) (q : Seq) : State :=
  match s.queue.shedCall with
  | some k =>
    if k.callSeq = q then
      if 8 ≤ k.voids + 1 then s.endShedNeed.log .retryExhausted (some k.ch) none none
      else { s with queue.shedCall := some { k with voids := k.voids + 1 } }
    else s
  | none => s

/-- A voided own SYNC_REQ: the own request's count (R143), or the owed request's of its peer (R136). -/
def State.syncReqVoided (s : State) (target : Addr) : State :=
  if s.isOwnRequest target then
    if 8 ≤ s.member.ownVoids + 1 then
      ({ s with member.ownRequest := none, member.ownVoids := s.member.ownVoids + 1 }).log .retryExhausted none none none
    else { s with member.ownVoids := s.member.ownVoids + 1 }
  else if (s.peer target).requestOwed then
    if 8 ≤ (s.peer target).requestVoids + 1 then
      (s.modPeer target fun x => { x with requestVoids := 0, requestTimer := some s.presenceMs }).log .retryExhausted none
        none (some target)
    else s.modPeer target fun x => { x with requestVoids := x.requestVoids + 1 }
  else s

/-- A voided own HELLO (R133). -/
def State.helloVoided (s : State) : State :=
  let s := { s with member.helloVoids := s.member.helloVoids + 1 }
  if 8 ≤ s.member.helloVoids then ({ s with member.helloDue := false }).log .retryExhausted none none none else s

/-- A voided own ANSWER (R176), counted or dropped in the power-fail warning too (DESIGN CHOICE, log 37). -/
def State.answerVoided (s : State) : State :=
  match s.answer with
  | some p => if 2 ≤ p.voids + 1 then { s with answer := none } else { s with answer := some { p with voids := p.voids + 1 } }
  | none => s

/-- An own frame was voided: frames sent and voided rise and its source retries or drops it (R155, R158, Table 9.4). In
the power-fail warning channels, engine and queue entries are held. -/
def State.ownVoided (s : State) (t : TxFrame) : State :=
  let s := s.clearTx.tally fun k => { k with sent := satSucc 65535 k.sent, voided := satSucc 65535 k.voided }
  match t.frame with
  | .claim p => if s.live then s.claimVoided t p.ch else s
  | .renew p => if s.live then s.renewVoided p.ch else s
  | .settled p => if s.live then (s.releaseVoided p.ch).settleEnded p.ch else s.releaseVoided p.ch
  | .abandoned p => s.releaseVoided p.ch
  | .stopped p => s.releaseVoided p.ch
  | .shedCall p => s.shedCallVoided p.callSeq
  | .syncReq target => s.syncReqVoided target
  | .hello _ => s.helloVoided
  | .presence _ => { s with member.presenceTimer := some s.presenceMs, member.presenceDue := false }
  | .answer _ => s.answerVoided
  | .expire _ | .absent _ | .recount _ | .recountEnd _ | .inquire _ => s

/-- An objection of this station's own is counted (R154, R156). -/
def State.countObjection (s : State) : State := s.tally fun k => { k with objections := satSucc 65535 k.objections }

/-- ARBITRATION_LOST (R152): the station goes on as a listener of the frame in progress. -/
def execArbitrationLost (s : State) : Host.Outcome State Fault Refusal :=
  .next
    (match s.bus.tx with
    | some t => if s.operating then (s.loseArbitration t).finish else s
    | none => s)

/-- ADDRESS_CLASH (R153). -/
def execAddressClash (s : State) : Host.Outcome State Fault Refusal :=
  .next (if s.takesPart then s.meetClash.finish else s)

/-- What finding a frame incomplete does (R156). -/
def State.foundIncomplete (s : State) : State :=
  let s :=
    match s.bus.tx with
    | some t => s.ownLost t
    | none => s
  let s := s.countObjection
  if s.member.state.joinedUp then s.enterSyncing .all else s

/-- A void frame of another station: found incomplete (R149, R156), or counted where this station found it faulty (R154). -/
def State.otherVoided (s : State) (raw : RawFrame) : State :=
  if frameIncomplete (slotTime s.group.bitRate) raw then s.foundIncomplete
  else
    match readFrame (slotTime s.group.bitRate) raw with
    | some _ => s
    | none => s.countObjection

/-- FRAME_VOIDED (R155). The slots are not read for an own frame. -/
def execFrameVoided (raw : RawFrame) (s : State) : Host.Outcome State Fault Refusal :=
  .next
    (if s.takesPart then
      match s.bus.tx with
      | some t => (s.ownVoided t).frameEnds.finish
      | none => (s.otherVoided raw).frameEnds.finish
    else s.frameEnds.finish)

/-- FRAME_INCOMPLETE (R156). -/
def execFrameIncomplete (s : State) : Host.Outcome State Fault Refusal :=
  .next (if s.takesPart then s.foundIncomplete.frameEnds.finish else s.frameEnds.finish)

/-- A break on the line at this station: on a free bus it joins the break with a candidate, otherwise it receives (R150). -/
def State.seeBreak (s : State) : State :=
  if s.operating && s.bus.tx.isNone then
    let s := if s.bus.lineBusy then s else s.select
    match s.bus.tx with
    | some _ => s
    | none => { s with bus := { s.bus with lineBusy := true, receiving := true, free := false } }
  else { s with bus := { s.bus with lineBusy := true, free := false } }

/-- FRAME_BREAK (R150). -/
def execFrameBreak (s : State) : Host.Outcome State Fault Refusal := .next s.seeBreak.finish

/-- BUS_FREE (R160): the line has stood high; the selector runs. -/
def execBusFree (s : State) : Host.Outcome State Fault Refusal :=
  .next
    (match s.bus.tx with
    | some _ => s
    | none =>
      ({ s with bus := { s.bus with lineBusy := false, receiving := false, free := s.operating } }).finish)

end Sys2Proof.Machine
end

