-- ==== Sys2Proof/Machine/DrawTable.lean ====
section
/-! DEFINITION. The Draw Table frames: STOPPED and SHED_CALL (Chapter 2). -/

namespace Sys2Proof.Machine

open Sys2Proof

/-- The effects of an accepted STOPPED (R31, R32, R78). -/
def applyStopped (owner : Addr) (p : StoppedPayload) (own : Option TxFrame) (s : State) : State :=
  let s :=
    match s.drawSlot owner p.ch with
    | some _ => (s.emptySlot owner p.ch).notify
    | none => s
  match own with
  | some _ => if s.live then s.clearRelease p.ch else s
  | none => s

/-- STOPPED (R31). -/
def execStopped (rx : Rx) (p : StoppedPayload) (s : State) : Host.Outcome State Fault Refusal :=
  .next (s.receive rx (.stopped p) (applyStopped rx.sender p))

/-- An own slot was marked: an ON channel is shed; any other keeps its state and release (R38, R44). -/
def State.shedChannel (s : State) (c : Chan) : State :=
  if (s.chan c).state = .on then
    let s := ((s.outsOff c).enter c .shed).setRelease c (.stopped .shed)
    s.modChan c fun k => { k with senseGrace := none, shedRest := some (s.image.station.shedRest * 1000) }
  else s

/-- Mark the slots of a shed set with the caller and its call seq (R37). -/
def State.markSlots (s : State) (numbers : List Nat) (m : ShedMark) : State :=
  { s with draws := slotMap (fun n d => if n ∈ numbers then { d with shed := some m } else d) s.draws }

/-- The caller's queue entry after its SHED_CALL was accepted (R39). -/
def State.callAnswered (s : State) (t : TxFrame) : State :=
  match t.shedFor with
  | some c => s.modEntry c fun e => { e with shedCalled := true, shedWait := some (2 * s.presenceMs) }
  | none => s

/-- The outstanding call with this call seq ends (R34). -/
def State.endCall (s : State) (q : Seq) : State :=
  { s with queue.shedCall := s.queue.shedCall.filter fun k => decide (k.callSeq ≠ q) }

/-- The effects of an accepted SHED_CALL (R36-R39, R42). -/
def applyShedCall (caller : Addr) (p : ShedCallPayload) (own : Option TxFrame) (s : State) : State :=
  let s := if own.isSome then s.endCall p.callSeq else s
  if p.callerUrgency ≠ 0 ∨ p.shortfall = 0 then s
  else
    let marked := (shedSet s.draws p.callerUrgency p.shortfall.val).map (·.1)
    let s := s.markSlots marked { caller := caller, callSeq := p.callSeq }
    let s :=
      if s.live then
        (allChans.filter fun c => decide (slotNo s.own c ∈ marked)).foldl (fun s c => s.shedChannel c) s
      else s
    let s := if marked.isEmpty then s else s.notify
    match own with
    | some t => s.callAnswered t
    | none => s

/-- SHED_CALL (R36). -/
def execShedCall (rx : Rx) (p : ShedCallPayload) (s : State) : Host.Outcome State Fault Refusal :=
  .next (s.receive rx (.shedCall p) (applyShedCall rx.sender p))

end Sys2Proof.Machine
end

