-- ==== Sys2Proof/Machine/Inquiry.lean ====
section
/-! DEFINITION. The inquiry frames and the tool's: INQUIRE, ANSWER, TOOL_FRAME_REJECT (Chapter 11, R162). -/

namespace Sys2Proof.Machine

open Sys2Proof

/-- The effects of an accepted INQUIRE: one that names this station sets or replaces the pending answer (R175). -/
def applyInquire (p : InquirePayload) (_own : Option TxFrame) (s : State) : State :=
  if p.target = s.own then
    let s := if s.answer.isSome then s.tally fun k => { k with overruns := satSucc 65535 k.overruns } else s
    { s with answer := some { selector := p.selector, index := p.index, voids := 0 } }
  else s

/-- INQUIRE (R175). -/
def execInquire (rx : Rx) (p : InquirePayload) (s : State) : Host.Outcome State Fault Refusal :=
  .next (s.receive rx (.inquire p) (applyInquire p))

/-- The effects of an accepted ANSWER: at its sender the pending answer becomes none (R176), in the
power-fail warning too (DESIGN CHOICE, log 37). -/
def applyAnswer (own : Option TxFrame) (s : State) : State :=
  match own with
  | some _ => { s with answer := none }
  | none => s

/-- ANSWER (R176). -/
def execAnswer (rx : Rx) (p : AnswerPayload) (s : State) : Host.Outcome State Fault Refusal :=
  .next (s.receive rx (.answer p) applyAnswer)

/-- TOOL_FRAME_REJECT (R162): an accepted frame of a kind other than INQUIRE from address 31 is applied nowhere. -/
def execToolFrameReject (f : Frame) (s : State) : Host.Outcome State Fault Refusal :=
  .next (s.receive { sender := toolAddr, acked := true } f fun _ s => s)

end Sys2Proof.Machine
end

