-- ==== Sys2Proof/Machine/Lines.lean ====
section
/-! DEFINITION. The local lines: REQn and its debouncer, SENSEn and its supervision, shed rest, INH and its filter
(Chapters 2, 4, 5). The level of a pin is recorded always; channels act on it while the station runs, loaded, not HALTED
and not in the power-fail warning (R62, R82, R118). -/

namespace Sys2Proof.Machine

open Sys2Proof

/-- The debouncer after REQn took a level (R66). A DISABLED channel is not debounced (R81). -/
def State.debounce (s : State) (c : Chan) (active : Bool) : State :=
  if (s.chan c).state = .disabled then s
  else
    s.modChan c fun k =>
      { k with debounceTimer := if active = k.debounced then none else some ((s.cfg c).debounce * 10) }

/-- REQ_LEVEL_CHANGE (R66). -/
def execReqLevelChange (c : Chan) (active : Bool) (s : State) : Host.Outcome State Fault Refusal :=
  .next
    (if s.pins.req.get c = active then s
    else
      let t := { s with pins.req := s.pins.req.set c active }
      if s.live then (t.debounce c active).finish else t)

/-- The debounced request takes the level of REQn: a press or a release (R66, R67). -/
def State.debounced (s : State) (c : Chan) : State :=
  let level := s.pins.req.get c
  let was := (s.chan c).debounced
  let s := s.modChan c fun k => { k with debounceTimer := none, debounced := level }
  if level = was then s else s.writeLatch c level

/-- DEBOUNCE_TIMER_RUNS_OUT (R66). -/
def execDebounceTimerRunsOut (c : Chan) (s : State) : Host.Outcome State Fault Refusal :=
  .next (if s.live && (s.chan c).debounceTimer.isSome then (s.debounced c).finish else s)

/-- The running recipe's AWAIT sees SENSEn at its level (R87). -/
def State.senseAwait (s : State) (c : Chan) (active : Bool) : State :=
  match s.engine.running with
  | some r =>
    if r.ch = c then
      match s.stepOf r with
      | some (.await level _ _) => if level = active then s.stepCompletes r else s
      | _ => s
    else s
  | none => s

/-- Sense supervision in ON (R79). -/
def State.senseWatch (s : State) (c : Chan) (active : Bool) : State :=
  if (s.chan c).state = .on ∧ (s.cfg c).senseRequired = true then
    s.modChan c fun k => { k with senseGrace := if active then none else some ((s.cfg c).senseGrace * 10) }
  else s

/-- SENSE_CHANGE (R87, R79). -/
def execSenseChange (c : Chan) (active : Bool) (s : State) : Host.Outcome State Fault Refusal :=
  .next
    (if s.pins.sense.get c = active then s
    else
      let t := { s with pins.sense := s.pins.sense.set c active }
      if s.live then ((t.senseWatch c active).senseAwait c active).finish else t)

/-- The sense grace of an ON channel runs out (R79, R64). -/
def State.senseLost (s : State) (c : Chan) : State :=
  let s := ((s.outsOff c).setRelease c (.stopped .senseLost)).enter c .faulted
  let s := (s.modChan c fun k => { k with senseGrace := none }).clearMark c
  s.log .senseLost (some c) none none

/-- SENSE_GRACE_RUNS_OUT (R79). -/
def execSenseGraceRunsOut (c : Chan) (s : State) : Host.Outcome State Fault Refusal :=
  .next
    (if s.live && decide ((s.chan c).state = .on) && (s.chan c).senseGrace.isSome then (s.senseLost c).finish else s)

/-- SHED_REST_RUNS_OUT (R44). -/
def execShedRestRunsOut (c : Chan) (s : State) : Host.Outcome State Fault Refusal :=
  .next
    (if s.live && decide ((s.chan c).state = .shed) && (s.chan c).shedRest.isSome then
      ((s.modChan c fun k => { k with shedRest := none }).join c).finish
    else s)

/-- INH_PIN_CHANGE (R80): the filter's 20 ms of stability. -/
def execInhPinChange (active : Bool) (s : State) : Host.Outcome State Fault Refusal :=
  .next
    (if s.pins.inh = active then s
    else
      let t := { s with pins.inh := active }
      if s.live then
        ({ t with inh.timer := if active = t.inh.asserted then none else some 20 }).finish
      else t)

/-- A CLAIMING channel whose CLAIM is not on the bus is withdrawn (R55). -/
def State.withdrawIdleClaim (s : State) (c : Chan) : State :=
  if (s.chan c).state = .claiming ∧ s.claimOnBus c = false then s.requeue c else s

/-- The assertion of filtered INH (R80, R114). -/
def State.inhibit (s : State) : State :=
  let s := { s with inh := { asserted := true, timer := none } }
  let s := allChans.foldl (fun s c => s.withdrawIdleClaim c) s
  if s.startsInProgress.isEmpty then s else s.abortAll (some (.abandoned .inhibit))

/-- INH_ASSERTED (R80). -/
def execInhAsserted (s : State) : Host.Outcome State Fault Refusal :=
  .next (if s.live && s.inh.timer.isSome && s.pins.inh && !s.inh.asserted then s.inhibit.finish else s)

/-- INH_RELEASED (R80). -/
def execInhReleased (s : State) : Host.Outcome State Fault Refusal :=
  .next
    (if s.live && s.inh.timer.isSome && !s.pins.inh && s.inh.asserted then
      ({ s with inh := { asserted := false, timer := none } }).notify.finish
    else s)

end Sys2Proof.Machine
end

