-- ==== Sys2Proof/Machine/Loading.lean ====
section
/-! DEFINITION. Loading: the read attempts, the judgement of the image, the two ends of loading (Chapters 4, 7, 10). -/

namespace Sys2Proof.Machine

open Sys2Proof

/-- The station reads its image (R167, R168). -/
def State.loading (s : State) : Bool :=
  decide (s.power.phase = .running) && !s.power.warning && decide (s.member.state = .loading)

/-- Loading ends in HALTED: a CONFIG_BAD record without a channel (R166, R168, R170, R174). An image whose group or station
section fails is not held: its bytes are dropped (DESIGN CHOICE, log 33). -/
def State.haltLoading (s : State) (result : LoadResult) : State :=
  (({ s with loader.result := result }).log .configBad none none none).enterHalted

/-- An attempt is in progress: the loader drives the lines. -/
def LoadPhase.reading : LoadPhase → Bool
  | .header => true
  | .rest => true
  | .idle => false
  | .retryWait _ => false

/-- The loader acts on CFG_SCL and CFG_SDA (R167). -/
def State.drive (s : State) (ops : List LinkOp) : State := { s with loader.link := s.loader.link ++ ops }

/-- An attempt fails or is rejected; the third ends loading (R168). -/
def State.failAttempt (s : State) : State :=
  let s := { s with loader.attempts := s.loader.attempts + 1, loader.bytes := [] }
  if 3 ≤ s.loader.attempts then s.haltLoading .haltedImage else { s with loader.phase := .retryWait 10 }

/-- The restore value of a channel (Table 7.4). -/
def restoreValue (k : ChannelConfig) (samples : BitVec 8) (fill : Nat) : Bool :=
  match k.restorePolicy with
  | .off => false
  | .on => true
  | .previous => decide (k.lookBack < fill) && samples.getMsbD k.lookBack

/-- The demand latch at start (Table 4.2). -/
def startLatch (kind : StartKind) (k : ChannelConfig) (pin : Bool) (samples : BitVec 8) (fill : Nat) : Bool :=
  match kind with
  | .cold =>
    match k.requestMode with
    | .level => pin
    | .toggle => false
  | .outage => restoreValue k samples fill
  | .pin => restoreValue k samples fill

/-- A channel's record at the end of loading (R62, R63, R81). -/
def State.loadedChannel (s : State) (c : Chan) (k : Channel) : Channel :=
  match s.image.channels.get c with
  | .enabled cfg =>
    let on := startLatch s.history.startKind cfg (s.pins.req.get c) (s.retention.samples.get c) (s.retention.fill.get c)
    { k with
      debounced := s.pins.req.get c, debounceTimer := none, latch := on,
      mark := on && decide (s.history.startKind ≠ .cold) }
  | .notEnabled => { k with state := .disabled }
  | .invalid _ => { k with state := .disabled }

/-- The CONFIG_BAD record of an invalid channel record (R172). -/
def State.logInvalid (s : State) (c : Chan) : State :=
  match s.image.channels.get c with
  | .invalid step => s.log .configBad (some c) step none
  | .notEnabled => s
  | .enabled _ => s

/-- A channel whose start latch is on joins the queue (R62, R48). -/
def State.joinLatched (s : State) (c : Chan) : State := if (s.chan c).latch then s.join c else s

/-- The number of restore marks set (R126). -/
def State.countMarks (s : State) : Nat := (allChans.filter fun c => (s.chan c).mark).length

/-- LISTEN is entered: window, HELLO, presence timer (R133). -/
def State.enterListen (s : State) : State :=
  { s.setMState .listen with
    member.listenWindow := some (3 * s.presenceMs)
    member.helloDue := true
    member.presenceTimer := some s.presenceMs }

/-- Loading ends with load result RUNNING (R171, R173). -/
def State.endLoading (s : State) (bytes : List Byte) : State :=
  let s :=
    { s with loader :=
        { s.loader with
          image := some (readImage bytes), digest := some (groupDigest bytes), result := .running, bytes := [],
          phase := .idle } }
  let s := allChans.foldl (fun s c => s.logInvalid c) s
  let s := { s with channels := s.channels.mapChan s.loadedChannel }
  let s := { s with history.marks := s.countMarks }
  let s := allChans.foldl (fun s c => s.joinLatched c) s
  let s := { s with inh := { asserted := s.pins.inh, timer := none } }
  s.enterListen

/-- The whole image has been read: the check, then the sections (R169, R170). -/
def State.judgeImage (s : State) (bytes : List Byte) : State :=
  if imageAccepted bytes then
    if groupPasses (groupSection bytes) && stationPasses (stationSection bytes) then s.endLoading bytes
    else s.haltLoading .haltedGroup
  else s.failAttempt

/-- The header is read and judged at once; a failing one ends the read (R167, step 4; R169). -/
def State.readHeader (s : State) (clocks : Fin 10) (tag len : Byte) : State :=
  let s := s.drive (openRead clocks ++ [.take tag true, .take len true])
  if headerPasses tag len then { s with loader.phase := .rest, loader.bytes := [tag, len] }
  else (s.drive [.stop, .release]).failAttempt

/-- IMAGE_HEADER_READ (R169): a failing header rejects the attempt. -/
def execImageHeaderRead (tag len : Byte) (s : State) (clocks : Fin 10 := 0) : Host.Outcome State Fault Refusal :=
  .next
    (if s.loading && decide (s.loader.phase = .header) then (s.readHeader clocks tag len).finish else s)

/-- IMAGE_READ_COMPLETE (R169). -/
def execImageReadComplete (rest : List Byte) (s : State) : Host.Outcome State Fault Refusal :=
  .next
    (if s.loading && decide (s.loader.phase = .rest) then
      ((s.drive (readRest rest ++ [.stop, .release])).judgeImage (s.loader.bytes ++ rest)).finish
    else s)

/-- IMAGE_ATTEMPT_FAILS (R168). One that comes after the header ends the read in progress (log 35). -/
def execImageAttemptFails (s : State) (how : LinkFailure := .stuck) : Host.Outcome State Fault Refusal :=
  .next
    (if s.loading then
      match s.loader.phase with
      | .header => (s.drive (failedLink how)).failAttempt.finish
      | .rest => (s.drive [.stop, .release]).failAttempt.finish
      | .idle => s
      | .retryWait _ => s
    else s)

/-- CLOCK_STRETCH_TIMEOUT (R167): with CFG_SCL held low no stop condition can be sent. The bytes read whole stand in the
record; 107 bytes come after the header (R185). -/
def execClockStretchTimeout (s : State) (clocks : Fin 10 := 0) (done : Nat := 0) (bytes : List Byte := []) :
    Host.Outcome State Fault Refusal :=
  .next
    (if s.loading then
      match s.loader.phase with
      | .header => (s.drive (stretchedHeader clocks done bytes ++ [.release])).failAttempt.finish
      | .rest => (s.drive (readBytes 107 bytes ++ [.release])).failAttempt.finish
      | .idle => s
      | .retryWait _ => s
    else s)

/-- A new attempt begins from step 1 after the 10 ms wait (R167, R168). -/
def State.beginAttempt (s : State) : State :=
  { s with loader.phase := .header, loader.bytes := [], loader.link := [] }

/-- The loader waits before a new attempt. -/
def LoadPhase.waits : LoadPhase → Bool
  | .retryWait _ => true
  | .header => false
  | .rest => false
  | .idle => false

/-- ATTEMPT_RETRY_WAIT_ELAPSED (R168). -/
def execAttemptRetryWaitElapsed (s : State) : Host.Outcome State Fault Refusal :=
  .next (if s.loading && s.loader.phase.waits then s.beginAttempt.finish else s)

end Sys2Proof.Machine
end

