-- ==== Sys2Proof/Machine/Power.lean ====
section
/-! DEFINITION. Supplies, reset and starts: the retention domain, the power-fail warning, RSTN, START (Chapter 7). -/

namespace Sys2Proof.Machine

open Sys2Proof

/-- What the warning stops in a running part: outputs off, timers of channels and INH stopped, sampling stopped, loading
abandoned with its lines released (R66, R82, R121, R167, R168). Tables, queue and membership keep their timers (R5, R49, R132). -/
def State.enterWarning (s : State) : State :=
  { s with
    power.warning := true
    channels := s.channels.map fun k =>
      { k with debounceTimer := none, senseGrace := none, shedRest := none, pre := false, main := false }
    inh.timer := none
    history.released := false
    history.sampleTimer := none
    loader.phase := .idle
    loader.bytes := []
    loader.link := if s.loader.phase.reading then s.loader.link ++ [.release] else s.loader.link }

/-- VMAIN falls below its warning threshold (R118, R119, R121). -/
def State.failPower (s : State) : State :=
  let s :=
    { s with
      power.vmain := .low
      power.startDelay := none
      retention.mainPresent := false }
  if s.power.phase = .running then s.enterWarning else s

/-- POWER_FAIL_WARNING (R121). -/
def execPowerFailWarning (s : State) : Host.Outcome State Fault Refusal :=
  .next (if s.power.vmain = .good then s.failPower.finish else s)

/-- VMAIN is lost: the part loses power; the retention domain runs from VKEEP (R116, R121). A loss of VMAIN passes its
warning threshold. -/
def State.losePower (s : State) : State :=
  let s := if s.power.vmain = .good then s.failPower else s
  ({ s with
    power :=
      { vmain := .absent, domain := .vkeep, phase := .unpowered, warning := false, startDelay := none } }).discard

/-- VMAIN_LOST (R121). -/
def execVmainLost (s : State) : Host.Outcome State Fault Refusal :=
  .next (if s.power.vmain = .absent then s else s.losePower.finish)

/-- The retention domain loses its supply too: its contents are indeterminate, and found invalid (R117). -/
def State.loseRetention (s : State) : State :=
  let n := s.freeCount
  { s with
    power.domain := .none
    retention :=
      { samples :=
          { ch0 := Config.freeSamples n 0, ch1 := Config.freeSamples n 1, ch2 := Config.freeSamples n 2,
            ch3 := Config.freeSamples n 3 }
        fill :=
          { ch0 := Config.freeFill n 0, ch1 := Config.freeFill n 1, ch2 := Config.freeFill n 2,
            ch3 := Config.freeFill n 3 }
        outages := Config.freeOutages n
        mainPresent := Config.freeMainPresent n
        pattern := .other }
    freeCount := n + 1 }

/-- RETENTION_LOSS (R117): VMAIN and VKEEP are both gone. -/
def execRetentionLoss (s : State) : Host.Outcome State Fault Refusal :=
  .next ((if s.power.vmain = .absent then s else s.losePower).loseRetention.finish)

/-- The start delay runs while VMAIN is good and RSTN is high (R118). -/
def startDelayFor (rstn : Bool) : Option Nat := if rstn then some 50 else none

/-- VMAIN recovers in a part that still has power: the warning condition stays and everything is held until the start, ABL
released and the start delay running (R82, R110, R118, R122, log 30). -/
def State.recover (s : State) : State :=
  { s.enterWarning.releaseLine with
    power.vmain := .good
    power.domain := .vmain
    power.startDelay := startDelayFor s.pins.rstn }

/-- VMAIN rises in a part without power or held in reset: the part is held in reset (R118). -/
def State.powerUp (s : State) : State :=
  ({ s with
    power :=
      { vmain := .good, domain := .vmain, phase := .inReset, warning := false,
        startDelay := startDelayFor s.pins.rstn } }).discard

/-- VMAIN_RISE (R118, R122). -/
def execVmainRise (s : State) : Host.Outcome State Fault Refusal :=
  .next
    (if s.power.vmain = .good then s
    else if s.power.phase = .running then s.recover.finish
    else s.powerUp.finish)

/-- RSTN_LOW (R118): reset at once. The retention domain and its main-present flag are untouched. A part without power has
nothing more to discard; FLT is deasserted in it too (R83, log 36). -/
def execRstnLow (s : State) : Host.Outcome State Fault Refusal :=
  .next
    (if s.pins.rstn then
      let t := { s with pins.rstn := false, power.startDelay := none }
      if s.power.phase = .unpowered then { t with indicators.flt := false }
      else ({ t with power.phase := .inReset, power.warning := false }).discard.finish
    else s)

/-- RSTN_RELEASE (R118): the start delay runs where VMAIN is good. -/
def execRstnRelease (s : State) : Host.Outcome State Fault Refusal :=
  .next
    (if s.pins.rstn then s
    else
      ({ s with
        pins.rstn := true
        power.startDelay := if s.power.vmain = Vmain.good then some 50 else s.power.startDelay }).finish)

/-- The retention contents are valid (R117). -/
def Retention.valid (r : Retention) : Bool :=
  decide (r.pattern = .fixed) && decide (r.fill.ch0 ≤ 8 ∧ r.fill.ch1 ≤ 8 ∧ r.fill.ch2 ≤ 8 ∧ r.fill.ch3 ≤ 8)

/-- The start kind (Table 7.3). -/
def Retention.kind (r : Retention) : StartKind :=
  if r.valid then if r.mainPresent then .pin else .outage else .cold

/-- The retention contents after the decision of the start kind (R119, R120). -/
def Retention.afterStart (r : Retention) : Retention :=
  match r.kind with
  | .cold => { samples := Four.same 0, fill := Four.same 0, outages := 0, mainPresent := true, pattern := .fixed }
  | .outage =>
    { r with outages := if r.outages.val < 255 then Fin.ofNat 256 (r.outages.val + 1) else 255, mainPresent := true }
  | .pin => { r with mainPresent := true }

/-- The START record, record number 0 (R119, R178). -/
def startRecordOf (kind : StartKind) : FaultList :=
  { records := [{ kind := .start, ch := none, step := none, peer := none, startKind := some kind, number := 0 }]
    counter := 1 }

/-- The straps are sampled: 1-30 begin the image read, 0 and 31 halt (R166). -/
def State.sampleStraps (s : State) (straps : Addr) : State :=
  let s := { s with pins.addr := straps, loader.addr := some straps }
  if straps = 0 ∨ straps = toolAddr then s.haltLoading .haltedGroup else s.beginAttempt

/-- A start (R119, R120, R166, R178). -/
def State.begin (s : State) (straps : Addr) : State :=
  let kind := s.retention.kind
  let s := s.discard
  let s :=
    { s with
      power.phase := .running
      power.warning := false
      power.startDelay := none
      retention := s.retention.afterStart
      history.startKind := kind
      faults := startRecordOf kind }
  s.sampleStraps straps

/-- START (R119): the start delay has elapsed. -/
def execStart (straps : Addr) (s : State) : Host.Outcome State Fault Refusal :=
  .next
    (if s.awaitsStart then (s.begin straps).finish else s)

end Sys2Proof.Machine
end

