-- ==== Sys2Proof/Machine/Timers.lean ====
section
/-! DEFINITION. The timers of tables, queue, engine, membership and history run out. Each event is a fact about the
timer: a running timer is at its end whatever the state says is left; a stopped timer gives no event. -/

namespace Sys2Proof.Machine

open Sys2Proof

/-- The hold of a running entry of a pair has run out (R16). -/
def State.holdEnds (s : State) (owner : Addr) (c : Chan) (expirePending : Bool) : State :=
  s.modStarts (fun e => e.isPair owner c && e.holdRunning) fun e =>
    { e with remaining := 0, holdRunning := false, expirePending := e.expirePending || expirePending }

/-- HOLD_RUNS_OUT_AT_PEER (R17): the expire-pending mark of an entry that is not owned here. -/
def execHoldRunsOutAtPeer (owner : Addr) (c : Chan) (s : State) : Host.Outcome State Fault Refusal :=
  .next (if s.operating && decide (owner ≠ s.own) then (s.holdEnds owner c true).finish else s)

/-- HOLD_RUNS_OUT_AT_OWNER (R18): no mark; a tracked start with this seq is aborted (R100). -/
def execHoldRunsOutAtOwner (c : Chan) (s : State) : Host.Outcome State Fault Refusal :=
  .next
    (if s.operating then
      match s.pairEntry s.own c with
      | some e => if e.holdRunning then ((s.holdEnds s.own c false).ownHoldOut c e.seq).finish else s
      | none => s
    else s)

/-- The hold remaining of a tracked start is below a quarter of its limit (R98). The command states it, so a hold that the
model counts higher is set to the highest value at which it holds, also where the renewal count or the exhausted mark lets
no need arise (DESIGN CHOICE, log 31). -/
def State.holdLow (s : State) (c : Chan) : State :=
  match s.trackedEntry c with
  | some e =>
    s.modStarts (fun x => x.isNamed s.own c e.seq && x.holdRunning) fun x =>
      { x with remaining := min x.remaining ((x.limitMs - 1) / 4) }
  | none => s

/-- RENEWAL_NEED (R98): the selector finds the need at its next run. What the command writes is the model's choice
(log 31). -/
def execRenewalNeed (c : Chan) (s : State) : Host.Outcome State Fault Refusal :=
  .next (if s.live && s.tracked c then (s.holdLow c).finish else s)

/-- An ageing step of an entry (R50). -/
def State.age (s : State) (c : Chan) : State :=
  (s.modEntry c fun e =>
    { e with eff := e.eff - 1, patience := agingTimer (s.cfg c) (e.eff - 1) }).reform.notify

/-- PATIENCE_TIMER_RUNS_OUT (R50). -/
def execPatienceTimerRunsOut (c : Chan) (s : State) : Host.Outcome State Fault Refusal :=
  .next
    (match s.queueEntry c with
    | some e => if s.operating && e.patience.isSome then (s.age c).finish else s
    | none => s)

/-- The shed wait of an entry runs out (R40). -/
def State.shedWaitEnds (s : State) (c : Chan) : State :=
  let s := s.modEntry c fun e => { e with shedWait := none }
  if (s.chan c).state = .queued then s.log .shedInsufficient (some c) none none else s

/-- SHED_WAIT_RUNS_OUT (R40). -/
def execShedWaitRunsOut (c : Chan) (s : State) : Host.Outcome State Fault Refusal :=
  .next
    (match s.queueEntry c with
    | some e => if s.operating && e.shedWait.isSome then (s.shedWaitEnds c).finish else s
    | none => s)

/-- The running slot holds the step of a channel's recipe whose time ran out; a time that stopped with its step gives no
event (R87, R101, log 34). -/
def State.timedStep (s : State) (c : Chan) (step : Fin 8) : Option RunSlot :=
  s.engine.running.filter fun r => decide (r.ch = c ∧ r.step = step.val)

/-- DWELL_TIME_RUNS_OUT (R86): the running DWELL completes. -/
def execDwellTimeRunsOut (s : State) (c : Chan := 0) (step : Fin 8 := 0) : Host.Outcome State Fault Refusal :=
  .next
    (match s.timedStep c step with
    | some r =>
      match s.stepOf r with
      | some (.dwell _ _) => if s.live then (s.stepCompletes r).finish else s
      | _ => s
    | none => s)

/-- AWAIT_TIMEOUT_RUNS_OUT (R87): an AWAIT whose sense is not at its level fails. -/
def execAwaitTimeoutRunsOut (s : State) (c : Chan := 0) (step : Fin 8 := 0) : Host.Outcome State Fault Refusal :=
  .next
    (match s.timedStep c step with
    | some r =>
      match s.stepOf r with
      | some (.await level _ _) =>
        if s.live && decide (s.pins.sense.get r.ch ≠ level) then (s.stepFails r).finish else s
      | _ => s
    | none => s)

/-- PRESENCE_TIMER_RUNS_OUT (R134): a PRESENCE becomes a candidate. -/
def execPresenceTimerRunsOut (s : State) : Host.Outcome State Fault Refusal :=
  .next
    (if s.operating && s.member.presenceTimer.isSome then
      ({ s with member.presenceTimer := none, member.presenceDue := true }).finish
    else s)

/-- The LISTEN window runs out: SYNCING with a request for all where a peer is PRESENT, else IN_STEP (R133). -/
def State.windowEnds (s : State) : State := if 1 ≤ s.presentPeers then s.enterSyncing .all else s.enterInStep

/-- LISTEN_WINDOW_RUNS_OUT (R133). -/
def execListenWindowRunsOut (s : State) : Host.Outcome State Fault Refusal :=
  .next
    (if s.operating && decide (s.member.state = .listen) && s.member.listenWindow.isSome then s.windowEnds.finish else s)

/-- The members of the awaited set whose rounds have not ended are SUSPECT (R143). -/
def State.suspectAwaited (s : State) : State :=
  s.mapPeers fun n x =>
    if x.owed = true ∧ n ∈ s.member.awaited.map (·.val) then { x with owed := false, suspect := true } else x

/-- Every PRESENT peer is SUSPECT (R143). -/
def State.suspectPresent (s : State) : State :=
  s.mapPeers fun _ x => if x.state = .present then { x with suspect := true } else x

/-- The sync timeout runs out (R143). -/
def State.syncEnds (s : State) : State :=
  if s.member.ownAccepted then s.suspectAwaited.enterInStep
  else ({ s.suspectPresent with member.ownRequest := none }).enterInStep

/-- SYNC_TIMEOUT_RUNS_OUT (R143). -/
def execSyncTimeoutRunsOut (s : State) : Host.Outcome State Fault Refusal :=
  .next
    (if s.operating && decide (s.member.state = .syncing) && s.member.syncTimeout.isSome then s.syncEnds.finish else s)

/-- A PRESENT peer has been silent for the absence time (R145). -/
def State.peerSilent (s : State) (a : Addr) : State :=
  s.modPeer a fun x =>
    { x with
      lastHeard := x.lastHeard.map fun t => max t (3 * s.presenceMs)
      absentPending := x.absentPending || s.member.state.joinedUp }

/-- ABSENCE_TIME_REACHED (R145). -/
def execAbsenceTimeReached (a : Addr) (s : State) : Host.Outcome State Fault Refusal :=
  .next
    (if s.operating && decide ((s.peer a).state = .present) && (s.peer a).lastHeard.isSome then (s.peerSilent a).finish
    else s)

/-- REQUEST_TIMER_RUNS_OUT (R136): with SUSPECT still set the request is owed again. -/
def execRequestTimerRunsOut (a : Addr) (s : State) : Host.Outcome State Fault Refusal :=
  .next
    (if s.operating && (s.peer a).requestTimer.isSome then
      (s.modPeer a fun x => { x with requestTimer := none }).finish
    else s)

/-- A channel's history after a sample: position 0 is bit 7, each position moves one place older (R123). -/
def shiftSample (old : BitVec 8) (on : Bool) : BitVec 8 := (old >>> 1) ||| (if on then 0x80#8 else 0#8)

/-- One sample of every channel that is not DISABLED (R123, R124). -/
def State.takeSamples (s : State) : State :=
  { s with
    retention.samples := s.retention.samples.mapChan fun c old =>
      if (s.chan c).state = .disabled then old else shiftSample old (decide ((s.chan c).state = .on))
    retention.fill := s.retention.fill.mapChan fun c n =>
      if (s.chan c).state = .disabled then n else min 8 (n + 1)
    history.sampleTimer := some (s.image.station.samplePeriod * 100) }

/-- SAMPLE_TIMER_RUNS_OUT (R123). -/
def execSampleTimerRunsOut (s : State) : Host.Outcome State Fault Refusal :=
  .next (if s.live && s.history.released && s.history.sampleTimer.isSome then s.takeSamples.finish else s)

end Sys2Proof.Machine
end

