-- ==== Sys2Proof/Machine/Dispatch.lean ====
section
/-! DEFINITION. The meaning of each command, one arm per row of spec/opcode_table.json. -/

namespace Sys2Proof.Machine

open Sys2Proof

def exec (i : Instr) (s : State) : Host.Outcome State Fault Refusal :=
  match i with
  | .claim rx p => Sys2Proof.Machine.execClaim rx p s
  | .renew rx p => Sys2Proof.Machine.execRenew rx p s
  | .settled rx p => Sys2Proof.Machine.execSettled rx p s
  | .abandoned rx p => Sys2Proof.Machine.execAbandoned rx p s
  | .expire rx p => Sys2Proof.Machine.execExpire rx p s
  | .stopped rx p => Sys2Proof.Machine.execStopped rx p s
  | .shedCall rx p => Sys2Proof.Machine.execShedCall rx p s
  | .hello rx p => Sys2Proof.Machine.execHello rx p s
  | .presence rx p => Sys2Proof.Machine.execPresence rx p s
  | .syncReq rx target => Sys2Proof.Machine.execSyncReq rx target s
  | .recount rx p => Sys2Proof.Machine.execRecount rx p s
  | .recountEnd rx number => Sys2Proof.Machine.execRecountEnd rx number s
  | .absent rx target => Sys2Proof.Machine.execAbsent rx target s
  | .inquire rx p => Sys2Proof.Machine.execInquire rx p s
  | .answer rx p => Sys2Proof.Machine.execAnswer rx p s
  | .toolFrameReject f => Sys2Proof.Machine.execToolFrameReject f s
  | .frameVoided raw => Sys2Proof.Machine.execFrameVoided raw s
  | .arbitrationLost => Sys2Proof.Machine.execArbitrationLost s
  | .addressClash => Sys2Proof.Machine.execAddressClash s
  | .frameIncomplete => Sys2Proof.Machine.execFrameIncomplete s
  | .frameBreak => Sys2Proof.Machine.execFrameBreak s
  | .busFree => Sys2Proof.Machine.execBusFree s
  | .holdRunsOutAtPeer owner ch => Sys2Proof.Machine.execHoldRunsOutAtPeer owner ch s
  | .holdRunsOutAtOwner ch => Sys2Proof.Machine.execHoldRunsOutAtOwner ch s
  | .renewalNeed ch => Sys2Proof.Machine.execRenewalNeed ch s
  | .reqLevelChange ch active => Sys2Proof.Machine.execReqLevelChange ch active s
  | .debounceTimerRunsOut ch => Sys2Proof.Machine.execDebounceTimerRunsOut ch s
  | .senseChange ch active => Sys2Proof.Machine.execSenseChange ch active s
  | .senseGraceRunsOut ch => Sys2Proof.Machine.execSenseGraceRunsOut ch s
  | .shedRestRunsOut ch => Sys2Proof.Machine.execShedRestRunsOut ch s
  | .inhPinChange active => Sys2Proof.Machine.execInhPinChange active s
  | .inhAsserted => Sys2Proof.Machine.execInhAsserted s
  | .inhReleased => Sys2Proof.Machine.execInhReleased s
  | .patienceTimerRunsOut ch => Sys2Proof.Machine.execPatienceTimerRunsOut ch s
  | .shedWaitRunsOut ch => Sys2Proof.Machine.execShedWaitRunsOut ch s
  | .dwellTimeRunsOut ch step => Sys2Proof.Machine.execDwellTimeRunsOut s ch step
  | .awaitTimeoutRunsOut ch step => Sys2Proof.Machine.execAwaitTimeoutRunsOut s ch step
  | .presenceTimerRunsOut => Sys2Proof.Machine.execPresenceTimerRunsOut s
  | .listenWindowRunsOut => Sys2Proof.Machine.execListenWindowRunsOut s
  | .syncTimeoutRunsOut => Sys2Proof.Machine.execSyncTimeoutRunsOut s
  | .absenceTimeReached peer => Sys2Proof.Machine.execAbsenceTimeReached peer s
  | .requestTimerRunsOut peer => Sys2Proof.Machine.execRequestTimerRunsOut peer s
  | .sampleTimerRunsOut => Sys2Proof.Machine.execSampleTimerRunsOut s
  | .powerFailWarning => Sys2Proof.Machine.execPowerFailWarning s
  | .vmainLost => Sys2Proof.Machine.execVmainLost s
  | .retentionLoss => Sys2Proof.Machine.execRetentionLoss s
  | .vmainRise => Sys2Proof.Machine.execVmainRise s
  | .rstnLow => Sys2Proof.Machine.execRstnLow s
  | .rstnRelease => Sys2Proof.Machine.execRstnRelease s
  | .start straps => Sys2Proof.Machine.execStart straps s
  | .imageHeaderRead tag len clocks => Sys2Proof.Machine.execImageHeaderRead tag len s clocks
  | .imageReadComplete rest => Sys2Proof.Machine.execImageReadComplete rest s
  | .imageAttemptFails how => Sys2Proof.Machine.execImageAttemptFails s how
  | .clockStretchTimeout clocks done bytes => Sys2Proof.Machine.execClockStretchTimeout s clocks done bytes
  | .attemptRetryWaitElapsed => Sys2Proof.Machine.execAttemptRetryWaitElapsed s

end Sys2Proof.Machine
end

