-- ==== Sys2Proof/Machine/Tick.lean ====
section
/-! DEFINITION. One millisecond passes: every running timer counts. That a timer reached its end is a command of its own. -/

namespace Sys2Proof.Machine

open Sys2Proof

/-- A timer that counts down, where it runs. -/
def countDown (t : Option Nat) : Option Nat := t.map fun n => n - 1

/-- A timer that counts up, where it runs. -/
def countUp (t : Option Nat) : Option Nat := t.map fun n => n + 1

/-- A Start Table entry one millisecond later (R16). -/
def StartEntry.tick (e : StartEntry) : StartEntry :=
  if e.holdRunning then { e with remaining := e.remaining - 1 } else e

/-- A queue entry one millisecond later (R40, R50). -/
def QueueEntry.tick (e : QueueEntry) : QueueEntry :=
  { e with patience := countDown e.patience, shedWait := countDown e.shedWait }

/-- A roster slot one millisecond later (R131, R136). -/
def RosterSlot.tick (x : RosterSlot) : RosterSlot :=
  { x with lastHeard := countUp x.lastHeard, requestTimer := countDown x.requestTimer }

/-- The timers of a channel one millisecond later (R44, R66, R79). -/
def Channel.tick (k : Channel) : Channel :=
  { k with
    debounceTimer := countDown k.debounceTimer, senseGrace := countDown k.senseGrace, shedRest := countDown k.shedRest }

/-- The running slot one millisecond later (R86, R87). -/
def RunSlot.tick (r : RunSlot) : RunSlot := { r with timeLeft := r.timeLeft - 1 }

/-- The wait before a new read attempt one millisecond later (R168). -/
def LoadPhase.tick : LoadPhase → LoadPhase
  | .retryWait n => .retryWait (n - 1)
  | .idle => .idle
  | .header => .header
  | .rest => .rest

/-- The timers that run in every running part that is not HALTED: tables, queue, membership, loader, indicators (R5, R16, R49, R132), and after
a recovery from the power-fail warning the start delay (R122). -/
def State.tickStation (s : State) : State :=
  { s with
    power.startDelay := countDown s.power.startDelay
    starts := s.starts.map StartEntry.tick
    queue.entries := s.queue.entries.map QueueEntry.tick
    member.roster := s.member.roster.map fun kv => (kv.1, kv.2.tick)
    member.listenWindow := countDown s.member.listenWindow
    member.presenceTimer := countDown s.member.presenceTimer
    member.syncTimeout := countDown s.member.syncTimeout
    loader.phase := s.loader.phase.tick
    indicators.elapsed := s.indicators.elapsed + 1 }

/-- The timers that stop at HALTED and at the power-fail warning: channels, INH, engine, sampling (R66, R82, R96, R121). -/
def State.tickLive (s : State) : State :=
  { s with
    channels := s.channels.map Channel.tick
    inh.timer := countDown s.inh.timer
    engine.running := s.engine.running.map RunSlot.tick
    history.sampleTimer := countDown s.history.sampleTimer }

/-- What counts in a HALTED station: no timer of its own, STAT's time and, after a recovery from the warning, the start
delay (R4, R49, R82, R96, R122, R124, R132, R180). -/
def State.tickHalted (s : State) : State :=
  { s with
    power.startDelay := countDown s.power.startDelay
    indicators.elapsed := s.indicators.elapsed + 1 }

/-- One millisecond passes. Held in reset only the start delay counts (R118). -/
def State.tick (s : State) : State :=
  match s.power.phase with
  | .unpowered => s
  | .inReset => { s with power.startDelay := countDown s.power.startDelay }
  | .running =>
    if s.live then s.tickStation.tickLive else if s.member.state = .halted then s.tickHalted else s.tickStation

end Sys2Proof.Machine
end

