-- ==== Sys2Proof/Safety.lean ====
section
/-! DEFINITION. What the statements speak of: when a frame is taken at this station, what one command may leave changed in
a channel, which commands belong to which kind, and the laws that every step keeps. -/

namespace Sys2Proof.Machine

open Sys2Proof

/-! ## Taking a frame -/

/-- The accepted frame is applied at this station (R4, R153-R155, R162): the station takes part in it, and it is the frame
the station was sending, or a peer's frame, or the tool's INQUIRE, while the station was sending none. -/
def State.takes (s : State) (rx : Rx) (f : Frame) : Bool :=
  s.takesPart
    && match s.bus.tx with
      | some t => decide (rx.sender = s.own) && decide (t.frame = f)
      | none =>
        decide (rx.sender ≠ s.own) && decide (rx.sender ≠ 0) && (decide (rx.sender ≠ toolAddr) || f.isInquire)

/-- The accepted frame is this station's own. -/
def State.takesOwn (s : State) (rx : Rx) (f : Frame) : Bool := s.takes rx f && s.bus.tx.isSome

/-- The accepted frame is another station's or the tool's. -/
def State.takesOther (s : State) (rx : Rx) (f : Frame) : Bool := s.takes rx f && s.bus.tx.isNone

/-- The own CLAIM on the bus is a withdrawn claim (R59). -/
def State.claimWithdrawn (s : State) : Bool :=
  match s.bus.tx with
  | some t => t.withdrawn
  | none => false

/-! ## What the end of a step may change in a channel -/

/-- Two records of a channel are the same but for a move between QUEUED and CLAIMING, which an evaluation of the queue's
head or the transmit selector may make (R51, R54, R55). -/
def sameButOffer (a b : Channel) : Prop :=
  a = b
    ∨ (a.state = .queued ∨ a.state = .claiming) ∧ (b.state = .queued ∨ b.state = .claiming)
      ∧ { a with state := .queued } = { b with state := .queued }

/-- A channel waits in the Claim Queue: QUEUED, or CLAIMING where the evaluation at the end of the step offered it. -/
def inQueue (st : ChanState) : Prop := st = .queued ∨ st = .claiming

/-- Everything of the station's own besides its queue, its membership, its bus and its fault list is the same. -/
def sameLocal (s t : State) : Prop :=
  t.pins = s.pins ∧ t.power = s.power ∧ t.retention = s.retention ∧ t.history = s.history ∧ t.inh = s.inh
    ∧ t.engine = s.engine ∧ t.loader = s.loader ∧ t.answer = s.answer ∧ t.pending = s.pending
    ∧ ∀ c, sameButOffer (t.chan c) (s.chan c)

/-- Both outputs of a channel are at off level. -/
def outsAreOff (k : Channel) : Prop := k.pre = false ∧ k.main = false

/-! ## Runs of steps and the shed order -/

/-- How a run of steps of a channel's recipe from step `i` ends in a state. -/
def runEnd (s : State) (c : Chan) (i : Nat) : StepsEnd :=
  (runSteps (s.pins.sense.get c) ((s.cfg c).recipe.drop i) i (s.chan c).pre (s.chan c).main).1

/-- The running slot that an end of a run leaves a channel's recipe in. -/
def StepsEnd.slot (c : Chan) : StepsEnd → Option RunSlot
  | .waits j left => some { ch := c, step := j, timeLeft := left }
  | .completes => none
  | .fails _ => none

/-- A recipe has failed at a step: its channel FAULTED, its outputs off, ABANDONED(RECIPE_FAILED) pending, FLT asserted. -/
def recipeFailed (t : State) (c : Chan) : Prop :=
  (t.chan c).state = .faulted ∧ (t.chan c).release = .abandoned .recipeFailed ∧ outsAreOff (t.chan c)
    ∧ (t.chan c).mark = false ∧ t.indicators.flt = true

/-- The newest record says that the recipe of a channel failed at a step. -/
def failureOnTop (t : State) (c : Chan) (step : Nat) : Prop :=
  ∃ r, t.faults.records.head? = some r ∧ r.kind = .recipeFailed ∧ r.ch = some c ∧ r.step = some step

/-- Where a run of steps from step `i` leaves the channel: waiting in a timed step, complete, or failed. -/
def ranChan (s t : State) (c : Chan) (i : Nat) : Prop :=
  match runSteps (s.pins.sense.get c) ((s.cfg c).recipe.drop i) i (s.chan c).pre (s.chan c).main with
  | (.waits _ _, pre, main) => (t.chan c).state = .starting ∧ (t.chan c).pre = pre ∧ (t.chan c).main = main
  | (.completes, pre, main) =>
    (t.chan c).state = .settling ∧ (t.chan c).release = .settled ∧ (t.chan c).pre = pre ∧ (t.chan c).main = main
  | (.fails j, _, _) => recipeFailed t c ∧ failureOnTop t c j

/-- Where a run of steps from step `i` leaves the channel and, with nothing else to take up, the running slot. -/
def ranTo (s t : State) (c : Chan) (i : Nat) : Prop := ranChan s t c i ∧ t.engine.running = (runEnd s c i).slot c

/-- The context record of a running channel suspended before a step, with the time left of that step where it was in
progress (Table 6.2). -/
def contextOf (s : State) (c : Chan) (next : Nat) (left : Option Nat) : Context :=
  { ch := c, next := next, partialTime := left, policy := (s.cfg c).suspendPolicy,
    snapshot :=
      if (s.cfg c).suspendPolicy = .park then some { pre := (s.chan c).pre, main := (s.chan c).main } else none }

/-- The running channel has been suspended: SUSPENDED with its record on top of the stack; its outputs are off under PARK and
stand under HOLD. -/
def suspended (s t : State) (c : Chan) (next : Nat) (left : Option Nat) : Prop :=
  (t.chan c).state = .suspended ∧ t.engine.stack = contextOf s c next left :: s.engine.stack
    ∧ ((s.cfg c).suspendPolicy = .park → outsAreOff (t.chan c))
    ∧ ((s.cfg c).suspendPolicy = .hold → (t.chan c).pre = (s.chan c).pre ∧ (t.chan c).main = (s.chan c).main)

/-- The state with a record's output levels restored, where it holds any. -/
def restored (s : State) (k : Context) : State :=
  match k.snapshot with
  | some lv => s.modChan k.ch fun x => { x with pre := lv.pre, main := lv.main }
  | none => s

/-- A record goes on waiting in its step with the time it had left, the records below it on the stack. -/
def waitsOn (s t : State) (k : Context) (left : Nat) (rest : List Context) : Prop :=
  t.engine.running = some { ch := k.ch, step := k.next, timeLeft := left } ∧ t.engine.stack = rest
    ∧ (t.chan k.ch).state = .starting ∧ (t.chan k.ch).pre = ((restored s k).chan k.ch).pre
    ∧ (t.chan k.ch).main = ((restored s k).chan k.ch).main

/-- The top record has been resumed: an interrupted DWELL waits out its time left; an interrupted AWAIT completes at once
where its sense stands at its level, and else waits; a time left of 0 has run out; a step not yet begun begins. What a
record whose steps are taken at once leaves is said for the last record of a stack. -/
def resumed (s t : State) (k : Context) (rest : List Context) : Prop :=
  match k.partialTime, (s.cfg k.ch).recipe[k.next]? with
  | some left, some (.dwell _ _) =>
    (left ≠ 0 → waitsOn s t k left rest) ∧ (left = 0 → rest = [] → ranTo (restored s k) t k.ch (k.next + 1))
  | some left, some (.await level _ _) =>
    (s.pins.sense.get k.ch = level → rest = [] → ranTo (restored s k) t k.ch (k.next + 1))
      ∧ (s.pins.sense.get k.ch ≠ level → left ≠ 0 → waitsOn s t k left rest)
      ∧ (s.pins.sense.get k.ch ≠ level → left = 0 → rest = [] →
        recipeFailed t k.ch ∧ failureOnTop t k.ch k.next ∧ t.engine.running = none)
  | _, _ => rest = [] → ranTo (restored s k) t k.ch k.next

/-- A freed engine has taken up the start in its PENDING slot, else its top record, else nothing (R111). -/
def engineFreed (s t : State) : Prop :=
  (s.engine.waiting = none → s.engine.stack = [] → t.engine.running = none)
    ∧ (∀ d, s.engine.waiting = some d → (runEnd s d 0).slot d ≠ none →
      ranChan s t d 0 ∧ t.engine.running = (runEnd s d 0).slot d ∧ t.engine.waiting = none
        ∧ t.engine.stack = s.engine.stack)
    ∧ (∀ d, s.engine.waiting = some d → s.engine.stack = [] → ranTo s t d 0 ∧ t.engine.waiting = none)
    ∧ ∀ k rest, s.engine.waiting = none → s.engine.stack = k :: rest → resumed s t k rest

/-- A channel's start has been taken from the engine: from the running slot, and the engine is freed; from the PENDING slot,
and the running recipe goes on; from the stack, and the other records keep their order and nothing else is touched. Its
renewal bookkeeping is cleared (R95, R108, R111, R113). -/
def startRemoved (s t : State) (c : Chan) : Prop :=
  (∀ r, s.engine.running = some r → r.ch = c → engineFreed s t)
    ∧ (s.engine.waiting = some c →
      t.engine.running = s.engine.running ∧ t.engine.waiting = none ∧ t.engine.stack = s.engine.stack)
    ∧ (c ∈ s.engine.stack.map (·.ch) →
      t.engine.running = s.engine.running ∧ t.engine.waiting = s.engine.waiting
        ∧ t.engine.stack = s.engine.stack.filter fun k => decide (k.ch ≠ c))
    ∧ (∀ r, s.engine.running = some r → r.ch ≠ c → t.chan r.ch = s.chan r.ch)
    ∧ t.engine.renewVoids.get c = 0 ∧ t.engine.exhausted.get c = false

/-- A state without its newest fault record. -/
def State.beforeRecord (s : State) : State := { s with faults.records := s.faults.records.tail }

/-- The step in progress has completed: the next steps are taken until one has time to wait, fails, or the last completes;
where a start waits in the PENDING slot and steps follow, the recipe is suspended at the boundary and the waiting start
begins; a recipe that completes or fails frees the engine. -/
def stepCompleted (s t : State) (r : RunSlot) : Prop :=
  (s.engine.waiting = none → s.engine.stack = [] → ranTo s t r.ch (r.step + 1))
    ∧ (s.engine.waiting = none → (runEnd s r.ch (r.step + 1)).slot r.ch ≠ none →
      ranTo s t r.ch (r.step + 1) ∧ t.engine.stack = s.engine.stack)
    ∧ (∀ d, s.engine.waiting = some d → r.step + 1 < (s.cfg r.ch).recipe.length →
      (runEnd s d 0).slot d ≠ none →
      ranChan s t d 0 ∧ t.engine.running = (runEnd s d 0).slot d ∧ t.engine.waiting = none
        ∧ suspended s t r.ch (r.step + 1) none)
    ∧ (∀ d, s.engine.waiting = some d → r.step + 1 = (s.cfg r.ch).recipe.length →
      (t.chan r.ch).state = .settling ∧ (t.chan r.ch).release = .settled ∧ engineFreed s t)
    ∧ (s.engine.waiting = none → runEnd s r.ch (r.step + 1) = .completes →
      (t.chan r.ch).state = .settling ∧ (t.chan r.ch).release = .settled ∧ engineFreed s t)
    ∧ (∀ j, runEnd s r.ch (r.step + 1) = .fails j → s.engine.waiting = none →
      recipeFailed t r.ch ∧ engineFreed s t)

/-- One candidate of a shed call stands before another: higher urgency value, then larger draw, then higher slot number,
which is higher station, then higher channel. -/
def shedsFirst (a b : Nat × DrawSlot) : Prop :=
  b.2.urgency < a.2.urgency
    ∨ a.2.urgency = b.2.urgency ∧ (b.2.draw < a.2.draw ∨ a.2.draw = b.2.draw ∧ b.1 < a.1)

/-- An attempt of the image read has failed: counted, and tried again after 10 ms, or at the third HALTED with a
CONFIG_BAD record and the outputs off (R168, R174). -/
def attemptFailed (s t : State) : Prop :=
  t.loader.attempts = s.loader.attempts + 1
    ∧ (s.loader.attempts < 2 →
      t.loader.phase = .retryWait 10 ∧ t.loader.bytes = [] ∧ t.member = s.member ∧ t.faults = s.faults)
    ∧ (2 ≤ s.loader.attempts →
      t.member.state = .halted ∧ t.loader.result = .haltedImage ∧ t.indicators.flt = true
        ∧ t.indicators.stat = .doubleFlash ∧ (∀ c, outsAreOff (t.chan c))
        ∧ ∃ r, t.faults.records.head? = some r ∧ r.kind = .configBad ∧ r.ch = none)

/-- The discord flag has been judged after a frame of a peer: it stands while a PRESENT slot holds another digest than the
station's own, and its rise has written a DISCORD_SEEN record naming the peer (R137). -/
def discordJudged (s t : State) (a : Addr) : Prop :=
  (t.member.discord = true ↔
      ∃ kv ∈ t.member.roster, kv.2.state = .present ∧ ∃ d, kv.2.digest = some d ∧ d ≠ s.digest)
    ∧ (s.member.discord = false → t.member.discord = true →
      ∃ r ∈ t.faults.records, r.kind = .discordSeen ∧ r.peer = some a ∧ r.number = s.faults.counter)

/-! ## ANSWER records (Table 12.5) -/

/-- The `w` bits of byte `i` of a record from bit `lo` up. -/
def recordField (r : List Byte) (i lo w : Nat) : Nat := field (byteAt r i) lo w

/-- Bytes `i` and `i + 1` of a record, the first the more significant. -/
def recordWord (r : List Byte) (i : Nat) : BitVec 16 := wordOf (byteAt r i) (byteAt r (i + 1))

/-- A STATION record; the counts are read where they lie in their ranges. -/
def stationSays (s : State) (r : List Byte) : Prop :=
  recordField r 0 5 3 = s.member.state.code.val ∧ recordField r 0 4 1 = bit s.member.discord ∧ recordField r 0 2 2 = 0
    ∧ recordField r 0 0 2 = s.history.startKind.code.val ∧ recordField r 1 0 8 = s.retention.outages.val
    ∧ (s.starts.length ≤ 32 → recordField r 2 0 8 = s.starts.length)
    ∧ (s.draws.length ≤ 120 → recordField r 3 0 8 = s.draws.length)
    ∧ (s.queue.entries.length ≤ 4 → s.engine.stack.length ≤ 3 →
      recordField r 4 4 4 = s.queue.entries.length ∧ recordField r 4 2 2 = 0
        ∧ recordField r 4 0 2 = s.engine.stack.length)

/-- A ROSTER record. -/
def rosterSays (x : RosterSlot) (r : List Byte) : Prop :=
  recordField r 0 6 2 = x.state.code ∧ recordField r 0 5 1 = bit x.suspect ∧ recordField r 0 4 1 = bit x.owed
    ∧ recordField r 0 3 1 = bit x.absentPending ∧ recordField r 0 2 1 = bit x.digest.isSome
    ∧ (∀ k, x.startKind = some k → recordField r 0 0 2 = k.code.val ∧ recordField r 3 0 8 = (x.outages.getD 0).val)
    ∧ (x.startKind = none → recordField r 0 0 2 = 3 ∧ recordField r 3 0 8 = 0)
    ∧ recordWord r 1 = x.digest.getD 0
    ∧ (∀ m, x.reported = some m → recordField r 4 5 3 = m.code.val) ∧ (x.reported = none → recordField r 4 5 3 = 7)
    ∧ recordField r 4 4 1 = bit x.repStarts.isSome ∧ recordField r 4 3 1 = 0
    ∧ recordField r 4 0 3 = (x.repDraws.getD 0).val
    ∧ (∀ n, x.repStarts = some n → recordField r 5 0 8 = n.val) ∧ (x.repStarts = none → recordField r 5 0 8 = 255)

/-- A START record; the hold remaining is read where it lies in its range. -/
def startSays (e : StartEntry) (r : List Byte) : Prop :=
  recordField r 0 3 5 = e.owner.val ∧ recordField r 0 2 1 = 0 ∧ recordField r 0 0 2 = e.ch.val ∧ byteAt r 1 = e.seq
    ∧ recordField r 2 5 3 = e.urgency.val ∧ recordField r 2 4 1 = bit e.sheddable
    ∧ recordField r 2 3 1 = bit e.expirePending ∧ recordField r 2 2 1 = bit e.unconfirmed
    ∧ recordField r 2 0 2 = e.renewals.val ∧ recordField r 3 2 6 = e.inrush.val ∧ recordField r 3 0 2 = 0
    ∧ recordField r 4 2 6 = e.draw.val ∧ recordField r 4 0 2 = 0 ∧ recordField r 5 0 8 = e.holdLimit.val
    ∧ (e.remaining ≤ e.limitMs → recordField r 6 0 8 = e.remaining / 20)

/-- A DRAW record; an empty slot gives four bytes of 0. -/
def drawSays (slot : Option DrawSlot) (r : List Byte) : Prop :=
  (slot = none → r = [0, 0, 0, 0])
    ∧ ∀ d, slot = some d →
      recordField r 0 7 1 = 1 ∧ recordField r 0 6 1 = bit d.shed.isSome ∧ recordField r 0 5 1 = bit d.unconfirmed
        ∧ recordField r 0 4 1 = bit d.sheddable ∧ recordField r 0 3 1 = 0 ∧ recordField r 0 0 3 = d.urgency.val
        ∧ recordField r 1 2 6 = d.draw.val ∧ recordField r 1 0 2 = 0 ∧ recordField r 2 5 3 = 0
        ∧ (∀ m, d.shed = some m → recordField r 2 0 5 = m.caller.val ∧ byteAt r 3 = m.callSeq)
        ∧ (d.shed = none → recordField r 2 0 5 = 0 ∧ byteAt r 3 = 0)

/-- A CHANNEL record: of a start in STARTING or SUSPENDED it gives the step index, of an entry of a QUEUED or CLAIMING
channel the queue fields, and 0 with the present bit clear in every other state (R184). -/
def channelSays (s : State) (c : Chan) (r : List Byte) : Prop :=
  let k := s.chan c
  let placed : Bool := decide (k.state = .starting ∨ k.state = .suspended)
  let waits : Bool := decide (k.state = .queued ∨ k.state = .claiming)
  recordField r 0 4 4 = k.state.code ∧ recordField r 0 3 1 = bit k.latch ∧ recordField r 0 2 1 = bit k.mark
    ∧ recordField r 0 1 1 = bit k.settleWithdrawn ∧ recordField r 0 0 1 = bit k.debounced
    ∧ recordField r 1 6 2 = k.release.kindCode ∧ recordField r 1 2 4 = k.release.reasonCode
    ∧ recordField r 1 1 1 = bit k.pre ∧ recordField r 1 0 1 = bit k.main ∧ byteAt r 2 = k.seq.getD 0
    ∧ ((∀ j, s.startStep c = some j → j ≤ 7) →
      recordField r 3 7 1 = bit k.seq.isSome ∧ recordField r 3 5 2 = k.renewals.val ∧ recordField r 3 3 1 = 0
        ∧ recordField r 3 4 1 = bit (placed && (s.startStep c).isSome)
        ∧ recordField r 3 0 3 = if placed then (s.startStep c).getD 0 else 0)
    ∧ (∀ e, waits = true → s.queueEntry c = some e →
      recordField r 4 7 1 = 1 ∧ recordField r 4 3 4 = 0 ∧ recordField r 4 0 3 = e.eff.val
        ∧ recordWord r 5 = BitVec.ofNat 16 e.stamp)
    ∧ (waits = false ∨ s.queueEntry c = none → byteAt r 4 = 0 ∧ recordWord r 5 = 0)

/-- A HISTORY record: position 0 in bit 7. -/
def historySays (s : State) (c : Chan) (r : List Byte) : Prop :=
  (∀ i ∈ List.range 8, flag (byteAt r 0) (7 - i) = (s.retention.samples.get c).getMsbD i)
    ∧ (s.retention.fill.get c ≤ 8 → recordField r 1 0 8 = s.retention.fill.get c)

/-- A FAULT record; absent fields are 0, and the start kind stands in START records. -/
def faultSays (f : FaultRecord) (r : List Byte) : Prop :=
  recordField r 0 4 4 = f.kind.code ∧ recordField r 0 3 1 = bit f.ch.isSome ∧ recordField r 0 2 1 = bit f.step.isSome
    ∧ recordField r 0 0 2 = (f.ch.getD 0).val
    ∧ ((∀ j, f.step = some j → j ≤ 7) →
      recordField r 1 5 3 = f.step.getD 0 ∧ recordField r 1 0 5 = (f.peer.getD 0).val)
    ∧ recordField r 2 2 6 = 0 ∧ (∀ k, f.startKind = some k → recordField r 2 0 2 = k.code.val)
    ∧ recordWord r 3 = f.number

/-- A LINK record: a counter of Table 9.6 at its index, the status at index 10. -/
def linkSays (b : Bus) (i : Nat) (r : List Byte) : Prop :=
  (∀ n, [b.counters.sent, b.counters.voided, b.counters.objections, b.counters.arbLosses, b.counters.unacked,
        b.counters.clashes, b.counters.refused, b.counters.toolReject, b.counters.overflows,
        b.counters.overruns][i]? = some n → recordWord r 0 = BitVec.ofNat 16 n)
    ∧ (i = 10 →
      recordField r 0 7 1 = bit b.degraded ∧ recordField r 0 0 7 = 0
        ∧ (b.unackRun ≤ 255 → recordField r 1 0 8 = b.unackRun))

/-- A record says what its selector and index name (Table 11.2, Table 12.5). -/
def recordSays (s : State) (selector i : Nat) (r : List Byte) : Prop :=
  (selector = 1 → stationSays s r)
    ∧ (selector = 2 → rosterSays (s.peer (Fin.ofNat 32 i)) r)
    ∧ (selector = 3 → ∀ e, s.starts[i]? = some e → startSays e r)
    ∧ (selector = 4 → drawSays (slotGet s.draws i) r)
    ∧ (selector = 5 → channelSays s (Fin.ofNat 4 i) r)
    ∧ (selector = 6 → historySays s (Fin.ofNat 4 i) r)
    ∧ (selector = 7 → ∀ f, s.faults.records[i]? = some f → faultSays f r)
    ∧ (selector = 8 → linkSays s.bus i r)

/-- The codes that ANSWER records carry (Tables 12.3 and 12.4). -/
def recordCodes : Prop :=
  [MState.loading, .halted, .listen, .syncing, .inStep, .isolated].map (·.code.val) = [0, 1, 2, 3, 4, 5]
    ∧ [StartKind.cold, .outage, .pin].map (·.code.val) = [0, 1, 2]
    ∧ [PeerState.unknown, .present, .absent].map (·.code) = [0, 1, 2]
    ∧ [ChanState.disabled, .idle, .queued, .claiming, .pending, .starting, .suspended, .settling, .on, .shed,
        .faulted].map (·.code) = [0, 1, 2, 3, 4, 5, 6, 7, 8, 9, 10]
    ∧ (∀ why, [Release.none, .settled, .abandoned why, .stopped why].map (·.kindCode) = [0, 1, 2, 3]
      ∧ [Release.none, .settled, .abandoned why, .stopped why].map (·.reasonCode) = [0, 0, why.code.val, why.code.val])
    ∧ [Reason.requestOff, .inhibit, .recipeFailed, .holdExceeded, .shed, .senseLost].map (·.code.val)
      = [1, 2, 3, 4, 5, 6]
    ∧ [FaultKind.start, .configBad, .addressClash, .recipeFailed, .senseLost, .holdExceeded, .claimExpired,
        .shedInsufficient, .discordSeen, .isolatedEntered, .absentSelf, .retryExhausted].map (·.code)
      = [1, 2, 3, 4, 5, 6, 7, 8, 9, 10, 11, 12]

/-! ## The order of the transmit selector -/

/-- The place among equal frame urgencies of the source that sends a frame (Table 9.5); no source sends an INQUIRE. -/
def framePlace : Frame → Nat
  | .settled _ | .abandoned _ | .stopped _ => 1
  | .expire _ => 2
  | .absent _ => 3
  | .shedCall _ => 4
  | .renew _ => 5
  | .recount _ | .recountEnd _ => 6
  | .syncReq _ => 7
  | .hello _ => 8
  | .presence _ => 9
  | .answer _ => 10
  | .claim _ => 11
  | .inquire _ => 12

/-- The place of a source among equal frame urgencies (Table 9.5). -/
def sourcePlace : Source → Nat
  | .release => 1
  | .expire => 2
  | .absent => 3
  | .shedCall => 4
  | .renewal => 5
  | .recount => 6
  | .syncReq => 7
  | .hello => 8
  | .presence => 9
  | .answer => 10
  | .claim _ => 11

/-! ## Kinds of commands -/

/-- The commands of supplies and reset and the start. -/
def resets : Instr → Bool
  | .powerFailWarning | .vmainLost | .retentionLoss | .vmainRise | .rstnLow | .rstnRelease | .start _ => true
  | .claim _ _ | .renew _ _ | .settled _ _ | .abandoned _ _ | .expire _ _ | .stopped _ _ | .shedCall _ _ | .hello _ _
  | .presence _ _ | .syncReq _ _ | .recount _ _ | .recountEnd _ _ | .absent _ _ | .inquire _ _ | .answer _ _
  | .toolFrameReject _ | .frameVoided _ | .arbitrationLost | .addressClash | .frameIncomplete | .frameBreak | .busFree
  | .holdRunsOutAtPeer _ _ | .holdRunsOutAtOwner _ | .renewalNeed _ | .reqLevelChange _ _ | .debounceTimerRunsOut _
  | .senseChange _ _ | .senseGraceRunsOut _ | .shedRestRunsOut _ | .inhPinChange _ | .inhAsserted | .inhReleased
  | .patienceTimerRunsOut _ | .shedWaitRunsOut _ | .dwellTimeRunsOut _ _ | .awaitTimeoutRunsOut _ _ | .presenceTimerRunsOut
  | .listenWindowRunsOut | .syncTimeoutRunsOut | .absenceTimeReached _ | .requestTimerRunsOut _ | .sampleTimerRunsOut
  | .imageHeaderRead _ _ _ | .imageReadComplete _ | .imageAttemptFails _ | .clockStretchTimeout _ _ _
  | .attemptRetryWaitElapsed => false

/-- The commands that are accepted frames. -/
def isFrame : Instr → Bool
  | .claim _ _ | .renew _ _ | .settled _ _ | .abandoned _ _ | .expire _ _ | .stopped _ _ | .shedCall _ _ | .hello _ _
  | .presence _ _ | .syncReq _ _ | .recount _ _ | .recountEnd _ _ | .absent _ _ | .inquire _ _ | .answer _ _
  | .toolFrameReject _ => true
  | .powerFailWarning | .vmainLost | .retentionLoss | .vmainRise | .rstnLow | .rstnRelease | .start _
  | .frameVoided _ | .arbitrationLost | .addressClash | .frameIncomplete | .frameBreak | .busFree
  | .holdRunsOutAtPeer _ _ | .holdRunsOutAtOwner _ | .renewalNeed _ | .reqLevelChange _ _ | .debounceTimerRunsOut _
  | .senseChange _ _ | .senseGraceRunsOut _ | .shedRestRunsOut _ | .inhPinChange _ | .inhAsserted | .inhReleased
  | .patienceTimerRunsOut _ | .shedWaitRunsOut _ | .dwellTimeRunsOut _ _ | .awaitTimeoutRunsOut _ _ | .presenceTimerRunsOut
  | .listenWindowRunsOut | .syncTimeoutRunsOut | .absenceTimeReached _ | .requestTimerRunsOut _ | .sampleTimerRunsOut
  | .imageHeaderRead _ _ _ | .imageReadComplete _ | .imageAttemptFails _ | .clockStretchTimeout _ _ _
  | .attemptRetryWaitElapsed => false

/-- A Start Table entry without its running hold timer and its expire-pending mark (R4). -/
def withoutHold (e : StartEntry) : StartEntry := { e with remaining := 0, holdRunning := false, expirePending := false }

/-- The frames that a membership state sends (Table 8.4). -/
def mayBegin (m : MState) (f : Frame) : Bool :=
  match m with
  | .loading => false
  | .halted => false
  | .listen =>
    match f with
    | .hello _ | .presence _ | .answer _ | .settled _ | .abandoned _ | .stopped _ => true
    | .claim _ | .renew _ | .expire _ | .shedCall _ | .syncReq _ | .recount _ | .recountEnd _ | .absent _
    | .inquire _ => false
  | .syncing =>
    match f with
    | .claim _ | .shedCall _ | .inquire _ => false
    | .hello _ | .presence _ | .answer _ | .settled _ | .abandoned _ | .stopped _ | .renew _ | .expire _ | .syncReq _
    | .recount _ | .recountEnd _ | .absent _ => true
  | .inStep =>
    match f with
    | .inquire _ => false
    | .claim _ | .shedCall _ | .hello _ | .presence _ | .answer _ | .settled _ | .abandoned _ | .stopped _ | .renew _
    | .expire _ | .syncReq _ | .recount _ | .recountEnd _ | .absent _ => true
  | .isolated =>
    match f with
    | .inquire _ => false
    | .claim _ | .shedCall _ | .hello _ | .presence _ | .answer _ | .settled _ | .abandoned _ | .stopped _ | .renew _
    | .expire _ | .syncReq _ | .recount _ | .recountEnd _ | .absent _ => true

/-! ## Laws that every step keeps -/

/-- The Start Table holds at most 32 entries, no two of one pair, and no hold remaining above its limit (R3, Table 1.3). -/
def StartTableLaw (s : State) : Prop :=
  s.starts.length ≤ 32 ∧ (s.starts.map fun e => (e.owner, e.ch)).Nodup ∧ ∀ e ∈ s.starts, e.remaining ≤ e.limitMs

/-- No pair has both a Start Table entry and a Draw Table entry (R3). -/
def TablesApart (s : State) : Prop := ∀ e ∈ s.starts, s.drawSlot e.owner e.ch = none

/-- The canonical form of the two tables that are held as lists: numbers rise strictly, and no roster slot is listed that
reads as at start. -/
def TablesCanonical (s : State) : Prop :=
  slotsRise s.draws = true ∧ slotsRise s.member.roster = true ∧ ∀ kv ∈ s.member.roster, kv.2 ≠ RosterSlot.atStart

/-- The fault list holds at most 8 records (R178). -/
def FaultListLaw (s : State) : Prop := s.faults.records.length ≤ 8

/-- A frame in the transmit slot is in progress on the line, which is not free and which the station does not receive; the
station runs in a state that applies frames (R160). -/
def TransmitLaw (s : State) : Prop :=
  s.bus.tx.isSome = true →
    s.operating = true ∧ s.bus.lineBusy = true ∧ s.bus.free = false ∧ s.bus.receiving = false

/-- No notice to the Claim Queue is left over (R6, R32, R51). -/
def NoticesTaken (s : State) : Prop := s.notice = false

/-- One queue entry stands before another: lower effective urgency, then a restore mark, then the older stamp (R47). -/
def waitsBefore (s : State) (a b : QueueEntry) : Prop :=
  a.eff < b.eff
    ∨ a.eff = b.eff
      ∧ ((s.chan a.ch).mark = true ∧ (s.chan b.ch).mark = false
        ∨ (s.chan a.ch).mark = (s.chan b.ch).mark ∧ a.stamp < b.stamp)

/-- The Claim Queue holds one entry for each channel in QUEUED or CLAIMING, and for no other, four at most (R46), in the
order of R47; the stamps are distinct, and the stamp counter stands above them within its range (R47). -/
def QueueLaw (s : State) : Prop :=
  (s.queue.entries.map (·.ch)).Nodup ∧ (∀ c, (s.queueEntry c).isSome = true ↔ inQueue (s.chan c).state)
    ∧ s.queue.entries.length ≤ 4 ∧ s.queue.entries.Pairwise (waitsBefore s)
    ∧ (s.queue.entries.map (·.stamp)).Nodup ∧ (∀ e ∈ s.queue.entries, e.stamp < s.queue.nextStamp)
    ∧ s.queue.nextStamp ≤ 65535

/-- The engine holds each channel in STARTING, PENDING and SUSPENDED in its running slot, its PENDING slot and its stack,
and no other (R90, R110). -/
def EngineLaw (s : State) : Prop :=
  (∀ c, (s.engine.running.map (·.ch) = some c ↔ (s.chan c).state = .starting)
    ∧ (s.engine.waiting = some c ↔ (s.chan c).state = .pending)
    ∧ (c ∈ s.engine.stack.map (·.ch) ↔ (s.chan c).state = .suspended))
    ∧ (s.engine.stack.map (·.ch)).Nodup

/-- The outputs are at off level in every state except STARTING, SUSPENDED, SETTLING and ON (R65). -/
def OutputLaw (s : State) : Prop :=
  ∀ c, (s.chan c).state = .starting ∨ (s.chan c).state = .suspended ∨ (s.chan c).state = .settling
    ∨ (s.chan c).state = .on ∨ outsAreOff (s.chan c)

/-- While the channels act, the channel of a CLAIM on the bus that is not withdrawn is CLAIMING and no start waits in the
PENDING slot (R54, R91); while the station is LOADING every channel record stands as at start: IDLE, latch off, marks
clear, timers stopped (R62). -/
def ClaimLaw (s : State) : Prop :=
  (s.member.state = .loading → ∀ c, s.chan c = Channel.atStart)
    ∧ (s.live = true → ∀ t p, s.bus.tx = some t → t.frame = .claim p → t.withdrawn = false →
      (s.chan p.ch).state = .claiming ∧ s.engine.waiting = none)

/-- The laws of channels, queue, engine, outputs and transmit slot, together. -/
def ChannelLaws (s : State) : Prop := QueueLaw s ∧ EngineLaw s ∧ OutputLaw s ∧ ClaimLaw s ∧ TransmitLaw s

/-- Sampling is held until the station has joined and no restore mark stands: not released while LOADING; while the channels
act, the count of marks is the number of marks set, and sampling is released exactly where the station has joined and the
count is 0, with the sample timer running (R126, R127, R128). -/
def HistoryLaw (s : State) : Prop :=
  (s.member.state = .loading → s.history.joined = false ∧ s.history.released = false)
    ∧ (s.live = true →
      s.history.marks = (allChans.filter fun c => (s.chan c).mark).length
        ∧ (s.history.released = true ↔ s.history.joined = true ∧ s.history.marks = 0)
        ∧ (s.history.released = true → s.history.sampleTimer.isSome = true))

/-- STAT is off while the part does not run and in the power-fail warning; in a running part outside the warning it shows
the row of Table 11.5 for its state (R180). -/
def StatLaw (s : State) : Prop :=
  (s.power.phase ≠ .running ∨ s.power.warning = true → s.indicators.stat = .off)
    ∧ (s.power.phase = .running → s.power.warning = false →
      (s.member.state = .loading → s.indicators.stat = .off)
        ∧ (s.member.state = .halted → s.indicators.stat = .doubleFlash)
        ∧ (s.member.state = .listen → s.member.discord = true → s.indicators.stat = .blink4)
        ∧ (s.member.state = .syncing → s.member.discord = true → s.indicators.stat = .blink4)
        ∧ (s.member.state = .inStep → s.member.discord = true → s.indicators.stat = .blink4)
        ∧ (s.member.state = .isolated → s.indicators.stat = .blink4)
        ∧ (s.member.state = .listen → s.member.discord = false → s.indicators.stat = .blink1)
        ∧ (s.member.state = .syncing → s.member.discord = false → s.indicators.stat = .blink1)
        ∧ (s.member.state = .inStep → s.member.discord = false → s.indicators.stat = .steady))

/-- In a running part outside the power-fail warning FLT is asserted exactly where a channel is FAULTED or the station is
HALTED; it is deasserted in reset, and after a recovery from the warning (R83; the last: log 30). -/
def FltLaw (s : State) : Prop :=
  (s.power.phase = .inReset → s.indicators.flt = false)
    ∧ (s.power.phase = .running → s.power.warning = true → s.power.vmain = .good → s.indicators.flt = false)
    ∧ (s.power.phase = .running → s.power.warning = false →
      (s.indicators.flt = true ↔ s.member.state = .halted ∨ ∃ c, (s.chan c).state = .faulted))

/-- STAT and FLT show what the state calls for. -/
def IndicatorLaw (s : State) : Prop := StatLaw s ∧ FltLaw s

/-- A running station that is not HALTED has a station address (R166). -/
def AddressLaw (s : State) : Prop :=
  s.power.phase = .running → s.member.state ≠ .halted → s.own ≠ 0 ∧ s.own ≠ toolAddr

end Sys2Proof.Machine
end

