-- ==== Sys2Proof/Certificates/Slice0/Obligations.lean ====
section
/-! DEFINITION. The statements for the provers. Each says what a command does to State, for every state and operands that
meet its hypotheses; the numbers of the rules stand in OBLIGATIONS.json. -/

open Sys2Proof Sys2Proof.Machine

/-! ## The queue of commands, the start -/

/-- A step takes the command at the front of the queue and runs it on the state with the queue's rest. -/
def Obligations.StepRunsTheFrontCommand : Prop :=
  ∀ (c : Instr) (rest : List Instr) (s : State),
    step { s with pending := c :: rest } = exec c { s with pending := rest }

/-- On an empty queue one millisecond passes (the model's choice, log 1). In a running part STAT's time and the start delay
count; while it is not HALTED, so do the running holds, the queue's, the roster's and the membership's timers and the
loader's retry wait; and while its channels act, the timers of channels, INH, engine and sampling. In LOADING, in the
power-fail warning and in HALTED these last stand, in HALTED all but STAT's time and the start delay. In reset the start
delay counts alone. Nothing else changes. -/
def Obligations.EmptyQueueLetsTimePass : Prop :=
  ∀ s : State, s.pending = [] →
    ∃ t, step s = .next t
      ∧ (s.power.phase = .running →
        t.power = { s.power with startDelay := s.power.startDelay.map fun n => n - 1 }
          ∧ t.indicators = { s.indicators with elapsed := s.indicators.elapsed + 1 }
          ∧ t.pins = s.pins ∧ t.retention = s.retention ∧ t.draws = s.draws ∧ t.bus = s.bus ∧ t.faults = s.faults
          ∧ t.answer = s.answer ∧ t.pending = s.pending ∧ t.notice = s.notice ∧ t.freeCount = s.freeCount
          ∧ (s.member.state ≠ .halted →
            t.starts = (s.starts.map fun e => if e.holdRunning then { e with remaining := e.remaining - 1 } else e)
              ∧ t.queue = { s.queue with
                entries := s.queue.entries.map fun e =>
                  { e with patience := e.patience.map (fun n => n - 1), shedWait := e.shedWait.map fun n => n - 1 } }
              ∧ t.member = { s.member with
                roster := s.member.roster.map fun kv =>
                  (kv.1, { kv.2 with
                    lastHeard := kv.2.lastHeard.map (fun n => n + 1)
                    requestTimer := kv.2.requestTimer.map fun n => n - 1 })
                listenWindow := s.member.listenWindow.map fun n => n - 1
                presenceTimer := s.member.presenceTimer.map fun n => n - 1
                syncTimeout := s.member.syncTimeout.map fun n => n - 1 }
              ∧ (∀ n, s.loader.phase = .retryWait n → t.loader = { s.loader with phase := .retryWait (n - 1) })
              ∧ ((∀ n, s.loader.phase ≠ .retryWait n) → t.loader = s.loader))
          ∧ (s.live = true →
            (∀ c, t.chan c = { s.chan c with
                debounceTimer := (s.chan c).debounceTimer.map (fun n => n - 1)
                senseGrace := (s.chan c).senseGrace.map (fun n => n - 1)
                shedRest := (s.chan c).shedRest.map fun n => n - 1 })
              ∧ t.inh = { s.inh with timer := s.inh.timer.map fun n => n - 1 }
              ∧ t.engine = { s.engine with
                running := s.engine.running.map fun r => { r with timeLeft := r.timeLeft - 1 } }
              ∧ t.history = { s.history with sampleTimer := s.history.sampleTimer.map fun n => n - 1 })
          ∧ (s.live = false →
            t.channels = s.channels ∧ t.inh = s.inh ∧ t.engine = s.engine ∧ t.history = s.history)
          ∧ (s.member.state = .halted →
            t.starts = s.starts ∧ t.queue = s.queue ∧ t.member = s.member ∧ t.loader = s.loader))
      ∧ (s.power.phase = .inReset → t = { s with power.startDelay := s.power.startDelay.map fun n => n - 1 })
      ∧ (s.power.phase = .unpowered → t = s)

/-- State.reset has the laws that every step keeps; and tables, queue, channels, engine, roster, bus, loader and indicators
are empty, clear and at off level in it. The pins, the supplies and the retention domain stand as logs 3 and 4 choose. -/
def Obligations.ResetIsEmptyAndHasTheLaws : Prop :=
  (StartTableLaw State.reset ∧ TablesApart State.reset ∧ TablesCanonical State.reset ∧ FaultListLaw State.reset
      ∧ NoticesTaken State.reset ∧ ChannelLaws State.reset ∧ AddressLaw State.reset ∧ HistoryLaw State.reset
      ∧ IndicatorLaw State.reset)
    ∧ (State.reset.starts = [] ∧ State.reset.draws = [] ∧ State.reset.queue = ClaimQueue.atStart
        ∧ (∀ c, State.reset.chan c = Channel.atStart) ∧ (∀ c, outsAreOff (State.reset.chan c))
        ∧ State.reset.engine = Engine.atStart ∧ State.reset.member.roster = [] ∧ State.reset.member.state = .loading
        ∧ State.reset.bus.tx = none ∧ State.reset.bus.counters = LinkCounters.atStart ∧ State.reset.bus.degraded = false
        ∧ State.reset.loader.image = none ∧ State.reset.loader.addr = none ∧ State.reset.loader.link = []
        ∧ State.reset.answer = none
        ∧ State.reset.indicators.flt = false ∧ State.reset.indicators.stat = .off
        ∧ State.reset.power.phase = .inReset ∧ State.reset.pending = [])

/-! ## Formats -/

/-- The payload a station sends for a frame reads back as the frame. -/
def Obligations.PayloadReadsBack : Prop :=
  ∀ f : Frame, f.wf = true → readPayload (frameKind f) (framePayload f) = some f

/-- A frame driven slot by slot at a bit rate, break and check included, is good at a receiver of that rate and reads back
as its sender and itself. -/
def Obligations.DrivenFrameReadsBack : Prop :=
  ∀ (code : Nat) (u : Urg) (a : Addr) (f : Frame), f.wf = true → a ≠ 0 →
    readFrame (slotTime code) (driveFrame (slotTime code) u a f) = some (a, f)

/-! ## Start Table frames -/

/-- A CLAIM is judged against the own copy as it stands: four checks in order, the first that fails gives the reason; an
admitted claim joins the table's tail with its hold running, a refused one changes neither table; and an admission keeps
both sums within their limits, the claim counted. -/
def Obligations.ClaimIsJudged : Prop :=
  ∀ (rx : Rx) (p : ClaimPayload) (s : State), s.takes rx (.claim p) = true → p.inrush ≠ 0 → p.hold ≠ 0 →
    let limit := if p.urgency = 0 then s.group.inrushBudget + s.group.criticalMargin else s.group.inrushBudget
    let duplicate := (s.pairEntry rx.sender p.ch).isSome = true ∨ (s.drawSlot rx.sender p.ch).isSome = true
    let v := s.admissionTest rx.sender p.ch p.urgency p.inrush.val p.draw.val
    (v = .duplicate ↔ duplicate)
      ∧ (v = .full ↔ ¬duplicate ∧ ¬s.starts.length < 32)
      ∧ (v = .inrush ↔ ¬duplicate ∧ s.starts.length < 32 ∧ ¬s.inrushSum + p.inrush.val ≤ limit)
      ∧ (v = .draw ↔ ¬duplicate ∧ s.starts.length < 32 ∧ s.inrushSum + p.inrush.val ≤ limit
        ∧ ¬s.steadySum + p.draw.val ≤ s.group.steadyBudget)
      ∧ ∃ t, exec (.claim rx p) s = .next t
        ∧ t.draws = s.draws
        ∧ (v ≠ .admitted → t.starts = s.starts)
        ∧ (v = .admitted →
          t.starts = s.starts ++
            [{ owner := rx.sender, ch := p.ch, seq := p.seq, urgency := p.urgency, sheddable := p.sheddable,
               inrush := p.inrush, draw := p.draw, holdLimit := p.hold, remaining := p.hold.val * 20,
               holdRunning := true, renewals := 0, expirePending := false, unconfirmed := false }]
          ∧ t.inrushSum ≤ limit ∧ t.steadySum ≤ s.group.steadyBudget)
        ∧ (s.takesOther rx (.claim p) = true → sameLocal s t)

/-- The own CLAIM judged: the claim counter rises; a refusal is counted, and its entry returns to QUEUED at its place, its
void count 0, its offered seq absent, the rest of it kept, offered again only where the same step evaluates the head; an
admission writes the channel's seq and clears its renewal count; a withdrawn claim admitted owes ABANDONED(REQUEST_OFF) and
starts nothing. A CLAIM with inrush 0 or hold
limit 0, own or not, reaches no judgement: tables, claim counter and claims-refused stay. -/
def Obligations.OwnClaimVerdict : Prop :=
  (∀ (rx : Rx) (p : ClaimPayload) (s : State), s.takesOwn rx (.claim p) = true → s.live = true → p.inrush ≠ 0 →
      p.hold ≠ 0 →
      let v := s.admissionTest rx.sender p.ch p.urgency p.inrush.val p.draw.val
      ∃ t, exec (.claim rx p) s = .next t
        ∧ t.queue.claimSeq = s.queue.claimSeq + 1
        ∧ (v ≠ .admitted → t.bus.counters.refused = satSucc 65535 s.bus.counters.refused)
        ∧ (v = .admitted → t.bus.counters.refused = s.bus.counters.refused ∧ (t.chan p.ch).seq = some p.seq
          ∧ (t.chan p.ch).renewals = 0)
        ∧ (v = .admitted → s.claimWithdrawn = true →
          (t.chan p.ch).release = .abandoned .requestOff ∧ t.engine = s.engine
            ∧ (t.chan p.ch).pre = (s.chan p.ch).pre ∧ (t.chan p.ch).main = (s.chan p.ch).main)
        ∧ (v ≠ .admitted → t.engine = s.engine)
        ∧ (v ≠ .admitted → s.claimWithdrawn = false → (s.chan p.ch).state = .claiming →
          ∀ c, sameButOffer (t.chan c) (s.chan c))
        ∧ (v ≠ .admitted → s.claimWithdrawn = false → ∀ e, s.queueEntry p.ch = some e →
          t.queue.entries.map (fun x => (x.ch, x.stamp)) = s.queue.entries.map (fun x => (x.ch, x.stamp))
            ∧ (∃ x ∈ t.queue.entries, x = { e with voids := 0, offered := none, shedWait := x.shedWait })
            ∧ (s.notice = false → rx.acked = true ∨ s.member.state ≠ .inStep ∨ s.bus.unackRun < 2 →
              (t.chan p.ch).state = .queued ∧ { e with voids := 0, offered := none } ∈ t.queue.entries)))
    ∧ (∀ (rx : Rx) (p : ClaimPayload) (s : State), s.takes rx (.claim p) = true → p.inrush = 0 ∨ p.hold = 0 →
        ∃ t, exec (.claim rx p) s = .next t ∧ t.starts = s.starts ∧ t.draws = s.draws
          ∧ t.queue.claimSeq = s.queue.claimSeq ∧ t.bus.counters.refused = s.bus.counters.refused
          ∧ (s.takesOther rx (.claim p) = true → sameLocal s t))

/-- An admitted own start begins at an idle engine and takes its steps until one has time to wait, fails, or the last
completes. One admitted while INH is asserted is placed and aborted at once: QUEUED again as a new entry, outputs off,
ABANDONED(INHIBIT) pending for the claim's seq, the engine idle and no record written. -/
def Obligations.AdmittedStartBegins : Prop :=
  (∀ (rx : Rx) (p : ClaimPayload) (s : State), s.takesOwn rx (.claim p) = true → s.live = true → p.inrush ≠ 0 →
    p.hold ≠ 0 → s.claimWithdrawn = false → s.inh.asserted = false →
    s.admissionTest rx.sender p.ch p.urgency p.inrush.val p.draw.val = .admitted →
    s.engine.running = none → s.engine.waiting = none → s.engine.stack = [] →
    ∃ t, exec (.claim rx p) s = .next t ∧ ranTo s t p.ch 0 ∧ t.engine.waiting = none ∧ t.engine.stack = [])
    ∧ ∀ (rx : Rx) (p : ClaimPayload) (s : State), s.takesOwn rx (.claim p) = true → s.live = true → p.inrush ≠ 0 →
      p.hold ≠ 0 → s.claimWithdrawn = false → s.inh.asserted = true →
      s.admissionTest rx.sender p.ch p.urgency p.inrush.val p.draw.val = .admitted →
      s.engine.running = none → s.engine.waiting = none → s.engine.stack = [] →
      (runEnd s p.ch 0).slot p.ch ≠ none →
      ∃ t, exec (.claim rx p) s = .next t
        ∧ (t.chan p.ch).state = .queued ∧ outsAreOff (t.chan p.ch) ∧ (t.chan p.ch).release = .abandoned .inhibit
        ∧ (t.chan p.ch).seq = some p.seq
        ∧ (∃ e ∈ t.queue.entries, e.ch = p.ch ∧ e.eff = (s.cfg p.ch).urgency ∧ e.voids = 0 ∧ e.offered = none)
        ∧ t.engine.running = none ∧ t.engine.waiting = none ∧ t.engine.stack = []
        ∧ ∀ r ∈ t.faults.records, r ∈ s.faults.records ∨ r.kind = .isolatedEntered

/-- An admitted own start that finds a recipe running preempts it at a yieldable step: the running recipe is suspended with
its context pushed and, under PARK, its outputs off, and the new start takes its steps; where these end at once, the recipe
is resumed with the time it had left and its outputs as they were. At a step that is not yieldable the new start waits in
the PENDING slot. -/
def Obligations.AdmittedStartPreempts : Prop :=
  ∀ (rx : Rx) (p : ClaimPayload) (s : State) (r : RunSlot) (st : Step), s.takesOwn rx (.claim p) = true →
    s.live = true → p.inrush ≠ 0 → p.hold ≠ 0 → s.claimWithdrawn = false → s.inh.asserted = false →
    s.admissionTest rx.sender p.ch p.urgency p.inrush.val p.draw.val = .admitted →
    s.engine.running = some r → r.ch ≠ p.ch → s.stepOf r = some st →
    ∃ t, exec (.claim rx p) s = .next t
      ∧ (stepYields st = true → (runEnd s p.ch 0).slot p.ch ≠ none →
        ranTo s t p.ch 0 ∧ t.engine.waiting = s.engine.waiting ∧ suspended s t r.ch r.step (some r.timeLeft))
      ∧ (stepYields st = true → (runEnd s p.ch 0).slot p.ch = none → s.engine.waiting = none → r.timeLeft ≠ 0 →
        (∀ level timeout y, st = .await level timeout y → s.pins.sense.get r.ch ≠ level) →
        ranChan s t p.ch 0 ∧ t.engine = { s.engine with
            renewVoids := s.engine.renewVoids.set p.ch 0, exhausted := s.engine.exhausted.set p.ch false }
          ∧ (t.chan r.ch).state = .starting ∧ (t.chan r.ch).pre = (s.chan r.ch).pre
          ∧ (t.chan r.ch).main = (s.chan r.ch).main)
      ∧ (stepYields st = false →
        t.engine.running = some r ∧ t.engine.waiting = some p.ch ∧ t.engine.stack = s.engine.stack
          ∧ (t.chan p.ch).state = .pending)

/-- A RENEW restarts the hold of the entry it names, in its place, where its count lies in 1-3 and is greater than the
entry's; any other count only clears the entry's unconfirmed mark; one that names no entry changes none. At the owner an
applied one gives the channel its count. A voided one changes no table. -/
def Obligations.RenewRestartsTheHold : Prop :=
  (∀ (rx : Rx) (p : RenewPayload) (s : State), s.takes rx (.renew p) = true →
    ∃ t, exec (.renew rx p) s = .next t
      ∧ t.starts = (s.starts.map fun e =>
        if e.owner = rx.sender ∧ e.ch = p.ch ∧ e.seq = p.seq then
          if 1 ≤ p.count.val ∧ p.count.val ≤ 3 ∧ e.renewals.val < p.count.val then
            { e with
              renewals := Fin.ofNat 4 p.count.val, remaining := e.holdLimit.val * 20, holdRunning := true,
              expirePending := false, unconfirmed := false }
          else { e with unconfirmed := false }
        else e)
      ∧ t.draws = s.draws
      ∧ (s.takesOther rx (.renew p) = true → sameLocal s t)
      ∧ (∀ c, sameButOffer { t.chan c with renewals := (s.chan c).renewals } (s.chan c))
      ∧ (∀ c, c ≠ p.ch → (t.chan c).renewals = (s.chan c).renewals)
      ∧ (s.takesOwn rx (.renew p) = true → s.live = true →
        t.engine.renewVoids.get p.ch = 0
          ∧ ((∃ e, s.namedEntry rx.sender p.ch p.seq = some e ∧ 1 ≤ p.count.val ∧ p.count.val ≤ 3
              ∧ e.renewals.val < p.count.val) →
            (t.chan p.ch).renewals = Fin.ofNat 4 p.count.val ∧ t.engine.exhausted.get p.ch = false)))
    ∧ ∀ (raw : RawFrame) (s : State) (x : TxFrame) (p : RenewPayload), s.takesPart = true → s.bus.tx = some x →
      x.frame = .renew p →
      ∃ t, exec (.frameVoided raw) s = .next t ∧ t.starts = s.starts ∧ t.draws = s.draws

/-- A SETTLED that names an entry moves it into the Draw Table slot of its pair; one that names none changes no table. The
own SETTLED accepted: a SETTLING channel enters ON with its outputs as they stand, and sense supervision begins; a
withdrawn settle owes STOPPED(REQUEST_OFF). -/
def Obligations.SettledMovesTheEntry : Prop :=
  (∀ (rx : Rx) (p : SettledPayload) (s : State), s.takes rx (.settled p) = true →
      ∃ t, exec (.settled rx p) s = .next t
        ∧ (∀ e, s.namedEntry rx.sender p.ch p.seq = some e →
          t.starts = s.starts.filter (fun x => !x.isNamed rx.sender p.ch p.seq)
            ∧ t.draws = slotPut s.draws (slotNo rx.sender p.ch)
              { urgency := e.urgency, sheddable := e.sheddable, draw := e.draw, shed := none, unconfirmed := false })
        ∧ (s.namedEntry rx.sender p.ch p.seq = none → t.starts = s.starts ∧ t.draws = s.draws)
        ∧ (s.takesOther rx (.settled p) = true → sameLocal s t))
    ∧ (∀ (rx : Rx) (p : SettledPayload) (s : State), s.takesOwn rx (.settled p) = true → s.live = true →
        ∃ t, exec (.settled rx p) s = .next t
          ∧ t.engine = s.engine ∧ (∀ c, c ≠ p.ch → sameButOffer (t.chan c) (s.chan c))
          ∧ ((s.chan p.ch).settleWithdrawn = false → (s.chan p.ch).state = .settling →
            (t.chan p.ch).state = .on ∧ (t.chan p.ch).release = .none ∧ (t.chan p.ch).mark = false
              ∧ (t.chan p.ch).pre = (s.chan p.ch).pre ∧ (t.chan p.ch).main = (s.chan p.ch).main
              ∧ ((s.cfg p.ch).senseRequired = true → s.pins.sense.get p.ch = false →
                (t.chan p.ch).senseGrace = some ((s.cfg p.ch).senseGrace * 10)))
          ∧ ((s.chan p.ch).settleWithdrawn = true →
            (t.chan p.ch).release = .stopped .requestOff ∧ (t.chan p.ch).settleWithdrawn = false
              ∧ sameButOffer { t.chan p.ch with release := (s.chan p.ch).release, settleWithdrawn := true } (s.chan p.ch)))

/-- An ABANDONED removes the entry it names; a STOPPED empties the slot of its pair, whatever its marks; the acceptance of
either clears the sender's pending release and leaves its channel's state as it is. -/
def Obligations.AbandonedAndStoppedReleaseThePair : Prop :=
  (∀ (rx : Rx) (p : AbandonedPayload) (s : State), s.takes rx (.abandoned p) = true →
      ∃ t, exec (.abandoned rx p) s = .next t
        ∧ t.starts = s.starts.filter (fun x => !x.isNamed rx.sender p.ch p.seq) ∧ t.draws = s.draws
        ∧ (s.takesOther rx (.abandoned p) = true → sameLocal s t)
        ∧ (s.takesOwn rx (.abandoned p) = true → s.live = true → (t.chan p.ch).release = .none
          ∧ t.engine = s.engine
            ∧ ∀ c, sameButOffer { t.chan c with release := (s.chan c).release } (s.chan c)
              ∧ (c ≠ p.ch → (t.chan c).release = (s.chan c).release)))
    ∧ (∀ (rx : Rx) (p : StoppedPayload) (s : State), s.takes rx (.stopped p) = true →
        ∃ t, exec (.stopped rx p) s = .next t
          ∧ t.draws = s.draws.filter (fun kv => kv.1 ≠ slotNo rx.sender p.ch) ∧ t.starts = s.starts
          ∧ (s.takesOther rx (.stopped p) = true → sameLocal s t)
          ∧ (s.takesOwn rx (.stopped p) = true → s.live = true → (t.chan p.ch).release = .none
            ∧ t.engine = s.engine
            ∧ ∀ c, sameButOffer { t.chan c with release := (s.chan c).release } (s.chan c)
              ∧ (c ≠ p.ch → (t.chan c).release = (s.chan c).release)))

/-- An EXPIRE removes the entry it names, whoever sent it; one that names no own entry changes no channel. -/
def Obligations.ExpireRemovesTheEntry : Prop :=
  ∀ (rx : Rx) (p : ExpirePayload) (s : State), s.takes rx (.expire p) = true →
    ∃ t, exec (.expire rx p) s = .next t
      ∧ t.starts = s.starts.filter (fun x => !x.isNamed p.owner p.ch p.seq) ∧ t.draws = s.draws
      ∧ (s.takesOther rx (.expire p) = true → p.owner ≠ s.own ∨ s.namedEntry p.owner p.ch p.seq = none →
        sameLocal s t)

/-- An EXPIRE of the own entry acts by the channel's state: a start in progress and a SETTLING channel are re-queued with
their outputs off, no release and a CLAIM_EXPIRED record naming the sender; a pending ABANDONED is cleared without one. The
start in progress is taken from the engine, which a running start frees. -/
def Obligations.ExpireOfTheOwnEntry : Prop :=
  ∀ (rx : Rx) (p : ExpirePayload) (s : State), s.takesOther rx (.expire p) = true → s.live = true → EngineLaw s →
    p.owner = s.own → (s.namedEntry p.owner p.ch p.seq).isSome = true → (s.chan p.ch).seq = some p.seq →
    ∃ t, exec (.expire rx p) s = .next t
      ∧ ((s.chan p.ch).state.inEngine = true →
        inQueue (t.chan p.ch).state ∧ outsAreOff (t.chan p.ch) ∧ (t.chan p.ch).release = .none
          ∧ ∃ r, t.faults.records.head? = some r ∧ r.kind = .claimExpired ∧ r.ch = some p.ch ∧ r.peer = some rx.sender
            ∧ r.step = s.startStep p.ch)
      ∧ ((s.chan p.ch).state.inEngine = true → startRemoved s t.beforeRecord p.ch)
      ∧ ((s.chan p.ch).state.inEngine = false → t.engine = s.engine)
      ∧ ((s.chan p.ch).state = .settling →
        inQueue (t.chan p.ch).state ∧ outsAreOff (t.chan p.ch) ∧ (t.chan p.ch).release = .none
          ∧ ∃ r, t.faults.records.head? = some r ∧ r.kind = .claimExpired ∧ r.ch = some p.ch ∧ r.peer = some rx.sender
            ∧ r.step = none)
      ∧ (∀ why, (s.chan p.ch).state = .idle ∨ (s.chan p.ch).state = .queued ∨ (s.chan p.ch).state = .faulted →
        (s.chan p.ch).release = .abandoned why →
        (t.chan p.ch).release = .none ∧ sameButOffer { t.chan p.ch with release := .abandoned why } (s.chan p.ch)
          ∧ ((s.peer rx.sender).state = .present → t.faults = s.faults))

/-! ## Draw Table frames -/

/-- The shed set: the candidates are taken whole from the front of the one order until their draw covers the shortfall, and
none where all together hold less. -/
def Obligations.ShedSetCoversTheShortfall : Prop :=
  ∀ (draws : List (Nat × DrawSlot)) (caller : Urg) (shortfall : Nat), slotsRise draws = true → 1 ≤ shortfall →
    let candidates := draws.filter fun kv =>
      kv.2.sheddable && kv.2.shed.isNone && decide (caller < kv.2.urgency) && decide (1 ≤ kv.2.draw.val)
    ((candidates.map (·.2.draw.val)).sum < shortfall → shedSet draws caller shortfall = [])
      ∧ (shortfall ≤ (candidates.map (·.2.draw.val)).sum →
        ∃ rest, (shedSet draws caller shortfall ++ rest).Perm candidates
          ∧ (shedSet draws caller shortfall ++ rest).Pairwise shedsFirst
          ∧ shortfall ≤ ((shedSet draws caller shortfall).map (·.2.draw.val)).sum
          ∧ ((shedSet draws caller shortfall).dropLast.map (·.2.draw.val)).sum < shortfall)

/-- A SHED_CALL marks the slots of the shed set with its caller and call seq; the owner's ON channels in it are shed:
outputs off, STOPPED(SHED) pending, shed rest running; every other channel goes on. One whose caller urgency is not 0 or
whose shortfall is 0 marks nothing and sheds nothing. -/
def Obligations.ShedCallMarksTheSet : Prop :=
  (∀ (rx : Rx) (p : ShedCallPayload) (s : State), s.takes rx (.shedCall p) = true → p.callerUrgency = 0 →
      p.shortfall ≠ 0 →
      let marked := (shedSet s.draws p.callerUrgency p.shortfall.val).map (·.1)
      ∃ t, exec (.shedCall rx p) s = .next t
        ∧ t.starts = s.starts
        ∧ t.draws = (s.draws.map fun kv =>
          (kv.1, if kv.1 ∈ marked then { kv.2 with shed := some { caller := rx.sender, callSeq := p.callSeq } } else kv.2))
        ∧ ∀ c, (s.live = true → slotNo s.own c ∈ marked → (s.chan c).state = .on →
            (t.chan c).state = .shed ∧ (t.chan c).release = .stopped .shed ∧ outsAreOff (t.chan c)
              ∧ (t.chan c).shedRest = some (s.image.station.shedRest * 1000) ∧ (t.chan c).senseGrace = none)
          ∧ (slotNo s.own c ∉ marked ∨ (s.chan c).state ≠ .on → sameButOffer (t.chan c) (s.chan c)))
    ∧ (∀ (rx : Rx) (p : ShedCallPayload) (s : State), s.takes rx (.shedCall p) = true →
        p.callerUrgency ≠ 0 ∨ p.shortfall = 0 →
        ∃ t, exec (.shedCall rx p) s = .next t ∧ t.starts = s.starts ∧ t.draws = s.draws
          ∧ ∀ c, sameButOffer (t.chan c) (s.chan c))

/-- At the caller an accepted SHED_CALL sets the shed-called flag of the entry it was built for and starts its shed wait of
2 presence intervals, unless the entry's claim is offered in the same step. -/
def Obligations.CallerWaitsForTheShed : Prop :=
  ∀ (rx : Rx) (p : ShedCallPayload) (s : State) (x : TxFrame) (c : Chan) (e : QueueEntry),
    s.takesOwn rx (.shedCall p) = true → p.callerUrgency = 0 → p.shortfall ≠ 0 → s.bus.tx = some x →
    x.shedFor = some c → e ∈ s.queue.entries → e.ch = c →
    ∃ t, exec (.shedCall rx p) s = .next t
      ∧ ∃ e' ∈ t.queue.entries, e'.ch = c ∧ e'.stamp = e.stamp ∧ e'.eff = e.eff ∧ e'.shedCalled = true
        ∧ (e'.shedWait = some (2 * s.presenceMs) ∨ (t.chan c).state = .claiming)

/-! ## Every accepted frame -/

/-- Every own frame accepted: counted as sent, LINK_DEGRADED cleared, the presence timer restarted and a waiting PRESENCE
dropped, the unacknowledged run cleared or raised, the transmit slot emptied. -/
def Obligations.EveryOwnFrameAccepted : Prop :=
  ∀ (rx : Rx) (f : Frame) (s : State), s.takesOwn rx f = true → s.own ≠ toolAddr →
    ∃ t, exec (commandOf rx f) s = .next t
      ∧ t.bus.tx = none ∧ t.bus.counters.sent = satSucc 65535 s.bus.counters.sent ∧ t.bus.degraded = false
      ∧ t.member.presenceTimer = some s.presenceMs ∧ t.member.presenceDue = false
      ∧ (rx.acked = true → t.bus.unackRun = 0 ∧ t.bus.counters.unacked = s.bus.counters.unacked)
      ∧ (rx.acked = false → t.bus.unackRun = satSucc 255 s.bus.unackRun
        ∧ t.bus.counters.unacked = satSucc 65535 s.bus.counters.unacked
        ∧ (s.member.state = .inStep → 2 ≤ s.bus.unackRun → t.member.state ≠ .inStep))

/-- Every frame of a peer accepted: its slot is PRESENT, its last-heard timer restarts and its absent-pending mark clears
(where the presence interval is not 0, as in every image that loads), whatever else the frame does; a first frame outside LISTEN and a rejoin make it SUSPECT (a RECOUNT_END of a round that is
owed judges the mark itself); an ISOLATED station enters SYNCING with a request for all. -/
def Obligations.EveryPeerFrameAccepted : Prop :=
  ∀ (rx : Rx) (f : Frame) (s : State), s.takesOther rx f = true → rx.sender ≠ toolAddr → f ≠ .absent rx.sender →
    ∃ t, exec (commandOf rx f) s = .next t
      ∧ (t.peer rx.sender).state = .present ∧ (t.peer rx.sender).lastHeard = some 0
      ∧ (s.presenceMs ≠ 0 → (t.peer rx.sender).absentPending = false)
      ∧ (isHello f = false → (∀ n, f ≠ .recountEnd n) ∨ (s.peer rx.sender).owed = false →
        (s.peer rx.sender).state ≠ .present →
        (s.peer rx.sender).state = .absent ∨ s.member.state ≠ .listen → (t.peer rx.sender).suspect = true)
      ∧ (s.member.state = .isolated → t.member.state = .syncing ∧ t.member.ownRequest = some .all)

/-! ## Membership frames -/

/-- A HELLO removes every entry and slot of its sender; a peer's makes its slot PRESENT with the digest, start kind and
outage count it carries, without doubt and with no round under way, the discord flag is judged again, and its rise writes a DISCORD_SEEN record
naming the peer; the own one is no candidate any more. That engine and
channels stay also where the own one removes an own entry is the model's reading (log 25). -/
def Obligations.HelloBeginsThePeerAfresh : Prop :=
  ∀ (rx : Rx) (p : HelloPayload) (s : State), s.takes rx (.hello p) = true →
    ∃ t, exec (.hello rx p) s = .next t
      ∧ t.engine = s.engine ∧ (∀ c, sameButOffer (t.chan c) (s.chan c))
      ∧ t.starts = s.starts.filter (fun e => decide (e.owner ≠ rx.sender))
      ∧ t.draws = s.draws.filter (fun kv => decide (kv.1 / 4 ≠ rx.sender.val))
      ∧ (s.takesOwn rx (.hello p) = true → t.member.helloDue = false)
      ∧ (s.takesOther rx (.hello p) = true →
        (t.peer rx.sender).state = .present ∧ (t.peer rx.sender).digest = some p.digest
          ∧ (t.peer rx.sender).startKind = startKindOf p.startKind ∧ (t.peer rx.sender).outages = some p.outages
          ∧ (t.peer rx.sender).suspect = false ∧ (t.peer rx.sender).owed = false ∧ (t.peer rx.sender).heard = 0
          ∧ (t.peer rx.sender).requestTimer = none ∧ discordJudged s t rx.sender)

/-- A peer's PRESENCE is recorded in its slot, a first or rejoining one too, and the counts of a PRESENT peer are compared
with the own copy; the discord flag stands while a PRESENT slot holds another digest, and its rise writes a DISCORD_SEEN
record naming the peer; tables and channels stay. -/
def Obligations.PresenceIsCompared : Prop :=
  ∀ (rx : Rx) (p : PresencePayload) (s : State), s.takesOther rx (.presence p) = true →
    ∃ t, exec (.presence rx p) s = .next t
      ∧ t.starts = s.starts ∧ t.draws = s.draws ∧ sameLocal s t
      ∧ (t.peer rx.sender).reported = reportedStateOf p.mstate ∧ (t.peer rx.sender).repStarts = some p.starts
      ∧ (t.peer rx.sender).repDraws = some p.draws ∧ (t.peer rx.sender).digest = some p.digest
      ∧ (t.peer rx.sender).state = .present
      ∧ ((s.peer rx.sender).state = .present →
        ((t.peer rx.sender).suspect = true ↔
          (s.peer rx.sender).suspect = true
            ∨ s.member.state ≠ .listen ∧ (s.peer rx.sender).owed = false
              ∧ ((s.starts.filter fun e => decide (e.owner = rx.sender)).length ≠ p.starts.val
                ∨ (s.draws.filter fun kv => decide (kv.1 / 4 = rx.sender.val)).length ≠ p.draws.val)))
      ∧ ((s.peer rx.sender).state ≠ .present →
        ((t.peer rx.sender).suspect = true ↔
          (s.peer rx.sender).suspect = true ∨ (s.peer rx.sender).state = .absent ∨ s.member.state ≠ .listen))
      ∧ discordJudged s t rx.sender

/-- A SYNC_REQ marks the entries and slots of the covered stations other than this one, sets recount-owed for the covered
PRESENT peers, satisfies the requests owed for covered SUSPECT peers (their request timer runs one presence interval), and
begins the own round afresh where this station is covered and has left LISTEN; target 31 covers nothing. The own request accepted in SYNCING: its awaited set is the PRESENT peers it covers, and the sync timeout
restarts. -/
def Obligations.SyncReqBeginsRounds : Prop :=
  (∀ (rx : Rx) (target : Addr) (s : State), s.takes rx (.syncReq target) = true →
      ∃ t, exec (.syncReq rx target) s = .next t
        ∧ t.engine = s.engine ∧ (∀ c, sameButOffer (t.chan c) (s.chan c))
        ∧ (target = toolAddr → t.starts = s.starts ∧ t.draws = s.draws ∧ t.member.round = s.member.round)
        ∧ (target ≠ toolAddr →
          t.starts = (s.starts.map fun e =>
              if (target = 0 ∨ target = e.owner) ∧ e.owner ≠ s.own then { e with unconfirmed := true } else e)
            ∧ t.draws = (s.draws.map fun kv =>
              (kv.1, if (target = 0 ∨ kv.1 / 4 = target.val) ∧ kv.1 / 4 ≠ s.own.val then
                { kv.2 with unconfirmed := true } else kv.2))
            ∧ (∀ a, (s.peer a).state = .present → target = 0 ∨ target = a →
              (t.peer a).owed = true ∧ (t.peer a).heard = 0)
            ∧ (∀ a, (s.peer a).suspect = true → target = 0 ∨ target = a →
              (t.peer a).requestTimer = some s.presenceMs ∧ (t.peer a).requestVoids = 0)
            ∧ (TablesCanonical s → ∀ a, a ≠ rx.sender → (s.peer a).suspect = false ∨ target ≠ 0 ∧ target ≠ a →
              (t.peer a).requestTimer = (s.peer a).requestTimer)
            ∧ (target = 0 ∨ target = s.own → s.member.state ≠ .listen →
              t.member.round = { active := true, next := 0, sent := 0 })))
    ∧ (∀ (rx : Rx) (target : Addr) (s : State), s.takesOwn rx (.syncReq target) = true → s.member.state = .syncing →
        target ≠ toolAddr → s.isOwnRequest target = true →
        ∃ t, exec (.syncReq rx target) s = .next t
          ∧ t.engine = s.engine ∧ (∀ c, sameButOffer (t.chan c) (s.chan c))
          ∧ t.member.state = .syncing ∧ t.member.ownRequest = none ∧ t.member.ownAccepted = true
          ∧ t.member.syncTimeout = some (2 * s.presenceMs)
          ∧ (target = 0 → t.member.awaited = s.presentAddrs) ∧ (target ≠ 0 → t.member.awaited = []))

/-- A RECOUNT of type START replaces the entry of its pair in place, with its hold limit kept, or creates one at the tail
and empties the pair's slot, or is dropped and counted at a full table; the own one moves the own round on. One whose hold
is 0 has run out at once: at a station that is not the owner the entry is marked expire-pending; at the owner it is not,
and the tracked start it belongs to is aborted with HOLD_EXCEEDED. One with inrush 0 changes no table (section 12.3, R183).
Each is counted as heard while a round is owed. -/
def Obligations.RecountOfAStart : Prop :=
  (∀ (rx : Rx) (p : RecountPayload) (s : State), s.takes rx (.recount p) = true → p.isDraw = false → p.inrush ≠ 0 →
      p.hold ≠ 0 →
      ∃ t, exec (.recount rx p) s = .next t
        ∧ t.engine = s.engine ∧ (∀ c, sameButOffer (t.chan c) (s.chan c))
        ∧ ((s.pairEntry rx.sender p.ch).isSome = true →
          t.draws = s.draws
            ∧ t.starts = (s.starts.map fun e =>
              if e.owner = rx.sender ∧ e.ch = p.ch then
                { e with
                  seq := p.seq, urgency := p.urgency, sheddable := p.sheddable, inrush := p.inrush, draw := p.draw,
                  renewals := p.renewals, remaining := min (p.hold.val * 20) (e.holdLimit.val * 20), holdRunning := true,
                  expirePending := false, unconfirmed := false }
              else e))
        ∧ (s.pairEntry rx.sender p.ch = none → s.starts.length < 32 →
          t.draws = s.draws.filter (fun kv => kv.1 ≠ slotNo rx.sender p.ch)
            ∧ t.starts = s.starts ++
              [{ owner := rx.sender, ch := p.ch, seq := p.seq, urgency := p.urgency, sheddable := p.sheddable,
                 inrush := p.inrush, draw := p.draw, holdLimit := 255, remaining := p.hold.val * 20,
                 holdRunning := true, renewals := p.renewals, expirePending := false, unconfirmed := false }])
        ∧ (s.pairEntry rx.sender p.ch = none → 32 ≤ s.starts.length →
          t.starts = s.starts ∧ t.draws = s.draws
            ∧ t.bus.counters.overflows = satSucc 65535 s.bus.counters.overflows)
        ∧ (s.takesOwn rx (.recount p) = true →
          t.member.round.next = p.ch.val + 1 ∧ t.member.round.sent = s.member.round.sent + 1))
    ∧ (∀ (rx : Rx) (p : RecountPayload) (s : State), s.takesOther rx (.recount p) = true → p.isDraw = false →
        ∃ t, exec (.recount rx p) s = .next t
          ∧ t.engine = s.engine ∧ (∀ c, sameButOffer (t.chan c) (s.chan c))
          ∧ (p.inrush = 0 → t.starts = s.starts ∧ t.draws = s.draws)
          ∧ (p.inrush ≠ 0 → p.hold = 0 → (s.pairEntry rx.sender p.ch).isSome = true ∨ s.starts.length < 32 →
            ∃ e ∈ t.starts, e.owner = rx.sender ∧ e.ch = p.ch ∧ e.seq = p.seq ∧ e.remaining = 0 ∧ e.holdRunning = false
              ∧ e.expirePending = true)
          ∧ ((s.peer rx.sender).owed = true → (s.peer rx.sender).heard.val < 255 →
            (t.peer rx.sender).heard.val = (s.peer rx.sender).heard.val + 1))
    ∧ ∀ (rx : Rx) (p : RecountPayload) (s : State), s.takesOwn rx (.recount p) = true → p.isDraw = false →
        p.inrush ≠ 0 → p.hold = 0 → (s.pairEntry rx.sender p.ch).isSome = true ∨ s.starts.length < 32 →
        ∃ t, exec (.recount rx p) s = .next t
          ∧ (∃ e ∈ t.starts, e.owner = rx.sender ∧ e.ch = p.ch ∧ e.seq = p.seq ∧ e.remaining = 0 ∧ e.holdRunning = false
            ∧ e.expirePending = false)
          ∧ t.member.round.next = p.ch.val + 1 ∧ t.member.round.sent = s.member.round.sent + 1
          ∧ (s.live = true → EngineLaw s → s.tracked p.ch = true → (s.chan p.ch).seq = some p.seq →
            (t.chan p.ch).state = .queued ∧ outsAreOff (t.chan p.ch)
              ∧ (t.chan p.ch).release = .abandoned .holdExceeded ∧ startRemoved s t.beforeRecord p.ch
              ∧ ∃ r, t.faults.records.head? = some r ∧ r.kind = .holdExceeded ∧ r.ch = some p.ch
                ∧ r.step = s.startStep p.ch)
          ∧ (s.live = false ∨ s.tracked p.ch = false ∨ (s.chan p.ch).seq ≠ some p.seq →
            t.engine = s.engine ∧ ∀ c, sameButOffer (t.chan c) (s.chan c))

/-- A RECOUNT of type DRAW removes the Start Table entry of its pair and fills or replaces the slot, its marks clear; it is
counted as heard while a round is owed, and the own one moves the own round on. That
engine and channels stay also where the own one removes an own entry is the model's reading (log 25). -/
def Obligations.RecountOfADraw : Prop :=
  ∀ (rx : Rx) (p : RecountPayload) (s : State), s.takes rx (.recount p) = true → p.isDraw = true →
    ∃ t, exec (.recount rx p) s = .next t
      ∧ t.engine = s.engine ∧ (∀ c, sameButOffer (t.chan c) (s.chan c))
      ∧ t.starts = s.starts.filter (fun e => !e.isPair rx.sender p.ch)
      ∧ t.draws = slotPut s.draws (slotNo rx.sender p.ch)
        { urgency := p.urgency, sheddable := p.sheddable, draw := p.draw, shed := none, unconfirmed := false }
      ∧ (s.takesOther rx (.recount p) = true → (s.peer rx.sender).owed = true → (s.peer rx.sender).heard.val < 255 →
        (t.peer rx.sender).heard.val = (s.peer rx.sender).heard.val + 1)
      ∧ (s.takesOwn rx (.recount p) = true →
        t.member.round.next = p.ch.val + 1 ∧ t.member.round.sent = s.member.round.sent + 1)

/-- A RECOUNT_END removes what its sender's round did not confirm; where a round was owed, the number sent is compared with
the recounts heard; the own one ends the own round; the last round awaited ends SYNCING. -/
def Obligations.RecountEndClosesTheRound : Prop :=
  ∀ (rx : Rx) (n : Fin 8) (s : State), s.takes rx (.recountEnd n) = true →
    ∃ t, exec (.recountEnd rx n) s = .next t
      ∧ t.engine = s.engine ∧ (∀ c, sameButOffer (t.chan c) (s.chan c))
      ∧ t.starts = s.starts.filter (fun e => !(decide (e.owner = rx.sender) && e.unconfirmed))
      ∧ t.draws = s.draws.filter (fun kv => !(decide (kv.1 / 4 = rx.sender.val) && kv.2.unconfirmed))
      ∧ (s.takesOther rx (.recountEnd n) = true → (s.peer rx.sender).owed = true →
        (t.peer rx.sender).owed = false
          ∧ ((t.peer rx.sender).suspect = true ↔ n.val ≠ (s.peer rx.sender).heard.val))
      ∧ (s.takesOwn rx (.recountEnd n) = true → t.member.round.active = false)
      ∧ (s.takesOther rx (.recountEnd n) = true → s.member.state = .syncing → s.member.ownAccepted = true →
        s.member.round.active = false →
        (∀ a ∈ s.member.awaited, a ≠ rx.sender → (s.peer a).owed = false ∨ (s.peer a).state ≠ .present) →
        (s.peer rx.sender).owed = true →
        t.member.state = .inStep ∨ t.member.state = .isolated)

/-- An ABSENT naming a peer removes its entries and slots, unless its slot is ABSENT already, and leaves its slot ABSENT. -/
def Obligations.AbsentPeerIsRemoved : Prop :=
  ∀ (rx : Rx) (target : Addr) (s : State), s.takes rx (.absent target) = true →
    ∃ t, exec (.absent rx target) s = .next t
      ∧ (target ≠ s.own → t.engine = s.engine ∧ ∀ c, sameButOffer (t.chan c) (s.chan c))
      ∧ (target = 0 ∨ target = toolAddr → t.starts = s.starts ∧ t.draws = s.draws)
      ∧ (target ≠ 0 → target ≠ toolAddr → target ≠ s.own →
        (t.peer target).state = .absent
          ∧ ((s.peer target).state ≠ .absent →
            t.starts = s.starts.filter (fun e => decide (e.owner ≠ target))
              ∧ t.draws = s.draws.filter (fun kv => decide (kv.1 / 4 ≠ target.val))
              ∧ (t.peer target).suspect = false ∧ (t.peer target).owed = false ∧ (t.peer target).digest = none
              ∧ (t.peer target).lastHeard = none))

/-- An ABSENT naming this station: its entries leave its copy, its starts in progress are aborted to QUEUED without a
release and the engine is empty, an ABSENT_SELF record names the sender, and outside LISTEN it enters SYNCING. -/
def Obligations.AbsentSelfRequeuesTheStarts : Prop :=
  ∀ (rx : Rx) (s : State), s.takesOther rx (.absent s.own) = true → s.own ≠ 0 → s.own ≠ toolAddr →
    ∃ t, exec (.absent rx s.own) s = .next t
      ∧ t.starts = s.starts.filter (fun e => decide (e.owner ≠ s.own))
      ∧ t.draws = s.draws.filter (fun kv => decide (kv.1 / 4 ≠ s.own.val))
      ∧ (∃ r, t.faults.records.head? = some r ∧ r.kind = .absentSelf ∧ r.peer = some rx.sender)
      ∧ (s.member.state ≠ .listen → t.member.state = .syncing ∧ t.member.ownRequest.isSome = true)
      ∧ (s.member.state = .listen → t.member.state = .listen)
      ∧ (s.live = true → ∀ c, (s.chan c).state.inEngine = true →
        (t.chan c).state = .queued ∧ outsAreOff (t.chan c) ∧ (t.chan c).release = (s.chan c).release
          ∧ t.engine.running = none ∧ t.engine.waiting = none ∧ t.engine.stack = [])
      ∧ ∀ c, (s.chan c).state.inEngine = false → sameButOffer (t.chan c) (s.chan c)

/-! ## Inquiry -/

/-- An INQUIRE that names this station sets the pending answer with void count 0, and counts an overrun where one was
held; any other changes nothing here. An ANSWER leaves its sender without a pending answer (in the power-fail warning
too: the model's choice, log 37) and changes nothing at any other station but the sender's roster slot; a frame of
another kind than INQUIRE from the tool is counted and applied nowhere. -/
def Obligations.InquiryFrames : Prop :=
  (∀ (rx : Rx) (p : InquirePayload) (s : State), s.takes rx (.inquire p) = true →
      ∃ t, exec (.inquire rx p) s = .next t
        ∧ t.starts = s.starts ∧ t.draws = s.draws ∧ (∀ c, sameButOffer (t.chan c) (s.chan c))
        ∧ (p.target = s.own → t.answer = some { selector := p.selector, index := p.index, voids := 0 })
        ∧ (p.target ≠ s.own → t.answer = s.answer)
        ∧ t.bus.counters.overruns
          = (if p.target = s.own ∧ s.answer.isSome = true then satSucc 65535 s.bus.counters.overruns
            else s.bus.counters.overruns))
    ∧ (∀ (rx : Rx) (p : AnswerPayload) (s : State), s.takes rx (.answer p) = true →
    ∃ t, exec (.answer rx p) s = .next t ∧ t.starts = s.starts ∧ t.draws = s.draws
      ∧ (s.takesOwn rx (.answer p) = true → t.answer = none)
      ∧ (s.takesOther rx (.answer p) = true → sameLocal s t))
    ∧ ∀ (f : Frame) (s : State), f.isInquire = false → s.takesPart = true → s.bus.tx = none → s.own ≠ toolAddr →
      ∃ t, exec (.toolFrameReject f) s = .next t ∧ t.starts = s.starts ∧ t.draws = s.draws ∧ t.member = s.member
        ∧ sameLocal s t ∧ t.bus.counters = { s.bus.counters with toolReject := satSucc 65535 s.bus.counters.toolReject }

/-- The ANSWER built from a pending answer: OK with a record of the length the selector gives, holding bit by bit what
Table 12.5 says of the state, exactly where the index names one, NO_RECORD without a record otherwise. The codes in it are
those of Tables 12.3 and 12.4. -/
def Obligations.AnswerNamesARecordOrNone : Prop :=
  recordCodes ∧ ∀ (s : State) (p : PendingAnswer),
    let a := answerFrame s p
    let i := p.index.val
    let names : Prop :=
      p.selector = 1 ∧ i = 0
        ∨ p.selector = 2 ∧ 1 ≤ i ∧ i ≤ 30 ∧ i ≠ s.own.val
        ∨ p.selector = 3 ∧ i < s.starts.length
        ∨ p.selector = 4 ∧ 4 ≤ i ∧ i ≤ 123
        ∨ p.selector = 5 ∧ i ≤ 3
        ∨ p.selector = 6 ∧ i ≤ 3
        ∨ p.selector = 7 ∧ i < s.faults.records.length
        ∨ p.selector = 8 ∧ i ≤ 10
    a.selector = p.selector ∧ a.index = p.index
      ∧ (names → a.status = 0 ∧ recordSays s p.selector.val i a.record
        ∧ a.record.length
          = (if p.selector = 1 then 5 else if p.selector = 2 then 6 else if p.selector = 3 then 7
            else if p.selector = 4 then 4 else if p.selector = 5 then 7 else if p.selector = 6 then 2
            else if p.selector = 7 then 5 else 2))
      ∧ (¬names → a.status = 1 ∧ a.record = [])

/-! ## The bus -/

/-- A voided own frame: counted as sent and voided, the slot emptied, no table changed; a release's void count rises, and
at 8 LINK_DEGRADED is set, and a settle taken back owes ABANDONED(REQUEST_OFF); a RENEW's eighth void exhausts the
renewal (also where its start has left the engine: the model's choice, log 32), a SHED_CALL's ends the outstanding call,
a SYNC_REQ's drops the request, a HELLO's drops it, each with a RETRY_EXHAUSTED record; a PRESENCE waits for its timer
again; an ANSWER is dropped at the second (in the power-fail warning too: the model's choice, log 37). A void frame of
another station counts an objection exactly where it was faulty or incomplete here; an incomplete one leads to SYNCING
with a request for all outside LISTEN. -/
def Obligations.VoidedFrames : Prop :=
  ∀ (raw : RawFrame) (s : State), s.takesPart = true →
    ∃ t, exec (.frameVoided raw) s = .next t
      ∧ t.starts = s.starts ∧ t.draws = s.draws ∧ t.bus.tx = none
      ∧ (s.bus.tx = none →
        t.bus.counters
            = (if frameIncomplete (slotTime s.group.bitRate) raw = true
                ∨ readFrame (slotTime s.group.bitRate) raw = none then
                { s.bus.counters with objections := satSucc 65535 s.bus.counters.objections } else s.bus.counters)
          ∧ sameLocal s t
          ∧ (frameIncomplete (slotTime s.group.bitRate) raw = false ∨ s.member.state = .listen → t.member = s.member)
          ∧ (frameIncomplete (slotTime s.group.bitRate) raw = true → s.member.state ≠ .listen →
            t.member.state = .syncing ∧ t.member.ownRequest = some .all ∧ t.member.ownAccepted = false
              ∧ t.member.syncTimeout = some (2 * s.presenceMs)))
      ∧ (∀ x, s.bus.tx = some x →
        t.bus.counters.sent = satSucc 65535 s.bus.counters.sent
          ∧ t.bus.counters.voided = satSucc 65535 s.bus.counters.voided
          ∧ (∀ p, x.frame = .abandoned p →
            t.bus.releaseVoids.get p.ch = satSucc 255 (s.bus.releaseVoids.get p.ch)
              ∧ (7 ≤ s.bus.releaseVoids.get p.ch → t.bus.degraded = true)
              ∧ (t.chan p.ch).release = (s.chan p.ch).release)
          ∧ (∀ p, x.frame = .stopped p →
            t.bus.releaseVoids.get p.ch = satSucc 255 (s.bus.releaseVoids.get p.ch)
              ∧ (7 ≤ s.bus.releaseVoids.get p.ch → t.bus.degraded = true)
              ∧ (t.chan p.ch).release = (s.chan p.ch).release)
          ∧ (∀ p, x.frame = .settled p →
            (7 ≤ s.bus.releaseVoids.get p.ch → t.bus.degraded = true)
              ∧ (s.live = true → (s.chan p.ch).settleWithdrawn = true →
                (t.chan p.ch).release = .abandoned .requestOff ∧ (t.chan p.ch).settleWithdrawn = false
                  ∧ (t.chan p.ch).seq = (s.chan p.ch).seq)
              ∧ (s.live = false ∨ (s.chan p.ch).settleWithdrawn = false →
                t.bus.releaseVoids.get p.ch = satSucc 255 (s.bus.releaseVoids.get p.ch)
                  ∧ (t.chan p.ch).release = (s.chan p.ch).release))
          ∧ (∀ p, x.frame = .renew p → s.live = true →
            (s.engine.renewVoids.get p.ch < 7 → t.engine.renewVoids.get p.ch = s.engine.renewVoids.get p.ch + 1)
              ∧ (s.engine.renewVoids.get p.ch = 7 → t.engine.exhausted.get p.ch = true
                ∧ ∃ r, t.faults.records.head? = some r ∧ r.kind = .retryExhausted ∧ r.ch = some p.ch))
          ∧ (∀ p k, x.frame = .shedCall p → s.queue.shedCall = some k → k.callSeq = p.callSeq → s.notice = false →
            t.queue.entries = s.queue.entries
              ∧ (k.voids < 7 → t.queue.shedCall = some { k with voids := k.voids + 1 } ∧ t.faults = s.faults)
              ∧ (7 ≤ k.voids → t.queue.shedCall = none
                ∧ ∃ r, t.faults.records.head? = some r ∧ r.kind = .retryExhausted ∧ r.ch = some k.ch))
          ∧ (∀ a, x.frame = .syncReq a → s.isOwnRequest a = true →
            t.member.state = s.member.state ∧ t.member.ownVoids = s.member.ownVoids + 1
              ∧ (s.member.ownVoids < 7 → t.member.ownRequest = s.member.ownRequest ∧ t.faults = s.faults)
              ∧ (7 ≤ s.member.ownVoids → t.member.ownRequest = none
                ∧ ∃ r, t.faults.records.head? = some r ∧ r.kind = .retryExhausted ∧ r.ch = none ∧ r.peer = none))
          ∧ (∀ a, x.frame = .syncReq a → s.isOwnRequest a = false → (s.peer a).requestOwed = true →
            (t.peer a).suspect = true ∧ t.member.ownRequest = s.member.ownRequest
              ∧ ((s.peer a).requestVoids < 7 →
                (t.peer a).requestVoids = (s.peer a).requestVoids + 1 ∧ t.faults = s.faults)
              ∧ (7 ≤ (s.peer a).requestVoids →
                (t.peer a).requestVoids = 0 ∧ (t.peer a).requestTimer = some s.presenceMs
                  ∧ ∃ r, t.faults.records.head? = some r ∧ r.kind = .retryExhausted ∧ r.peer = some a))
          ∧ (∀ p, x.frame = .hello p →
            t.member.helloVoids = s.member.helloVoids + 1
              ∧ (s.member.helloVoids < 7 → t.member.helloDue = s.member.helloDue ∧ t.faults = s.faults)
              ∧ (7 ≤ s.member.helloVoids → t.member.helloDue = false
                ∧ ∃ r, t.faults.records.head? = some r ∧ r.kind = .retryExhausted ∧ r.ch = none))
          ∧ (∀ p, x.frame = .presence p →
            t.member.presenceTimer = some s.presenceMs ∧ t.member.presenceDue = false)
          ∧ (∀ p a, x.frame = .answer p → s.answer = some a →
            t.answer = if 1 ≤ a.voids then none else some { a with voids := a.voids + 1 }))

/-- A voided own CLAIM of the head stays offered with its void count raised; its eighth void ends the offer with a
RETRY_EXHAUSTED record and the claim counter as it was. One whose entry is no longer the head, or that INH holds, returns
its entry to QUEUED, and its eighth void has its record too (the model's reading, log 27). A withdrawn one writes none. -/
def Obligations.VoidedClaimIsRetried : Prop :=
  (∀ (raw : RawFrame) (s : State) (x : TxFrame) (p : ClaimPayload) (e : QueueEntry) (rest : List QueueEntry),
    s.takesPart = true → s.live = true → s.notice = false → s.inh.asserted = false → s.bus.tx = some x →
    x.frame = .claim p → x.withdrawn = false → s.queue.entries = e :: rest → e.ch = p.ch →
    ∃ t, exec (.frameVoided raw) s = .next t
      ∧ t.queue.claimSeq = s.queue.claimSeq
      ∧ (e.voids < 7 → t.queue.entries.head? = some { e with voids := e.voids + 1 } ∧ t.chan p.ch = s.chan p.ch)
      ∧ (7 ≤ e.voids →
        t.queue.entries.head? = some { e with voids := 0, offered := none } ∧ (t.chan p.ch).state = .queued
          ∧ ∃ r, t.faults.records.head? = some r ∧ r.kind = .retryExhausted ∧ r.ch = some p.ch))
    ∧ (∀ (raw : RawFrame) (s : State) (x : TxFrame) (p : ClaimPayload) (e : QueueEntry),
      s.takesPart = true → s.live = true → s.bus.tx = some x → x.frame = .claim p → x.withdrawn = false →
      s.queueEntry p.ch = some e → s.isHead p.ch = false ∨ s.inh.asserted = true →
      ∃ t, exec (.frameVoided raw) s = .next t
        ∧ t.queue.claimSeq = s.queue.claimSeq
        ∧ { e with voids := 0, offered := none } ∈ t.queue.entries ∧ (t.chan p.ch).state = .queued
        ∧ (e.voids < 7 → t.faults = s.faults)
        ∧ (7 ≤ e.voids → ∃ r, t.faults.records.head? = some r ∧ r.kind = .retryExhausted ∧ r.ch = some p.ch))
    ∧ ∀ (raw : RawFrame) (s : State) (x : TxFrame) (p : ClaimPayload), s.takesPart = true → s.bus.tx = some x →
      x.frame = .claim p → x.withdrawn = true →
      ∃ t, exec (.frameVoided raw) s = .next t ∧ t.queue.claimSeq = s.queue.claimSeq ∧ t.faults = s.faults

/-- A lost arbitration is counted and ends the own frame without an outcome; the station receives the frame in progress. A
CLAIM of the head stays offered; a withdrawn CLAIM ends, and its channel joins where demand has come on again; a settle
taken back owes ABANDONED(REQUEST_OFF); any other frame leaves the channels as they are. -/
def Obligations.ArbitrationLossIsNoOutcome : Prop :=
  ∀ (s : State) (x : TxFrame), s.operating = true → s.bus.tx = some x → s.bus.lineBusy = true →
    ∃ t, exec .arbitrationLost s = .next t
      ∧ t.bus.tx = none ∧ t.bus.receiving = true ∧ t.starts = s.starts ∧ t.draws = s.draws ∧ t.member = s.member
      ∧ t.engine = s.engine ∧ t.queue.claimSeq = s.queue.claimSeq
      ∧ t.bus.counters = { s.bus.counters with arbLosses := satSucc 65535 s.bus.counters.arbLosses }
      ∧ t.faults = s.faults
      ∧ ((∀ p, x.frame ≠ .claim p) → (∀ p, x.frame ≠ .settled p) → ∀ c, sameButOffer (t.chan c) (s.chan c))
      ∧ (∀ p, x.frame = .claim p → s.live = true → s.notice = false → s.inh.asserted = false → x.withdrawn = false →
        s.isHead p.ch = true → t.channels = s.channels ∧ t.queue = s.queue)
      ∧ (∀ p, x.frame = .claim p → s.live = true → x.withdrawn = true →
        (∀ c, c ≠ p.ch → sameButOffer (t.chan c) (s.chan c))
          ∧ ((s.chan p.ch).state = .idle → (s.chan p.ch).latch = true →
            inQueue (t.chan p.ch).state ∧ ∃ e ∈ t.queue.entries, e.ch = p.ch)
          ∧ ((s.chan p.ch).state ≠ .idle ∨ (s.chan p.ch).latch = false → sameButOffer (t.chan p.ch) (s.chan p.ch)))
      ∧ (∀ p, x.frame = .settled p → s.live = true →
        (∀ c, c ≠ p.ch → sameButOffer (t.chan c) (s.chan c))
          ∧ ((s.chan p.ch).settleWithdrawn = true →
            (t.chan p.ch).release = .abandoned .requestOff ∧ (t.chan p.ch).settleWithdrawn = false
              ∧ sameButOffer { t.chan p.ch with release := (s.chan p.ch).release, settleWithdrawn := true }
                (s.chan p.ch))
          ∧ ((s.chan p.ch).settleWithdrawn = false → sameButOffer (t.chan p.ch) (s.chan p.ch)))

/-- An address clash is counted and recorded; the first since the start leaves the membership as it is, the second halts the
station, its outputs off and its line released. -/
def Obligations.SecondClashHalts : Prop :=
  ∀ s : State, s.takesPart = true →
    ∃ t, exec .addressClash s = .next t
      ∧ t.bus.counters.clashes = satSucc 65535 s.bus.counters.clashes
      ∧ (∃ r, t.faults.records.head? = some r ∧ r.kind = .addressClash)
      ∧ t.starts.map withoutHold = s.starts.map withoutHold ∧ t.draws = s.draws
      ∧ (s.bus.counters.clashes = 0 → t.member = s.member)
      ∧ (1 ≤ s.bus.counters.clashes →
        t.member.state = .halted ∧ t.bus.tx = none ∧ (∀ c, outsAreOff (t.chan c))
          ∧ (s.power.warning = false → t.indicators.flt = true ∧ t.indicators.stat = .doubleFlash))

/-- A frame found incomplete is not applied and counts an objection; outside LISTEN the station enters SYNCING with a
request for all and a new sync timeout. -/
def Obligations.IncompleteFrameAsksForARecount : Prop :=
  ∀ s : State, s.takesPart = true →
    ∃ t, exec .frameIncomplete s = .next t
      ∧ t.starts = s.starts ∧ t.draws = s.draws
      ∧ t.bus.counters.objections = satSucc 65535 s.bus.counters.objections
      ∧ (s.member.state ≠ .listen →
        t.member.state = .syncing ∧ t.member.ownRequest = some .all ∧ t.member.ownAccepted = false
          ∧ t.member.syncTimeout = some (2 * s.presenceMs))
      ∧ (s.member.state = .listen → t.member = s.member)

/-- A break seen: the bus is not free. A station that sends in its state and has a candidate on a free, quiet bus joins the
break at once, with a frame that stands no later than any candidate's by frame urgency and place; any other station that
operates and is not sending receives. One that sends goes on, and one that does not operate receives nothing. -/
def Obligations.BreakBeginsAFrame : Prop :=
  (∀ s : State, s.operating = true → s.bus.tx = none →
    ∃ t, exec .frameBreak s = .next t
      ∧ t.bus.lineBusy = true ∧ t.bus.free = false ∧ t.bus.receiving = t.bus.tx.isNone
      ∧ (s.live = true → s.bus.free = true → s.bus.lineBusy = false →
        ∀ src, s.member.state.permits src = true → (s.build src).2.isSome = true →
          ∃ x, t.bus.tx = some x
            ∧ (x.urgency < src.urgency ∨ x.urgency = src.urgency ∧ framePlace x.frame ≤ sourcePlace src))
      ∧ (s.live = false ∨ s.bus.free = false ∨ s.bus.lineBusy = true → t.bus.tx = none)
      ∧ t.starts = s.starts ∧ t.draws = s.draws ∧ t.member = s.member)
    ∧ ∀ s : State, s.operating = false ∨ s.bus.tx.isSome = true →
      ∃ t, exec .frameBreak s = .next t
        ∧ t.bus.lineBusy = true ∧ t.bus.free = false ∧ t.bus.receiving = s.bus.receiving
        ∧ t.bus.tx = s.bus.tx ∧ t.starts = s.starts ∧ t.draws = s.draws ∧ t.member = s.member

/-- At a free-bus instant an owed release of the lowest channel is sent before every other candidate, and of all the sources
that hold one the frame begun stands first by frame urgency, then by the source's place; the oldest expiry mark goes first,
and the own request before an owed one. A station that is HALTED, LOADING or in the power-fail warning begins nothing. -/
def Obligations.FreeBusSendsTheReleaseFirst : Prop :=
  ∀ s : State, s.bus.tx = none →
    ∃ t, exec .busFree s = .next t
      ∧ t.starts = s.starts ∧ t.draws = s.draws ∧ t.member = s.member
      ∧ (∀ (c : Chan) (f : Frame), s.live = true → s.releaseFrame c = some f →
        (∀ d : Chan, d < c → (s.chan d).release = .none) →
        t.bus.tx = some { frame := f, urgency := 0, withdrawn := false, shedFor := none })
      ∧ (s.live = true → s.notice = false → ∀ src, s.member.state.permits src = true → (s.build src).2.isSome = true →
        ∃ x, t.bus.tx = some x
          ∧ (x.urgency < src.urgency ∨ x.urgency = src.urgency ∧ framePlace x.frame ≤ sourcePlace src))
      ∧ (∀ x p, t.bus.tx = some x → x.frame = .expire p →
        ∃ e, s.starts.find? (·.expirePending) = some e ∧ p = { owner := e.owner, ch := e.ch, seq := e.seq })
      ∧ (∀ x a, t.bus.tx = some x → x.frame = .syncReq a →
        (s.member.ownRequest = some .all → a = 0) ∧ (s.member.ownRequest = some .self → a = s.own)
          ∧ (s.member.ownRequest = none → ∃ kv, s.member.roster.find? (·.2.requestOwed) = some kv
            ∧ a = Fin.ofNat 32 kv.1))
      ∧ (s.live = false → t.bus.tx = none)
      ∧ (t.bus.tx = none → t.bus.free = s.operating)

/-- A CLAIM is begun only where every condition of an offer holds at that moment for the head of the queue: IN_STEP or
ISOLATED, INH released, quorum and no discord above effective urgency 0, the engine open to a more urgent start, no start
waiting, no release of the channel pending, the pre-check passed; it carries the channel's configured fields. A RENEW is
begun only where the renewal need stands, of the lowest channel that has one, with the current seq and a count one above the
channel's. A SHED_CALL is begun only where the shed need stands for the QUEUED head, with its shortfall and the call seq of
the outstanding call. -/
def Obligations.ClaimRenewAndShedCallBeginOnlyWhereTheyMay : Prop :=
  (∀ (c : Instr) (s t : State) (x : TxFrame) (p : ClaimPayload), exec c s = .next t → s.bus.tx = none →
    t.bus.tx = some x → x.frame = .claim p →
    (t.member.state = .inStep ∨ t.member.state = .isolated)
      ∧ t.inh.asserted = false
      ∧ (x.urgency = 0 ∨ t.member.discord = false ∧ t.group.quorum ≤ t.presentPeers + 1)
      ∧ (∀ r, t.engine.running = some r → (t.cfg p.ch).urgency < (t.cfg r.ch).urgency)
      ∧ t.engine.waiting = none
      ∧ (t.chan p.ch).release = .none
      ∧ t.admissionTest t.own p.ch p.urgency p.inrush.val p.draw.val = .admitted
      ∧ (p.urgency = (t.cfg p.ch).urgency ∧ p.sheddable = (t.cfg p.ch).sheddable ∧ p.inrush = (t.cfg p.ch).inrush
        ∧ p.draw = (t.cfg p.ch).draw ∧ p.hold = (t.cfg p.ch).holdLimit)
      ∧ ∃ e rest, t.queue.entries = e :: rest ∧ e.ch = p.ch ∧ e.eff = x.urgency ∧ e.offered = some p.seq
        ∧ (t.chan p.ch).state = .claiming)
    ∧ (∀ (c : Instr) (s t : State) (x : TxFrame) (p : RenewPayload), exec c s = .next t → s.bus.tx = none →
      t.bus.tx = some x → x.frame = .renew p →
      x.urgency = 1 ∧ t.tracked p.ch = true ∧ (t.chan p.ch).seq = some p.seq ∧ (t.chan p.ch).renewals.val < 3
        ∧ p.count.val = (t.chan p.ch).renewals.val + 1 ∧ t.engine.exhausted.get p.ch = false
        ∧ (∃ e, t.namedEntry t.own p.ch p.seq = some e ∧ 0 < e.remaining ∧ 4 * e.remaining < e.holdLimit.val * 20)
        ∧ ∀ d : Chan, d < p.ch → t.renewalDue d = false)
    ∧ ∀ (c : Instr) (s t : State) (x : TxFrame) (p : ShedCallPayload), exec c s = .next t → s.bus.tx = none →
      t.bus.tx = some x → x.frame = .shedCall p →
      x.urgency = 0 ∧ p.callerUrgency = 0 ∧ 1 ≤ p.shortfall.val
        ∧ ∃ e rest, t.queue.entries = e :: rest ∧ x.shedFor = some e.ch ∧ (t.chan e.ch).state = .queued
          ∧ (t.cfg e.ch).urgency = 0 ∧ e.shedCalled = false ∧ t.offerable e = true ∧ t.precheck e.ch = .draw
          ∧ (p.shortfall.val : Int) = t.steadySum + (t.cfg e.ch).draw.val - t.group.steadyBudget - t.markedDraw
          ∧ shedSet t.draws 0 p.shortfall.val ≠ []
          ∧ ∃ k, t.queue.shedCall = some k ∧ k.ch = e.ch ∧ k.callSeq = p.callSeq

/-- A frame of the station's own is begun only while its channels act, and only of a kind its membership state sends. -/
def Obligations.FrameBeginsOnlyWherePermitted : Prop :=
  ∀ (c : Instr) (s t : State) (x : TxFrame), exec c s = .next t → s.bus.tx = none → t.bus.tx = some x →
    t.power.phase = .running ∧ t.power.warning = false ∧ mayBegin t.member.state x.frame = true

/-! ## Holds -/

/-- A hold that runs out stops its timer at 0: at a station that is not the owner the entry is marked expire-pending, at
the owner it is not; the entry stays. The command of a renewal need states that the hold remaining of the tracked start's
entry stands below a quarter of its limit: what it writes is the model's choice (logs 2 and 31), and nothing else of the
tables changes. -/
def Obligations.HoldRunsOut : Prop :=
  ((∀ (owner : Addr) (c : Chan) (s : State), s.operating = true → owner ≠ s.own →
      ∃ t, exec (.holdRunsOutAtPeer owner c) s = .next t
        ∧ t.starts = (s.starts.map fun e =>
          if e.owner = owner ∧ e.ch = c ∧ e.holdRunning = true then
            { e with remaining := 0, holdRunning := false, expirePending := true } else e)
        ∧ t.draws = s.draws ∧ sameLocal s t ∧ t.member = s.member ∧ t.faults = s.faults)
      ∧ ∀ (c : Chan) (s : State) (e : StartEntry), s.operating = true → s.pairEntry s.own c = some e →
        e.holdRunning = true →
        ∃ t, exec (.holdRunsOutAtOwner c) s = .next t
          ∧ t.starts = (s.starts.map fun x =>
            if x.owner = s.own ∧ x.ch = c ∧ x.holdRunning = true then { x with remaining := 0, holdRunning := false } else x)
          ∧ t.draws = s.draws ∧ t.member = s.member)
    ∧ (∀ (c : Chan) (s : State) (e : StartEntry), s.live = true → s.tracked c = true → s.trackedEntry c = some e →
        e.holdRunning = true → e.holdLimit ≠ 0 →
        ∃ t, exec (.renewalNeed c) s = .next t
          ∧ t.draws = s.draws ∧ sameLocal s t
          ∧ t.starts = (s.starts.map fun x =>
            if x.owner = s.own ∧ x.ch = c ∧ x.seq = e.seq ∧ x.holdRunning = true then
              { x with remaining := min x.remaining ((x.holdLimit.val * 20 - 1) / 4) } else x)
          ∧ ∃ x, t.trackedEntry c = some x ∧ 4 * x.remaining < x.holdLimit.val * 20)

/-- The own hold of a tracked start runs out: its channel is re-queued with its outputs off, ABANDONED(HOLD_EXCEEDED)
pending and a HOLD_EXCEEDED record with the step where the start lay; the start is taken from the engine, which a running
start frees. Any other channel's expiry changes no channel. -/
def Obligations.HoldExceededAborts : Prop :=
  ∀ (c : Chan) (s : State) (e : StartEntry), s.live = true → EngineLaw s → s.pairEntry s.own c = some e →
    e.holdRunning = true →
    ∃ t, exec (.holdRunsOutAtOwner c) s = .next t
      ∧ (s.tracked c = true → (s.chan c).seq = some e.seq →
        (t.chan c).state = .queued ∧ outsAreOff (t.chan c) ∧ (t.chan c).release = .abandoned .holdExceeded
          ∧ startRemoved s t.beforeRecord c
          ∧ ∃ r, t.faults.records.head? = some r ∧ r.kind = .holdExceeded ∧ r.ch = some c ∧ r.step = s.startStep c)
      ∧ (s.tracked c = false ∨ (s.chan c).seq ≠ some e.seq → sameLocal s t ∧ t.faults = s.faults)

/-! ## Local lines -/

/-- A level that REQn, SENSEn or INH takes is recorded, also while nothing acts on the pins (log 5), and a level that the
pin already has changes nothing (log 10): the debounce timer of a channel that is not DISABLED restarts where the level
differs from the debounced request and stops where it does not; sense supervision of an ON channel with sense use REQUIRED
stops or starts its grace; the filter of INH runs 20 ms or stops. Nothing else of a channel changes, but where the recipe of
the channel waits in an AWAIT of that level of the sense; of channels that have no start in the engine nothing changes then
either. -/
def Obligations.LevelsStartTheFilters : Prop :=
  (∀ (c : Chan) (level : Bool) (s : State),
    ∃ t, exec (.reqLevelChange c level) s = .next t
      ∧ t.pins = { s.pins with req := s.pins.req.set c level }
      ∧ (s.pins.req.get c = level → t = s)
      ∧ (s.pins.req.get c ≠ level → s.live = true → (s.chan c).state ≠ .disabled →
        (t.chan c).debounceTimer
          = if level = (s.chan c).debounced then none else some ((s.cfg c).debounce * 10))
      ∧ (s.live = false ∨ (s.chan c).state = .disabled → (t.chan c).debounceTimer = (s.chan c).debounceTimer)
      ∧ (∀ d, d ≠ c → sameButOffer (t.chan d) (s.chan d))
      ∧ sameButOffer { t.chan c with debounceTimer := (s.chan c).debounceTimer } (s.chan c)
      ∧ t.starts = s.starts ∧ t.draws = s.draws ∧ t.member = s.member ∧ t.engine = s.engine ∧ t.faults = s.faults)
    ∧ (∀ (c : Chan) (level : Bool) (s : State),
      ∃ t, exec (.senseChange c level) s = .next t
        ∧ t.pins = { s.pins with sense := s.pins.sense.set c level }
        ∧ (s.pins.sense.get c = level → t = s)
        ∧ (s.pins.sense.get c ≠ level → s.live = true → (s.chan c).state = .on → (s.cfg c).senseRequired = true →
          (t.chan c).senseGrace = if level then none else some ((s.cfg c).senseGrace * 10))
        ∧ (s.live = false ∨ (s.chan c).state ≠ .on ∨ (s.cfg c).senseRequired = false →
          (t.chan c).senseGrace = (s.chan c).senseGrace)
        ∧ ((∀ r timeout y, s.engine.running = some r → r.ch = c → s.stepOf r ≠ some (.await level timeout y)) →
          sameButOffer { t.chan c with senseGrace := (s.chan c).senseGrace } (s.chan c)
            ∧ (∀ d, d ≠ c → sameButOffer (t.chan d) (s.chan d)) ∧ t.engine = s.engine ∧ t.faults = s.faults)
        ∧ (EngineLaw s → ∀ d, d ≠ c → (s.chan d).state.inEngine = false → sameButOffer (t.chan d) (s.chan d))
        ∧ t.starts = s.starts ∧ t.draws = s.draws ∧ t.member = s.member)
    ∧ ∀ (level : Bool) (s : State),
      ∃ t, exec (.inhPinChange level) s = .next t
        ∧ t.pins = { s.pins with inh := level }
        ∧ (s.pins.inh = level → t = s)
        ∧ t.inh = { s.inh with
          timer :=
            if s.pins.inh = level ∨ s.live = false then s.inh.timer
            else if level = s.inh.asserted then none else some 20 }
        ∧ (∀ c, sameButOffer (t.chan c) (s.chan c))
        ∧ t.starts = s.starts ∧ t.draws = s.draws ∧ t.member = s.member ∧ t.engine = s.engine ∧ t.faults = s.faults

/-- The debounce timer runs out: the debounced request takes the level of REQn, and a press or release writes the demand
latch by the request mode. Demand on puts an IDLE channel into the queue as a new entry, unless its withdrawn claim is
still on the bus; a write that leaves the latch as it was is no event. -/
def Obligations.DebouncedRequestWritesTheLatch : Prop :=
  ∀ (c : Chan) (s : State), s.live = true → (s.chan c).debounceTimer.isSome = true →
    let level := s.pins.req.get c
    let new :=
      if level = (s.chan c).debounced then (s.chan c).latch
      else if (s.cfg c).requestMode = .level then level
      else if level then !(s.chan c).latch else (s.chan c).latch
    ∃ t, exec (.debounceTimerRunsOut c) s = .next t
      ∧ (t.chan c).debounced = level ∧ (t.chan c).debounceTimer = none ∧ (t.chan c).latch = new
      ∧ t.starts = s.starts ∧ t.draws = s.draws ∧ t.member = s.member
      ∧ (new = (s.chan c).latch →
        sameButOffer
            { t.chan c with debounced := (s.chan c).debounced, debounceTimer := (s.chan c).debounceTimer } (s.chan c)
          ∧ t.engine = s.engine ∧ t.faults = s.faults)
      ∧ ((s.chan c).latch = false → new = true → (s.chan c).state = .idle → s.claimOnBus c = false →
        inQueue (t.chan c).state ∧ (t.chan c).release = (s.chan c).release
          ∧ ∃ e ∈ t.queue.entries, e.ch = c ∧ e.eff = (s.cfg c).urgency ∧ e.shedCalled = false ∧ e.shedWait = none
            ∧ e.voids = 0 ∧ e.patience = agingTimer (s.cfg c) (s.cfg c).urgency
            ∧ (s.queue.nextStamp < 65535 → e.stamp = s.queue.nextStamp ∧ t.queue.nextStamp = s.queue.nextStamp + 1))
      ∧ ((s.chan c).latch = false → new = true → (s.chan c).state = .idle → s.claimOnBus c = true →
        (t.chan c).state = .idle)

/-- Demand off ends the channel's course and takes it to IDLE with its outputs off and its restore mark clear; what it
then owes depends on how far the load had got. A start in progress is taken from the engine: the engine freed by a running
start takes up the PENDING start, else the top record; one in the PENDING slot lets the running recipe go on; one on the
stack leaves the others in their order. -/
def Obligations.DemandOffEndsTheCourse : Prop :=
  ∀ (c : Chan) (s : State), s.live = true → EngineLaw s → OutputLaw s → (s.chan c).debounceTimer.isSome = true →
    (s.chan c).state ≠ .disabled → s.pins.req.get c ≠ (s.chan c).debounced → (s.chan c).latch = true →
    ((s.cfg c).requestMode = .level ∧ s.pins.req.get c = false
      ∨ (s.cfg c).requestMode = .toggle ∧ s.pins.req.get c = true) →
    ∃ t, exec (.debounceTimerRunsOut c) s = .next t
      ∧ (t.chan c).state = .idle ∧ (t.chan c).latch = false ∧ (t.chan c).mark = false ∧ outsAreOff (t.chan c)
      ∧ (inQueue (s.chan c).state →
        (t.chan c).release = (s.chan c).release ∧ (∀ e ∈ t.queue.entries, e.ch ≠ c) ∧ t.engine = s.engine
          ∧ t.queue.claimSeq = s.queue.claimSeq ∧ t.faults = s.faults)
      ∧ ((s.chan c).state = .claiming → s.claimOnBus c = true →
        t.claimWithdrawn = true ∧ t.bus.tx.map (·.frame) = s.bus.tx.map (·.frame))
      ∧ ((s.chan c).state.inEngine = true →
        (t.chan c).release = .abandoned .requestOff ∧ (t.chan c).seq = (s.chan c).seq ∧ t.tracked c = false
          ∧ startRemoved s t c)
      ∧ ((s.chan c).state.inEngine = false → t.engine = s.engine)
      ∧ ((s.chan c).state = .settling → s.settledOnBus c = false →
        (t.chan c).release = .abandoned .requestOff ∧ t.faults = s.faults)
      ∧ ((s.chan c).state = .settling → s.settledOnBus c = true →
        (t.chan c).release = (s.chan c).release ∧ (t.chan c).settleWithdrawn = true ∧ t.faults = s.faults)
      ∧ ((s.chan c).state = .on →
        (t.chan c).release = .stopped .requestOff ∧ (t.chan c).senseGrace = none ∧ t.faults = s.faults)
      ∧ ((s.chan c).state = .shed →
        (t.chan c).release = (s.chan c).release ∧ (t.chan c).shedRest = none ∧ t.faults = s.faults)
      ∧ ((s.chan c).state = .faulted → (t.chan c).release = (s.chan c).release ∧ t.faults = s.faults)
      ∧ t.starts = s.starts ∧ t.draws = s.draws ∧ t.member = s.member

/-- A sense grace that runs out faults its ON channel: outputs off, STOPPED(SENSE_LOST) pending, a SENSE_LOST record, FLT
asserted. A shed rest that runs out puts its SHED channel into the queue with its pending release kept. -/
def Obligations.SenseLostFaultsAndShedRestRequeues : Prop :=
  (∀ (c : Chan) (s : State), s.live = true → (s.chan c).state = .on → (s.chan c).senseGrace.isSome = true →
    ∃ t, exec (.senseGraceRunsOut c) s = .next t
      ∧ (t.chan c).state = .faulted ∧ outsAreOff (t.chan c) ∧ (t.chan c).release = .stopped .senseLost
      ∧ (t.chan c).senseGrace = none ∧ (t.chan c).mark = false ∧ (t.chan c).latch = (s.chan c).latch
      ∧ (∃ r, t.faults.records.head? = some r ∧ r.kind = .senseLost ∧ r.ch = some c ∧ r.step = none)
      ∧ t.indicators.flt = true
      ∧ (∀ d, d ≠ c → sameButOffer (t.chan d) (s.chan d))
      ∧ t.starts = s.starts ∧ t.draws = s.draws ∧ t.member = s.member ∧ t.engine = s.engine)
    ∧ ∀ (c : Chan) (s : State), s.live = true → (s.chan c).state = .shed → (s.chan c).shedRest.isSome = true →
      ∃ t, exec (.shedRestRunsOut c) s = .next t
        ∧ inQueue (t.chan c).state ∧ (t.chan c).shedRest = none ∧ (t.chan c).release = (s.chan c).release
        ∧ (∃ e ∈ t.queue.entries, e.ch = c ∧ e.eff = (s.cfg c).urgency ∧ e.voids = 0 ∧ e.shedCalled = false)
        ∧ (∀ d, d ≠ c → sameButOffer (t.chan d) (s.chan d))
        ∧ t.starts = s.starts ∧ t.draws = s.draws ∧ t.member = s.member ∧ t.engine = s.engine ∧ t.faults = s.faults

/-- The assertion of filtered INH withdraws a claim that is not on the bus and aborts every start in progress to QUEUED
with ABANDONED(INHIBIT) pending, the engine emptied at once; the other channels and the records stay. Its release lets the
head be offered where every condition holds. -/
def Obligations.InhibitAbortsEveryStart : Prop :=
  (∀ s : State, s.live = true → EngineLaw s → s.inh.timer.isSome = true → s.pins.inh = true → s.inh.asserted = false →
    ∃ t, exec .inhAsserted s = .next t
      ∧ t.inh = { asserted := true, timer := none }
      ∧ t.engine.running = none ∧ t.engine.waiting = none ∧ t.engine.stack = []
      ∧ (∀ c, (s.chan c).state.inEngine = true →
        (t.chan c).state = .queued ∧ outsAreOff (t.chan c) ∧ (t.chan c).release = .abandoned .inhibit
          ∧ (t.chan c).mark = (s.chan c).mark)
      ∧ (∀ c, (s.chan c).state = .claiming → s.claimOnBus c = false → (t.chan c).state = .queued)
      ∧ (∀ c, (s.chan c).state.inEngine = false → (s.chan c).state ≠ .claiming ∨ s.claimOnBus c = true →
        t.chan c = s.chan c)
      ∧ t.faults = s.faults ∧ t.starts = s.starts ∧ t.draws = s.draws ∧ t.member = s.member)
    ∧ ∀ s : State, s.live = true → s.inh.timer.isSome = true → s.pins.inh = false → s.inh.asserted = true →
      ∃ t, exec .inhReleased s = .next t
        ∧ t.inh = { asserted := false, timer := none }
        ∧ (∀ c, sameButOffer (t.chan c) (s.chan c))
        ∧ (∀ e rest, s.queue.entries = e :: rest → (s.chan e.ch).state = .queued →
          { s with inh := { asserted := false, timer := none } }.offers e = true → (t.chan e.ch).state = .claiming)
        ∧ t.faults = s.faults ∧ t.starts = s.starts ∧ t.draws = s.draws ∧ t.member = s.member ∧ t.engine = s.engine

/-! ## Queue, engine, membership, history -/

/-- A patience timer that runs out makes its entry one more urgent, restarts while it can age further, and re-forms the
order of the queue. A shed wait that runs out writes a SHED_INSUFFICIENT record where the entry's channel is QUEUED. -/
def Obligations.QueueTimersRunOut : Prop :=
  (∀ (c : Chan) (s : State) (e : QueueEntry), s.operating = true → s.queueEntry c = some e → e.patience.isSome = true →
    1 < e.eff.val →
    ∃ t, exec (.patienceTimerRunsOut c) s = .next t
      ∧ (∃ e' ∈ t.queue.entries, e'.ch = c ∧ e'.stamp = e.stamp ∧ e'.eff.val = e.eff.val - 1
        ∧ e'.patience
          = (if 2 ≤ (s.cfg c).urgency.val ∧ (s.cfg c).patience ≠ 0 ∧ 2 < e.eff.val then
              some ((s.cfg c).patience * 100) else none))
      ∧ t.queue.entries.Pairwise (fun a b => entryBefore t.markOf b a = false)
      ∧ (∀ d, sameButOffer (t.chan d) (s.chan d))
      ∧ t.starts = s.starts ∧ t.draws = s.draws ∧ t.member = s.member ∧ t.engine = s.engine ∧ t.faults = s.faults)
    ∧ ∀ (c : Chan) (s : State) (e : QueueEntry), s.operating = true → s.queueEntry c = some e →
      e.shedWait.isSome = true →
      ∃ t, exec (.shedWaitRunsOut c) s = .next t
        ∧ (∃ e' ∈ t.queue.entries, e'.ch = c ∧ e'.stamp = e.stamp ∧ e'.shedWait = none
          ∧ e'.shedCalled = e.shedCalled)
        ∧ ((s.chan c).state = .queued →
          ∃ r, t.faults.records.head? = some r ∧ r.kind = .shedInsufficient ∧ r.ch = some c)
        ∧ ((s.chan c).state ≠ .queued → t.faults = s.faults)
        ∧ (∀ d, sameButOffer (t.chan d) (s.chan d))
        ∧ t.starts = s.starts ∧ t.draws = s.draws ∧ t.member = s.member ∧ t.engine = s.engine

/-- A DWELL that has run out, and an AWAIT whose level SENSEn reaches, complete: the next steps are taken until one has
time to wait, fails, or the last completes; where a start waits in the PENDING slot and steps follow, the recipe is
suspended at the boundary and the waiting start begins; a recipe that ends frees the engine for the PENDING start, else for
the top of the stack, which goes on in its DWELL or AWAIT with the time it had left. An AWAIT whose timeout runs out fails
its recipe and frees the engine. A time that ran out in another step than the running slot's has no effect (log 34). -/
def Obligations.TimedStepEnds : Prop :=
  (∀ (s : State) (r : RunSlot) (step : Fin 8) (time : Nat) (y : Bool), s.live = true → EngineLaw s →
    s.engine.running = some r → r.step = step.val → s.stepOf r = some (.dwell time y) →
    ∃ t, exec (.dwellTimeRunsOut r.ch step) s = .next t
      ∧ t.starts = s.starts ∧ t.draws = s.draws ∧ t.member = s.member ∧ stepCompleted s t r)
    ∧ (∀ (s : State) (r : RunSlot) (level : Bool) (timeout : Nat) (y : Bool), s.live = true → EngineLaw s →
      s.engine.running = some r → s.stepOf r = some (.await level timeout y) → s.pins.sense.get r.ch ≠ level →
      ∃ t, exec (.senseChange r.ch level) s = .next t
        ∧ t.starts = s.starts ∧ t.draws = s.draws ∧ t.member = s.member
        ∧ stepCompleted { s with pins.sense := s.pins.sense.set r.ch level } t r)
    ∧ (∀ (s : State) (r : RunSlot) (step : Fin 8) (level : Bool) (timeout : Nat) (y : Bool), s.live = true →
      EngineLaw s → s.engine.running = some r → r.step = step.val → s.stepOf r = some (.await level timeout y) →
      s.pins.sense.get r.ch ≠ level →
      ∃ t, exec (.awaitTimeoutRunsOut r.ch step) s = .next t
        ∧ recipeFailed t r.ch ∧ engineFreed s t
        ∧ (∃ f ∈ t.faults.records, f.kind = .recipeFailed ∧ f.ch = some r.ch ∧ f.step = some r.step)
        ∧ (s.engine.waiting = none → s.engine.stack = [] → failureOnTop t r.ch r.step)
        ∧ t.starts = s.starts ∧ t.draws = s.draws ∧ t.member = s.member)
    ∧ ∀ (c : Chan) (step : Fin 8) (s : State),
      (∀ r, s.engine.running = some r → r.ch ≠ c ∨ r.step ≠ step.val) →
      exec (.dwellTimeRunsOut c step) s = .next s ∧ exec (.awaitTimeoutRunsOut c step) s = .next s

/-- The timers of membership run out: a PRESENCE becomes a candidate; the LISTEN window leads to SYNCING with a request for
all where a peer is PRESENT and past SYNCING where none is; the sync timeout leads past SYNCING and casts doubt on the
peers not recounted; past SYNCING is IN_STEP, or with three unacknowledged frames ISOLATED with its record (section 8.9); a
silent PRESENT peer is marked absent-pending outside LISTEN, and its last-heard time stands at the absence time at least
(the model's choice, log 2); a request timer lets a request be owed again. Tables and channels stay. -/
def Obligations.MembershipTimersRunOut : Prop :=
  (∀ s : State, s.operating = true → s.member.presenceTimer.isSome = true →
    ∃ t, exec .presenceTimerRunsOut s = .next t
      ∧ t.member = { s.member with presenceTimer := none, presenceDue := true }
      ∧ sameLocal s t ∧ t.starts = s.starts ∧ t.draws = s.draws ∧ t.faults = s.faults)
    ∧ (∀ s : State, s.operating = true → s.member.state = .listen → s.member.listenWindow.isSome = true →
      ∃ t, exec .listenWindowRunsOut s = .next t
        ∧ (1 ≤ s.presentPeers →
          t.member.state = .syncing ∧ t.member.ownRequest = some .all ∧ t.member.ownAccepted = false
            ∧ t.member.syncTimeout = some (2 * s.presenceMs))
        ∧ (s.presentPeers = 0 →
          t.history.joined = true
            ∧ t.member.state = if 3 ≤ s.bus.unackRun then .isolated else .inStep)
        ∧ (∀ c, sameButOffer (t.chan c) (s.chan c)) ∧ t.starts = s.starts ∧ t.draws = s.draws
        ∧ t.engine = s.engine ∧ t.retention = s.retention)
    ∧ (∀ s : State, s.operating = true → s.member.state = .syncing → s.member.syncTimeout.isSome = true →
      ∃ t, exec .syncTimeoutRunsOut s = .next t
        ∧ t.history.joined = true ∧ t.member.syncTimeout = none
        ∧ t.member.state = (if 3 ≤ s.bus.unackRun then .isolated else .inStep)
        ∧ (3 ≤ s.bus.unackRun → ∃ r, t.faults.records.head? = some r ∧ r.kind = .isolatedEntered)
        ∧ (s.member.ownAccepted = true →
          ∀ a ∈ s.member.awaited, (s.peer a).owed = true → (t.peer a).suspect = true ∧ (t.peer a).owed = false)
        ∧ (s.member.ownAccepted = false →
          t.member.ownRequest = none ∧ ∀ a, (s.peer a).state = .present → (t.peer a).suspect = true)
        ∧ t.member.round = s.member.round
        ∧ (∀ c, sameButOffer (t.chan c) (s.chan c)) ∧ t.starts = s.starts ∧ t.draws = s.draws
        ∧ t.engine = s.engine ∧ t.retention = s.retention)
    ∧ (∀ (a : Addr) (s : State), s.operating = true → (s.peer a).state = .present → (s.peer a).lastHeard.isSome = true →
      ∃ t, exec (.absenceTimeReached a) s = .next t
        ∧ (s.member.state ≠ .listen → (t.peer a).absentPending = true)
        ∧ (s.member.state = .listen → (t.peer a).absentPending = (s.peer a).absentPending)
        ∧ (∃ ms, (t.peer a).lastHeard = some ms ∧ 3 * s.presenceMs ≤ ms)
        ∧ t.member.state = s.member.state
        ∧ sameLocal s t ∧ t.starts = s.starts ∧ t.draws = s.draws ∧ t.faults = s.faults)
    ∧ ∀ (a : Addr) (s : State), s.operating = true → (s.peer a).requestTimer.isSome = true →
      ∃ t, exec (.requestTimerRunsOut a) s = .next t
        ∧ t.peer a = { s.peer a with requestTimer := none }
        ∧ t.member.state = s.member.state
        ∧ sameLocal s t ∧ t.starts = s.starts ∧ t.draws = s.draws ∧ t.faults = s.faults

/-- One sample of every channel that is not DISABLED, all at once: position 7 is lost, the others move one place older,
position 0 says whether the channel is ON, the fill count rises to 8 at most. A DISABLED channel's history stays. Every
command keeps sampling held until the station has joined and no restore mark stands; at the release the sample timer starts
at a whole period. -/
def Obligations.SamplingIsHeldThenShiftsTheHistory : Prop :=
  (∀ s : State, s.live = true → s.history.released = true → s.history.sampleTimer.isSome = true →
    ∃ t, exec .sampleTimerRunsOut s = .next t
      ∧ (∀ c, (s.chan c).state ≠ .disabled →
        (t.retention.samples.get c).getMsbD 0 = decide ((s.chan c).state = .on)
          ∧ (∀ i, i < 7 → (t.retention.samples.get c).getMsbD (i + 1) = (s.retention.samples.get c).getMsbD i)
          ∧ t.retention.fill.get c = min 8 (s.retention.fill.get c + 1))
      ∧ (∀ c, (s.chan c).state = .disabled →
        t.retention.samples.get c = s.retention.samples.get c ∧ t.retention.fill.get c = s.retention.fill.get c)
      ∧ t.retention.outages = s.retention.outages ∧ t.retention.mainPresent = s.retention.mainPresent
      ∧ t.retention.pattern = s.retention.pattern
      ∧ t.history = { s.history with sampleTimer := some (s.image.station.samplePeriod * 100) }
      ∧ (∀ c, sameButOffer (t.chan c) (s.chan c)) ∧ t.starts = s.starts ∧ t.draws = s.draws ∧ t.member = s.member
      ∧ t.engine = s.engine ∧ t.faults = s.faults)
    ∧ ∀ (c : Instr) (s t : State), exec c s = .next t → HistoryLaw s →
      HistoryLaw t
        ∧ (s.live = true → s.history.released = false → t.history.released = true →
          t.history.sampleTimer = some (t.image.station.samplePeriod * 100))

/-! ## Supplies, reset, starts -/

/-- The power-fail warning clears the main-present flag and, in a running part, takes the outputs off, stops sampling and
the channels' timers and holds everything else; a loss of VMAIN discards everything outside the retention domain (log 18)
and clears the flag where the warning had not come (log 19); a loss of VKEEP too leaves the retention contents invalid. FLT
keeps its level through all three. VMAIN above its threshold again lets the start delay run where RSTN is high, releases ABL
and deasserts FLT: a part that kept its power stays in the warning condition with everything held (log 30), any other is
held in reset. RSTN low discards and holds the part in reset (log 18) and deasserts FLT, without power too (log 36); RSTN
released lets the start delay run while VMAIN is good. -/
def Obligations.SuppliesAndReset : Prop :=
  (∀ s : State, s.power.vmain = .good →
    ∃ t, exec .powerFailWarning s = .next t
      ∧ t.power.vmain = .low ∧ t.power.startDelay = none ∧ t.power.phase = s.power.phase
      ∧ t.retention = { s.retention with mainPresent := false }
      ∧ (s.power.phase = .running →
        t.power.warning = true ∧ t.history.released = false ∧ t.history.sampleTimer = none
          ∧ (∀ c, t.chan c =
            { s.chan c with debounceTimer := none, senseGrace := none, shedRest := none, pre := false, main := false })
          ∧ t.starts = s.starts ∧ t.draws = s.draws ∧ t.queue = s.queue ∧ t.engine = s.engine ∧ t.member = s.member
          ∧ t.faults = s.faults ∧ t.bus = s.bus ∧ t.indicators.flt = s.indicators.flt ∧ t.indicators.stat = .off))
    ∧ (∀ s : State, s.power.vmain ≠ .absent →
      ∃ t, exec .vmainLost s = .next t
        ∧ t.power.vmain = .absent ∧ t.power.domain = .vkeep ∧ t.power.phase = .unpowered ∧ t.power.warning = false
        ∧ t.retention =
          { s.retention with mainPresent := if s.power.vmain = .good then false else s.retention.mainPresent }
        ∧ t.starts = [] ∧ t.draws = [] ∧ t.queue = ClaimQueue.atStart ∧ t.engine = Engine.atStart
        ∧ t.member = Membership.atStart ∧ t.loader = Loader.atStart ∧ t.faults.records = [] ∧ t.bus.tx = none
        ∧ t.indicators.flt = s.indicators.flt ∧ t.indicators.stat = .off ∧ ∀ c, t.chan c = Channel.atStart)
    ∧ (∀ s : State,
      ∃ t, exec .retentionLoss s = .next t
        ∧ t.power.vmain = .absent ∧ t.power.domain = .none ∧ t.retention.valid = false
        ∧ (s.power.vmain ≠ .absent ∨ s.power.phase = .unpowered → t.indicators.flt = s.indicators.flt)
        ∧ (s.power.vmain ≠ .absent → t.starts = [] ∧ t.draws = [] ∧ t.power.phase = .unpowered))
    ∧ (∀ s : State, s.power.vmain ≠ .good →
      ∃ t, exec .vmainRise s = .next t
        ∧ t.power.vmain = .good ∧ t.power.domain = .vmain
        ∧ t.power.startDelay = (if s.pins.rstn then some 50 else none) ∧ t.retention = s.retention
        ∧ t.bus.tx = none ∧ t.indicators.flt = false ∧ t.indicators.stat = .off ∧ (∀ c, outsAreOff (t.chan c))
        ∧ (s.power.phase = .running →
          t.power.phase = .running ∧ t.power.warning = true ∧ t.history.released = false ∧ t.history.sampleTimer = none
            ∧ (∀ c, t.chan c =
              { s.chan c with debounceTimer := none, senseGrace := none, shedRest := none, pre := false, main := false })
            ∧ t.starts = s.starts ∧ t.draws = s.draws ∧ t.queue = s.queue ∧ t.engine = s.engine ∧ t.member = s.member
            ∧ t.faults = s.faults ∧ t.answer = s.answer)
        ∧ (s.power.phase ≠ .running →
          t.power.phase = .inReset ∧ t.power.warning = false ∧ t.starts = [] ∧ t.draws = []
            ∧ ∀ c, t.chan c = Channel.atStart))
    ∧ (∀ s : State, s.pins.rstn = true →
      ∃ t, exec .rstnLow s = .next t
        ∧ t.pins = { s.pins with rstn := false } ∧ t.power.startDelay = none ∧ t.power.vmain = s.power.vmain
        ∧ t.retention = s.retention ∧ t.indicators.flt = false
        ∧ (s.power.phase ≠ .unpowered →
          t.power.phase = .inReset ∧ t.power.warning = false ∧ t.starts = [] ∧ t.draws = [] ∧ t.bus.tx = none
            ∧ ∀ c, t.chan c = Channel.atStart))
    ∧ ∀ s : State, s.pins.rstn = false →
      ∃ t, exec .rstnRelease s = .next t
        ∧ t.pins = { s.pins with rstn := true } ∧ t.retention = s.retention ∧ t.power.phase = s.power.phase
        ∧ t.power.startDelay = if s.power.vmain = .good then some 50 else s.power.startDelay

/-- A start decides its kind from the retention contents and the main-present flag, and acts on the contents by the kind:
COLD writes every sample, fill count and the outage count 0 and the validity pattern; OUTAGE keeps samples and fill counts
and raises the outage count, which saturates; PIN keeps all. The main-present flag is set. -/
def Obligations.StartActsByItsKind : Prop :=
  ∀ (straps : Addr) (s : State),
    s.power.phase = .inReset ∨ s.power.phase = .running ∧ s.power.warning = true → s.power.startDelay.isSome = true →
    let valid : Prop := s.retention.pattern = .fixed ∧ ∀ c, s.retention.fill.get c ≤ 8
    ∃ t, exec (.start straps) s = .next t
      ∧ t.retention.mainPresent = true ∧ t.retention.pattern = .fixed
      ∧ (¬valid →
        t.history.startKind = .cold ∧ (∀ c, t.retention.samples.get c = 0) ∧ (∀ c, t.retention.fill.get c = 0)
          ∧ t.retention.outages = 0)
      ∧ (valid → s.retention.mainPresent = false →
        t.history.startKind = .outage ∧ t.retention.samples = s.retention.samples
          ∧ t.retention.fill = s.retention.fill
          ∧ t.retention.outages.val = if s.retention.outages.val = 255 then 255 else s.retention.outages.val + 1)
      ∧ (valid → s.retention.mainPresent = true →
        t.history.startKind = .pin ∧ t.retention.samples = s.retention.samples ∧ t.retention.fill = s.retention.fill
          ∧ t.retention.outages = s.retention.outages)

/-- A start, made from reset or from the warning condition after a recovery, sets every state outside the retention domain
afresh, samples the straps, and begins the image read at addresses 1-30; at 0 and 31 it halts with a CONFIG_BAD record after the START record. -/
def Obligations.StartSamplesTheStraps : Prop :=
  ∀ (straps : Addr) (s : State),
    s.power.phase = .inReset ∨ s.power.phase = .running ∧ s.power.warning = true → s.power.startDelay.isSome = true →
    ∃ t, exec (.start straps) s = .next t
      ∧ t.power.phase = .running ∧ t.power.warning = false ∧ t.power.startDelay = none
      ∧ t.loader.addr = some straps ∧ t.loader.link = [] ∧ t.starts = [] ∧ t.draws = []
      ∧ t.queue = ClaimQueue.atStart ∧ t.engine = Engine.atStart ∧ t.member.roster = [] ∧ t.answer = none
      ∧ t.bus.counters = LinkCounters.atStart ∧ (∀ c, t.chan c = Channel.atStart)
      ∧ t.history.joined = false ∧ t.history.marks = 0 ∧ t.history.released = false
      ∧ (∃ r, t.faults.records.getLast? = some r ∧ r.kind = .start ∧ r.startKind = some t.history.startKind
        ∧ r.number = 0)
      ∧ (straps ≠ 0 → straps ≠ toolAddr →
        t.member.state = .loading ∧ t.loader.phase = .header ∧ t.loader.attempts = 0 ∧ t.faults.records.length = 1
          ∧ t.faults.counter = 1 ∧ t.indicators.flt = false)
      ∧ (straps = 0 ∨ straps = toolAddr →
        t.member.state = .halted ∧ t.loader.result = .haltedGroup ∧ t.indicators.flt = true
          ∧ t.indicators.stat = .doubleFlash ∧ t.faults.records.length = 2
          ∧ ∃ r, t.faults.records.head? = some r ∧ r.kind = .configBad ∧ r.ch = none)

/-! ## Loading -/

/-- The attempts of the image read, and what the loader does on CFG_SCL and CFG_SDA (the record of it is the model's,
log 35): bus check, device address and offset byte 0 written, repeated start, device address to read, the two header bytes
acknowledged, and what was done and read whole before a clock held low. A header that passes goes on to the rest; one that
fails, an attempt that fails and a clock held low too long raise the attempt counter, and the third ends loading in HALTED,
the lines released after a stop condition where the link allows one; the wait over, a new attempt begins from its bus
check. -/
def Obligations.ImageAttemptsAreCounted : Prop :=
  (∀ (tag len : Byte) (clocks : Fin 10) (s : State), s.loading = true → s.loader.phase = .header →
    let check := if clocks = 0 then [] else List.replicate clocks.val LinkOp.clock ++ [.stop]
    let header :=
      s.loader.link ++ check ++ [.start, .send 0xA0#8, .send 0#8, .restart, .send 0xA1#8, .take tag true, .take len true]
    ∃ t, exec (.imageHeaderRead tag len clocks) s = .next t
      ∧ (tag = 0xA4#8 → len = 109#8 → t.loader.phase = .rest ∧ t.loader.bytes = [tag, len] ∧ t.loader.link = header
        ∧ t.loader.attempts = s.loader.attempts ∧ t.member = s.member)
      ∧ (tag ≠ 0xA4#8 ∨ len ≠ 109#8 → attemptFailed s t ∧ t.loader.link = header ++ [.stop, .release]))
    ∧ (∀ (how : LinkFailure) (clocks : Fin 10) (done : Nat) (bytes : List Byte) (s : State), s.loading = true →
      s.loader.phase = .header ∨ s.loader.phase = .rest →
      (∃ t, exec (.imageAttemptFails how) s = .next t ∧ attemptFailed s t
        ∧ t.loader.link
          = s.loader.link ++ (if s.loader.phase = .header then failedLink how else [.stop, .release]))
        ∧ ∃ t, exec (.clockStretchTimeout clocks done bytes) s = .next t ∧ attemptFailed s t
          ∧ t.loader.link
            = s.loader.link
              ++ (if s.loader.phase = .rest then bytes.mapIdx fun i b => LinkOp.take b (decide (i + 1 ≠ 107))
                else if bytes = [] then (openRead clocks).take done
                else openRead clocks ++ (bytes.take 1).map (LinkOp.take · true))
              ++ [.release])
    ∧ ∀ (s : State) (left : Nat), s.loading = true → s.loader.phase = .retryWait left →
      ∃ t, exec .attemptRetryWaitElapsed s = .next t
        ∧ t.loader = { s.loader with phase := .header, bytes := [], link := [] } ∧ t.member = s.member
        ∧ t.faults = s.faults

/-- While the channel records stand as at start, as they do in LOADING (R62; ClaimLaw says so of every step), the read of the
whole image completes: every byte is acknowledged but the last, then a stop condition and both lines released (the record of
the lines is the model's, log 35). It is rejected where tag, length or check fail; halted where its group or station section
fails; else loading ends in LISTEN with the image, its digest, the LISTEN window, a HELLO and the presence timer; every
channel whose record is not enabled or invalid is DISABLED, and every other takes its debounced request, its latch by start
kind, request mode and restore policy, its mark, and its place in the queue where its latch is on. -/
def Obligations.ImageIsJudged : Prop :=
  ∀ (rest : List Byte) (s : State), s.loading = true → s.loader.phase = .rest → (∀ c, s.chan c = Channel.atStart) →
    let bytes := s.loader.bytes ++ rest
    let passes := groupPasses (groupSection bytes) && stationPasses (stationSection bytes)
    ∃ t, exec (.imageReadComplete rest) s = .next t
      ∧ t.starts.map withoutHold = s.starts.map withoutHold ∧ t.draws = s.draws ∧ t.retention = s.retention
      ∧ t.loader.link
        = s.loader.link ++ rest.dropLast.map (LinkOp.take · true) ++ (rest.getLast?.map (LinkOp.take · false)).toList
          ++ [.stop, .release]
      ∧ (imageAccepted bytes = false → attemptFailed s t)
      ∧ (imageAccepted bytes = true → passes = false →
        t.member.state = .halted ∧ t.loader.result = .haltedGroup ∧ t.indicators.flt = true
          ∧ (∀ c, (t.chan c).state = .idle ∧ outsAreOff (t.chan c))
          ∧ ∃ r, t.faults.records.head? = some r ∧ r.kind = .configBad ∧ r.ch = none)
      ∧ (imageAccepted bytes = true → passes = true →
        t.member.state = .listen ∧ t.member.listenWindow = some (3 * ((groupSection bytes).presence * 50))
          ∧ t.member.presenceTimer = some ((groupSection bytes).presence * 50) ∧ t.member.helloDue = true
          ∧ t.loader.result = .running ∧ t.loader.image = some (readImage bytes)
          ∧ t.loader.digest = some (groupDigest bytes) ∧ t.inh = { asserted := s.pins.inh, timer := none }
          ∧ ∀ c,
            (∀ k, (readImage bytes).channels.get c = .enabled k →
              let on :=
                if s.history.startKind = .cold then decide (k.requestMode = .level) && s.pins.req.get c
                else if k.restorePolicy = .off then false
                else if k.restorePolicy = .on then true
                else decide (k.lookBack < s.retention.fill.get c) && (s.retention.samples.get c).getMsbD k.lookBack
              (t.chan c).debounced = s.pins.req.get c ∧ (t.chan c).debounceTimer = none ∧ (t.chan c).latch = on
                ∧ (t.chan c).mark = (on && decide (s.history.startKind ≠ .cold))
                ∧ (on = true → (t.chan c).state = .queued ∧ ∃ e ∈ t.queue.entries, e.ch = c ∧ e.eff = k.urgency)
                ∧ (on = false → (t.chan c).state = .idle))
              ∧ ((readImage bytes).channels.get c = .notEnabled → (t.chan c).state = .disabled)
              ∧ ∀ st, (readImage bytes).channels.get c = .invalid st →
                (t.chan c).state = .disabled
                  ∧ ∃ r ∈ t.faults.records, r.kind = .configBad ∧ r.ch = some c ∧ r.step = st)

/-! ## What only some commands change -/

/-- A HALTED station holds everything but its pins and its view of the line until the next start, its indicators where they
stand as IndicatorLaw says they do; in the power-fail
warning the channels, the engine and the retention domain are held, and no frame is begun. -/
def Obligations.HaltedAndWarnedStationsHold : Prop :=
  ∀ (c : Instr) (s t : State), exec c s = .next t → resets c = false → s.power.phase = .running →
    (s.member.state = .halted →
      t.member = s.member ∧ t.channels = s.channels ∧ t.starts = s.starts ∧ t.draws = s.draws ∧ t.queue = s.queue
        ∧ t.engine = s.engine ∧ t.retention = s.retention ∧ t.history = s.history ∧ t.faults = s.faults
        ∧ t.answer = s.answer ∧ t.loader = s.loader ∧ t.inh = s.inh ∧ t.power = s.power ∧ t.bus.tx = s.bus.tx
        ∧ t.bus.counters = s.bus.counters ∧ t.bus.unackRun = s.bus.unackRun
        ∧ t.bus.releaseVoids = s.bus.releaseVoids ∧ t.bus.degraded = s.bus.degraded
        ∧ (IndicatorLaw s → t.indicators = s.indicators))
      ∧ (s.power.warning = true →
        t.power = s.power ∧ t.engine = s.engine ∧ t.retention = s.retention ∧ (s.bus.tx = none → t.bus.tx = none)
          ∧ ∀ d, (outsAreOff (s.chan d) → outsAreOff (t.chan d))
            ∧ { t.chan d with debounceTimer := none, senseGrace := none, shedRest := none, pre := false, main := false }
              = { s.chan d with
                debounceTimer := none, senseGrace := none, shedRest := none, pre := false, main := false })

/-- The tables change only by accepted frames, but for hold timers and expire-pending marks; the retention domain only by
samples, power fail and starts; supplies and reset only by their own commands; the loaded image only by its read; a frame
changes no pin and not the filtered INH; no command touches the queue of commands, the model's own field. -/
def Obligations.TablesChangeOnlyByFrames : Prop :=
  (∀ (c : Instr) (s t : State), exec c s = .next t → t.pending = s.pending)
    ∧ ∀ (c : Instr) (s t : State), exec c s = .next t → resets c = false →
    (isFrame c = false → t.starts.map withoutHold = s.starts.map withoutHold ∧ t.draws = s.draws)
      ∧ (c ≠ .sampleTimerRunsOut → t.retention = s.retention)
      ∧ t.power = s.power ∧ t.loader.addr = s.loader.addr
      ∧ ((∀ rest, c ≠ .imageReadComplete rest) → t.loader.image = s.loader.image ∧ t.loader.digest = s.loader.digest)
      ∧ (isFrame c = true → t.pins = s.pins ∧ t.inh.asserted = s.inh.asserted)

/-- Fault records are put in front of the list, of which eight stay, and take consecutive record numbers. -/
def Obligations.FaultRecordsAreNumbered : Prop :=
  ∀ (c : Instr) (s t : State), exec c s = .next t → resets c = false → FaultListLaw s →
    ∃ new : List FaultRecord, t.faults.records = (new ++ s.faults.records).take 8
      ∧ t.faults.counter = s.faults.counter + BitVec.ofNat 16 new.length
      ∧ ∀ i r, new[i]? = some r → r.number = s.faults.counter + BitVec.ofNat 16 (new.length - 1 - i)

/-! ## Invariants -/

/-- Every step keeps the Start Table's law and keeps the tables apart. -/
def Obligations.StepKeepsTheTables : Prop :=
  ∀ s t : State, StartTableLaw s → TablesApart s → step s = .next t → StartTableLaw t ∧ TablesApart t

/-- Every step keeps the canonical form of the tables held as lists, the length of the fault list, the address of a
running station, and STAT and FLT at what the state calls for, and leaves no notice over. -/
def Obligations.StepKeepsTheForms : Prop :=
  ∀ s t : State, TablesCanonical s → FaultListLaw s → NoticesTaken s → AddressLaw s → IndicatorLaw s →
    step s = .next t → TablesCanonical t ∧ FaultListLaw t ∧ NoticesTaken t ∧ AddressLaw t ∧ IndicatorLaw t

/-- Every step keeps the laws of channels, queue (its entries, their order and stamps), engine, outputs and transmit
slot. -/
def Obligations.StepKeepsTheChannelLaws : Prop :=
  ∀ s t : State, ChannelLaws s → step s = .next t → ChannelLaws t
end

