-- ==== Sys2Proof/Laws/State.lean ====
section
/-! SUPPORT. What each update of State leaves as it was: one lemma per update, each field a rewriting rule. -/

namespace Sys2Proof.Machine

open Sys2Proof

/-- What `notify` leaves as it was. -/
@[simp] theorem State.notify_keeps (s : State) :
    (s.notify).pending = s.pending ∧ (s.notify).pins = s.pins ∧ (s.notify).power = s.power
      ∧ (s.notify).retention = s.retention ∧ (s.notify).history = s.history ∧ (s.notify).starts = s.starts
      ∧ (s.notify).draws = s.draws ∧ (s.notify).queue = s.queue ∧ (s.notify).channels = s.channels
      ∧ (s.notify).inh = s.inh ∧ (s.notify).engine = s.engine ∧ (s.notify).member = s.member ∧ (s.notify).bus = s.bus
      ∧ (s.notify).loader = s.loader ∧ (s.notify).faults = s.faults ∧ (s.notify).answer = s.answer
      ∧ (s.notify).indicators = s.indicators ∧ (s.notify).freeCount = s.freeCount := by
  repeat' constructor

/-- What `modChan` leaves as it was. -/
@[simp] theorem State.modChan_keeps (s : State) (c : Chan) (f : Channel → Channel) :
    (s.modChan c f).pending = s.pending ∧ (s.modChan c f).pins = s.pins ∧ (s.modChan c f).power = s.power
      ∧ (s.modChan c f).retention = s.retention ∧ (s.modChan c f).history = s.history
      ∧ (s.modChan c f).starts = s.starts ∧ (s.modChan c f).draws = s.draws ∧ (s.modChan c f).queue = s.queue
      ∧ (s.modChan c f).inh = s.inh ∧ (s.modChan c f).engine = s.engine ∧ (s.modChan c f).member = s.member
      ∧ (s.modChan c f).bus = s.bus ∧ (s.modChan c f).loader = s.loader ∧ (s.modChan c f).faults = s.faults
      ∧ (s.modChan c f).answer = s.answer ∧ (s.modChan c f).indicators = s.indicators
      ∧ (s.modChan c f).notice = s.notice ∧ (s.modChan c f).freeCount = s.freeCount := by
  repeat' constructor

/-- What `modPeer` leaves as it was. -/
@[simp] theorem State.modPeer_keeps (s : State) (a : Addr) (f : RosterSlot → RosterSlot) :
    (s.modPeer a f).pending = s.pending ∧ (s.modPeer a f).pins = s.pins ∧ (s.modPeer a f).power = s.power
      ∧ (s.modPeer a f).retention = s.retention ∧ (s.modPeer a f).history = s.history
      ∧ (s.modPeer a f).starts = s.starts ∧ (s.modPeer a f).draws = s.draws ∧ (s.modPeer a f).queue = s.queue
      ∧ (s.modPeer a f).channels = s.channels ∧ (s.modPeer a f).inh = s.inh ∧ (s.modPeer a f).engine = s.engine
      ∧ (s.modPeer a f).bus = s.bus ∧ (s.modPeer a f).loader = s.loader ∧ (s.modPeer a f).faults = s.faults
      ∧ (s.modPeer a f).answer = s.answer ∧ (s.modPeer a f).indicators = s.indicators
      ∧ (s.modPeer a f).notice = s.notice ∧ (s.modPeer a f).freeCount = s.freeCount
      ∧ (s.modPeer a f).member.state = s.member.state ∧ (s.modPeer a f).member.discord = s.member.discord
      ∧ (s.modPeer a f).member.listenWindow = s.member.listenWindow
      ∧ (s.modPeer a f).member.presenceTimer = s.member.presenceTimer
      ∧ (s.modPeer a f).member.presenceDue = s.member.presenceDue
      ∧ (s.modPeer a f).member.helloDue = s.member.helloDue ∧ (s.modPeer a f).member.helloVoids = s.member.helloVoids
      ∧ (s.modPeer a f).member.ownRequest = s.member.ownRequest ∧ (s.modPeer a f).member.ownVoids = s.member.ownVoids
      ∧ (s.modPeer a f).member.ownAccepted = s.member.ownAccepted ∧ (s.modPeer a f).member.awaited = s.member.awaited
      ∧ (s.modPeer a f).member.syncTimeout = s.member.syncTimeout ∧ (s.modPeer a f).member.round = s.member.round := by
  repeat' constructor

/-- What `mapPeers` leaves as it was. -/
@[simp] theorem State.mapPeers_keeps (s : State) (f : Nat → RosterSlot → RosterSlot) :
    (s.mapPeers f).pending = s.pending ∧ (s.mapPeers f).pins = s.pins ∧ (s.mapPeers f).power = s.power
      ∧ (s.mapPeers f).retention = s.retention ∧ (s.mapPeers f).history = s.history ∧ (s.mapPeers f).starts = s.starts
      ∧ (s.mapPeers f).draws = s.draws ∧ (s.mapPeers f).queue = s.queue ∧ (s.mapPeers f).channels = s.channels
      ∧ (s.mapPeers f).inh = s.inh ∧ (s.mapPeers f).engine = s.engine ∧ (s.mapPeers f).bus = s.bus
      ∧ (s.mapPeers f).loader = s.loader ∧ (s.mapPeers f).faults = s.faults ∧ (s.mapPeers f).answer = s.answer
      ∧ (s.mapPeers f).indicators = s.indicators ∧ (s.mapPeers f).notice = s.notice
      ∧ (s.mapPeers f).freeCount = s.freeCount ∧ (s.mapPeers f).member.state = s.member.state
      ∧ (s.mapPeers f).member.discord = s.member.discord ∧ (s.mapPeers f).member.listenWindow = s.member.listenWindow
      ∧ (s.mapPeers f).member.presenceTimer = s.member.presenceTimer
      ∧ (s.mapPeers f).member.presenceDue = s.member.presenceDue ∧ (s.mapPeers f).member.helloDue = s.member.helloDue
      ∧ (s.mapPeers f).member.helloVoids = s.member.helloVoids
      ∧ (s.mapPeers f).member.ownRequest = s.member.ownRequest ∧ (s.mapPeers f).member.ownVoids = s.member.ownVoids
      ∧ (s.mapPeers f).member.ownAccepted = s.member.ownAccepted ∧ (s.mapPeers f).member.awaited = s.member.awaited
      ∧ (s.mapPeers f).member.syncTimeout = s.member.syncTimeout ∧ (s.mapPeers f).member.round = s.member.round := by
  repeat' constructor

/-- What `tally` leaves as it was. -/
@[simp] theorem State.tally_keeps (s : State) (f : LinkCounters → LinkCounters) :
    (s.tally f).pending = s.pending ∧ (s.tally f).pins = s.pins ∧ (s.tally f).power = s.power
      ∧ (s.tally f).retention = s.retention ∧ (s.tally f).history = s.history ∧ (s.tally f).starts = s.starts
      ∧ (s.tally f).draws = s.draws ∧ (s.tally f).queue = s.queue ∧ (s.tally f).channels = s.channels
      ∧ (s.tally f).inh = s.inh ∧ (s.tally f).engine = s.engine ∧ (s.tally f).member = s.member
      ∧ (s.tally f).loader = s.loader ∧ (s.tally f).faults = s.faults ∧ (s.tally f).answer = s.answer
      ∧ (s.tally f).indicators = s.indicators ∧ (s.tally f).notice = s.notice ∧ (s.tally f).freeCount = s.freeCount
      ∧ (s.tally f).bus.lineBusy = s.bus.lineBusy ∧ (s.tally f).bus.receiving = s.bus.receiving
      ∧ (s.tally f).bus.free = s.bus.free ∧ (s.tally f).bus.tx = s.bus.tx ∧ (s.tally f).bus.unackRun = s.bus.unackRun
      ∧ (s.tally f).bus.releaseVoids = s.bus.releaseVoids ∧ (s.tally f).bus.degraded = s.bus.degraded := by
  repeat' constructor

/-- What `log` leaves as it was. -/
@[simp] theorem State.log_keeps (s : State) (k : FaultKind) (c : Option Chan) (i : Option Nat) (p : Option Addr) :
    (s.log k c i p).pending = s.pending ∧ (s.log k c i p).pins = s.pins ∧ (s.log k c i p).power = s.power
      ∧ (s.log k c i p).retention = s.retention ∧ (s.log k c i p).history = s.history
      ∧ (s.log k c i p).starts = s.starts ∧ (s.log k c i p).draws = s.draws ∧ (s.log k c i p).queue = s.queue
      ∧ (s.log k c i p).channels = s.channels ∧ (s.log k c i p).inh = s.inh ∧ (s.log k c i p).engine = s.engine
      ∧ (s.log k c i p).member = s.member ∧ (s.log k c i p).bus = s.bus ∧ (s.log k c i p).loader = s.loader
      ∧ (s.log k c i p).answer = s.answer ∧ (s.log k c i p).indicators = s.indicators
      ∧ (s.log k c i p).notice = s.notice ∧ (s.log k c i p).freeCount = s.freeCount := by
  repeat' constructor

/-- What `outsOff` leaves as it was. -/
@[simp] theorem State.outsOff_keeps (s : State) (c : Chan) :
    (s.outsOff c).pending = s.pending ∧ (s.outsOff c).pins = s.pins ∧ (s.outsOff c).power = s.power
      ∧ (s.outsOff c).retention = s.retention ∧ (s.outsOff c).history = s.history ∧ (s.outsOff c).starts = s.starts
      ∧ (s.outsOff c).draws = s.draws ∧ (s.outsOff c).queue = s.queue ∧ (s.outsOff c).inh = s.inh
      ∧ (s.outsOff c).engine = s.engine ∧ (s.outsOff c).member = s.member ∧ (s.outsOff c).bus = s.bus
      ∧ (s.outsOff c).loader = s.loader ∧ (s.outsOff c).faults = s.faults ∧ (s.outsOff c).answer = s.answer
      ∧ (s.outsOff c).indicators = s.indicators ∧ (s.outsOff c).notice = s.notice
      ∧ (s.outsOff c).freeCount = s.freeCount := by
  repeat' constructor

/-- What `setRelease` leaves as it was. -/
@[simp] theorem State.setRelease_keeps (s : State) (c : Chan) (r : Release) :
    (s.setRelease c r).pending = s.pending ∧ (s.setRelease c r).pins = s.pins ∧ (s.setRelease c r).power = s.power
      ∧ (s.setRelease c r).retention = s.retention ∧ (s.setRelease c r).history = s.history
      ∧ (s.setRelease c r).starts = s.starts ∧ (s.setRelease c r).draws = s.draws ∧ (s.setRelease c r).queue = s.queue
      ∧ (s.setRelease c r).inh = s.inh ∧ (s.setRelease c r).engine = s.engine ∧ (s.setRelease c r).member = s.member
      ∧ (s.setRelease c r).loader = s.loader ∧ (s.setRelease c r).faults = s.faults
      ∧ (s.setRelease c r).answer = s.answer ∧ (s.setRelease c r).indicators = s.indicators
      ∧ (s.setRelease c r).notice = s.notice ∧ (s.setRelease c r).freeCount = s.freeCount
      ∧ (s.setRelease c r).bus.lineBusy = s.bus.lineBusy ∧ (s.setRelease c r).bus.receiving = s.bus.receiving
      ∧ (s.setRelease c r).bus.free = s.bus.free ∧ (s.setRelease c r).bus.tx = s.bus.tx
      ∧ (s.setRelease c r).bus.counters = s.bus.counters ∧ (s.setRelease c r).bus.unackRun = s.bus.unackRun
      ∧ (s.setRelease c r).bus.degraded = s.bus.degraded := by
  repeat' constructor

/-- What `clearRelease` leaves as it was. -/
@[simp] theorem State.clearRelease_keeps (s : State) (c : Chan) :
    (s.clearRelease c).pending = s.pending ∧ (s.clearRelease c).pins = s.pins ∧ (s.clearRelease c).power = s.power
      ∧ (s.clearRelease c).retention = s.retention ∧ (s.clearRelease c).history = s.history
      ∧ (s.clearRelease c).starts = s.starts ∧ (s.clearRelease c).draws = s.draws ∧ (s.clearRelease c).queue = s.queue
      ∧ (s.clearRelease c).inh = s.inh ∧ (s.clearRelease c).engine = s.engine ∧ (s.clearRelease c).member = s.member
      ∧ (s.clearRelease c).loader = s.loader ∧ (s.clearRelease c).faults = s.faults
      ∧ (s.clearRelease c).answer = s.answer ∧ (s.clearRelease c).indicators = s.indicators
      ∧ (s.clearRelease c).freeCount = s.freeCount ∧ (s.clearRelease c).bus.lineBusy = s.bus.lineBusy
      ∧ (s.clearRelease c).bus.receiving = s.bus.receiving ∧ (s.clearRelease c).bus.free = s.bus.free
      ∧ (s.clearRelease c).bus.tx = s.bus.tx ∧ (s.clearRelease c).bus.counters = s.bus.counters
      ∧ (s.clearRelease c).bus.unackRun = s.bus.unackRun ∧ (s.clearRelease c).bus.degraded = s.bus.degraded := by
  repeat' constructor

/-- What `replaceSettled` leaves as it was. -/
@[simp] theorem State.replaceSettled_keeps (s : State) (c : Chan) (r : Release) :
    (s.replaceSettled c r).pending = s.pending ∧ (s.replaceSettled c r).pins = s.pins ∧ (s.replaceSettled c r).power = s.power
      ∧ (s.replaceSettled c r).retention = s.retention ∧ (s.replaceSettled c r).history = s.history
      ∧ (s.replaceSettled c r).starts = s.starts ∧ (s.replaceSettled c r).draws = s.draws ∧ (s.replaceSettled c r).queue = s.queue
      ∧ (s.replaceSettled c r).inh = s.inh ∧ (s.replaceSettled c r).engine = s.engine ∧ (s.replaceSettled c r).member = s.member
      ∧ (s.replaceSettled c r).loader = s.loader ∧ (s.replaceSettled c r).faults = s.faults
      ∧ (s.replaceSettled c r).answer = s.answer ∧ (s.replaceSettled c r).indicators = s.indicators
      ∧ (s.replaceSettled c r).freeCount = s.freeCount ∧ (s.replaceSettled c r).bus.lineBusy = s.bus.lineBusy
      ∧ (s.replaceSettled c r).bus.receiving = s.bus.receiving ∧ (s.replaceSettled c r).bus.free = s.bus.free
      ∧ (s.replaceSettled c r).bus.tx = s.bus.tx ∧ (s.replaceSettled c r).bus.counters = s.bus.counters
      ∧ (s.replaceSettled c r).bus.unackRun = s.bus.unackRun ∧ (s.replaceSettled c r).bus.degraded = s.bus.degraded := by
  repeat' constructor

/-- What `enter` leaves as it was. -/
@[simp] theorem State.enter_keeps (s : State) (c : Chan) (st : ChanState) :
    (s.enter c st).pending = s.pending ∧ (s.enter c st).pins = s.pins ∧ (s.enter c st).power = s.power
      ∧ (s.enter c st).retention = s.retention ∧ (s.enter c st).history = s.history ∧ (s.enter c st).starts = s.starts
      ∧ (s.enter c st).draws = s.draws ∧ (s.enter c st).queue = s.queue ∧ (s.enter c st).inh = s.inh
      ∧ (s.enter c st).engine = s.engine ∧ (s.enter c st).member = s.member ∧ (s.enter c st).bus = s.bus
      ∧ (s.enter c st).loader = s.loader ∧ (s.enter c st).faults = s.faults ∧ (s.enter c st).answer = s.answer
      ∧ (s.enter c st).indicators = s.indicators ∧ (s.enter c st).notice = s.notice
      ∧ (s.enter c st).freeCount = s.freeCount := by
  repeat' constructor

/-- What `reform` leaves as it was. -/
@[simp] theorem State.reform_keeps (s : State) :
    (s.reform).pending = s.pending ∧ (s.reform).pins = s.pins ∧ (s.reform).power = s.power
      ∧ (s.reform).retention = s.retention ∧ (s.reform).history = s.history ∧ (s.reform).starts = s.starts
      ∧ (s.reform).draws = s.draws ∧ (s.reform).channels = s.channels ∧ (s.reform).inh = s.inh
      ∧ (s.reform).engine = s.engine ∧ (s.reform).member = s.member ∧ (s.reform).bus = s.bus
      ∧ (s.reform).loader = s.loader ∧ (s.reform).faults = s.faults ∧ (s.reform).answer = s.answer
      ∧ (s.reform).indicators = s.indicators ∧ (s.reform).notice = s.notice ∧ (s.reform).freeCount = s.freeCount := by
  repeat' constructor

/-- What `modEntry` leaves as it was. -/
@[simp] theorem State.modEntry_keeps (s : State) (c : Chan) (f : QueueEntry → QueueEntry) :
    (s.modEntry c f).pending = s.pending ∧ (s.modEntry c f).pins = s.pins ∧ (s.modEntry c f).power = s.power
      ∧ (s.modEntry c f).retention = s.retention ∧ (s.modEntry c f).history = s.history
      ∧ (s.modEntry c f).starts = s.starts ∧ (s.modEntry c f).draws = s.draws ∧ (s.modEntry c f).channels = s.channels
      ∧ (s.modEntry c f).inh = s.inh ∧ (s.modEntry c f).engine = s.engine ∧ (s.modEntry c f).member = s.member
      ∧ (s.modEntry c f).bus = s.bus ∧ (s.modEntry c f).loader = s.loader ∧ (s.modEntry c f).faults = s.faults
      ∧ (s.modEntry c f).answer = s.answer ∧ (s.modEntry c f).indicators = s.indicators
      ∧ (s.modEntry c f).notice = s.notice ∧ (s.modEntry c f).freeCount = s.freeCount := by
  repeat' constructor

/-- What `leave` leaves as it was. -/
@[simp] theorem State.leave_keeps (s : State) (c : Chan) :
    (s.leave c).pending = s.pending ∧ (s.leave c).pins = s.pins ∧ (s.leave c).power = s.power
      ∧ (s.leave c).retention = s.retention ∧ (s.leave c).history = s.history ∧ (s.leave c).starts = s.starts
      ∧ (s.leave c).draws = s.draws ∧ (s.leave c).channels = s.channels ∧ (s.leave c).inh = s.inh
      ∧ (s.leave c).engine = s.engine ∧ (s.leave c).member = s.member ∧ (s.leave c).loader = s.loader
      ∧ (s.leave c).faults = s.faults ∧ (s.leave c).answer = s.answer ∧ (s.leave c).indicators = s.indicators
      ∧ (s.leave c).freeCount = s.freeCount ∧ (s.leave c).bus.lineBusy = s.bus.lineBusy
      ∧ (s.leave c).bus.receiving = s.bus.receiving ∧ (s.leave c).bus.free = s.bus.free
      ∧ (s.leave c).bus.counters = s.bus.counters ∧ (s.leave c).bus.unackRun = s.bus.unackRun
      ∧ (s.leave c).bus.releaseVoids = s.bus.releaseVoids ∧ (s.leave c).bus.degraded = s.bus.degraded := by
  repeat' constructor

/-- What `requeue` leaves as it was. -/
@[simp] theorem State.requeue_keeps (s : State) (c : Chan) :
    (s.requeue c).pending = s.pending ∧ (s.requeue c).pins = s.pins ∧ (s.requeue c).power = s.power
      ∧ (s.requeue c).retention = s.retention ∧ (s.requeue c).history = s.history ∧ (s.requeue c).starts = s.starts
      ∧ (s.requeue c).draws = s.draws ∧ (s.requeue c).inh = s.inh ∧ (s.requeue c).engine = s.engine
      ∧ (s.requeue c).member = s.member ∧ (s.requeue c).bus = s.bus ∧ (s.requeue c).loader = s.loader
      ∧ (s.requeue c).faults = s.faults ∧ (s.requeue c).answer = s.answer ∧ (s.requeue c).indicators = s.indicators
      ∧ (s.requeue c).notice = s.notice ∧ (s.requeue c).freeCount = s.freeCount := by
  repeat' constructor

/-- What `endShedNeed` leaves as it was. -/
@[simp] theorem State.endShedNeed_keeps (s : State) :
    (s.endShedNeed).pending = s.pending ∧ (s.endShedNeed).pins = s.pins ∧ (s.endShedNeed).power = s.power
      ∧ (s.endShedNeed).retention = s.retention ∧ (s.endShedNeed).history = s.history
      ∧ (s.endShedNeed).starts = s.starts ∧ (s.endShedNeed).draws = s.draws ∧ (s.endShedNeed).channels = s.channels
      ∧ (s.endShedNeed).inh = s.inh ∧ (s.endShedNeed).engine = s.engine ∧ (s.endShedNeed).member = s.member
      ∧ (s.endShedNeed).bus = s.bus ∧ (s.endShedNeed).loader = s.loader ∧ (s.endShedNeed).faults = s.faults
      ∧ (s.endShedNeed).answer = s.answer ∧ (s.endShedNeed).indicators = s.indicators
      ∧ (s.endShedNeed).notice = s.notice ∧ (s.endShedNeed).freeCount = s.freeCount := by
  repeat' constructor

/-- What `forgetRenewals` leaves as it was. -/
@[simp] theorem State.forgetRenewals_keeps (s : State) (c : Chan) :
    (s.forgetRenewals c).pending = s.pending ∧ (s.forgetRenewals c).pins = s.pins
      ∧ (s.forgetRenewals c).power = s.power ∧ (s.forgetRenewals c).retention = s.retention
      ∧ (s.forgetRenewals c).history = s.history ∧ (s.forgetRenewals c).starts = s.starts
      ∧ (s.forgetRenewals c).draws = s.draws ∧ (s.forgetRenewals c).queue = s.queue
      ∧ (s.forgetRenewals c).channels = s.channels ∧ (s.forgetRenewals c).inh = s.inh
      ∧ (s.forgetRenewals c).member = s.member ∧ (s.forgetRenewals c).bus = s.bus
      ∧ (s.forgetRenewals c).loader = s.loader ∧ (s.forgetRenewals c).faults = s.faults
      ∧ (s.forgetRenewals c).answer = s.answer ∧ (s.forgetRenewals c).indicators = s.indicators
      ∧ (s.forgetRenewals c).notice = s.notice ∧ (s.forgetRenewals c).freeCount = s.freeCount := by
  repeat' constructor

/-- What `modStarts` leaves as it was. -/
@[simp] theorem State.modStarts_keeps (s : State) (p : StartEntry → Bool) (f : StartEntry → StartEntry) :
    (s.modStarts p f).pending = s.pending ∧ (s.modStarts p f).pins = s.pins ∧ (s.modStarts p f).power = s.power
      ∧ (s.modStarts p f).retention = s.retention ∧ (s.modStarts p f).history = s.history
      ∧ (s.modStarts p f).draws = s.draws ∧ (s.modStarts p f).queue = s.queue
      ∧ (s.modStarts p f).channels = s.channels ∧ (s.modStarts p f).inh = s.inh ∧ (s.modStarts p f).engine = s.engine
      ∧ (s.modStarts p f).member = s.member ∧ (s.modStarts p f).bus = s.bus ∧ (s.modStarts p f).loader = s.loader
      ∧ (s.modStarts p f).faults = s.faults ∧ (s.modStarts p f).answer = s.answer
      ∧ (s.modStarts p f).indicators = s.indicators ∧ (s.modStarts p f).notice = s.notice
      ∧ (s.modStarts p f).freeCount = s.freeCount := by
  repeat' constructor

/-- What `dropStarts` leaves as it was. -/
@[simp] theorem State.dropStarts_keeps (s : State) (p : StartEntry → Bool) :
    (s.dropStarts p).pending = s.pending ∧ (s.dropStarts p).pins = s.pins ∧ (s.dropStarts p).power = s.power
      ∧ (s.dropStarts p).retention = s.retention ∧ (s.dropStarts p).history = s.history
      ∧ (s.dropStarts p).draws = s.draws ∧ (s.dropStarts p).queue = s.queue ∧ (s.dropStarts p).channels = s.channels
      ∧ (s.dropStarts p).inh = s.inh ∧ (s.dropStarts p).engine = s.engine ∧ (s.dropStarts p).member = s.member
      ∧ (s.dropStarts p).bus = s.bus ∧ (s.dropStarts p).loader = s.loader ∧ (s.dropStarts p).faults = s.faults
      ∧ (s.dropStarts p).answer = s.answer ∧ (s.dropStarts p).indicators = s.indicators
      ∧ (s.dropStarts p).notice = s.notice ∧ (s.dropStarts p).freeCount = s.freeCount := by
  repeat' constructor

/-- What `fillSlot` leaves as it was. -/
@[simp] theorem State.fillSlot_keeps (s : State) (o : Addr) (c : Chan) (d : DrawSlot) :
    (s.fillSlot o c d).pending = s.pending ∧ (s.fillSlot o c d).pins = s.pins ∧ (s.fillSlot o c d).power = s.power
      ∧ (s.fillSlot o c d).retention = s.retention ∧ (s.fillSlot o c d).history = s.history
      ∧ (s.fillSlot o c d).starts = s.starts ∧ (s.fillSlot o c d).queue = s.queue
      ∧ (s.fillSlot o c d).channels = s.channels ∧ (s.fillSlot o c d).inh = s.inh
      ∧ (s.fillSlot o c d).engine = s.engine ∧ (s.fillSlot o c d).member = s.member ∧ (s.fillSlot o c d).bus = s.bus
      ∧ (s.fillSlot o c d).loader = s.loader ∧ (s.fillSlot o c d).faults = s.faults
      ∧ (s.fillSlot o c d).answer = s.answer ∧ (s.fillSlot o c d).indicators = s.indicators
      ∧ (s.fillSlot o c d).notice = s.notice ∧ (s.fillSlot o c d).freeCount = s.freeCount := by
  repeat' constructor

/-- What `emptySlot` leaves as it was. -/
@[simp] theorem State.emptySlot_keeps (s : State) (o : Addr) (c : Chan) :
    (s.emptySlot o c).pending = s.pending ∧ (s.emptySlot o c).pins = s.pins ∧ (s.emptySlot o c).power = s.power
      ∧ (s.emptySlot o c).retention = s.retention ∧ (s.emptySlot o c).history = s.history
      ∧ (s.emptySlot o c).starts = s.starts ∧ (s.emptySlot o c).queue = s.queue
      ∧ (s.emptySlot o c).channels = s.channels ∧ (s.emptySlot o c).inh = s.inh ∧ (s.emptySlot o c).engine = s.engine
      ∧ (s.emptySlot o c).member = s.member ∧ (s.emptySlot o c).bus = s.bus ∧ (s.emptySlot o c).loader = s.loader
      ∧ (s.emptySlot o c).faults = s.faults ∧ (s.emptySlot o c).answer = s.answer
      ∧ (s.emptySlot o c).indicators = s.indicators ∧ (s.emptySlot o c).notice = s.notice
      ∧ (s.emptySlot o c).freeCount = s.freeCount := by
  repeat' constructor

/-- What `judgeStat` leaves as it was. -/
@[simp] theorem State.judgeStat_keeps (s : State) :
    (s.judgeStat).pending = s.pending ∧ (s.judgeStat).pins = s.pins ∧ (s.judgeStat).power = s.power
      ∧ (s.judgeStat).retention = s.retention ∧ (s.judgeStat).history = s.history ∧ (s.judgeStat).starts = s.starts
      ∧ (s.judgeStat).draws = s.draws ∧ (s.judgeStat).queue = s.queue ∧ (s.judgeStat).channels = s.channels
      ∧ (s.judgeStat).inh = s.inh ∧ (s.judgeStat).engine = s.engine ∧ (s.judgeStat).member = s.member
      ∧ (s.judgeStat).bus = s.bus ∧ (s.judgeStat).loader = s.loader ∧ (s.judgeStat).faults = s.faults
      ∧ (s.judgeStat).answer = s.answer ∧ (s.judgeStat).notice = s.notice ∧ (s.judgeStat).freeCount = s.freeCount
      ∧ (s.judgeStat).indicators.flt = s.indicators.flt := by
  unfold State.judgeStat
  split <;> simp

/-- STAT shows the pattern of the state after it was judged (R180). -/
@[simp] theorem State.judgeStat_stat (s : State) : s.judgeStat.indicators.stat = s.statPattern := by
  unfold State.judgeStat
  split
  · next h => exact h.symm
  · rfl

/-- STAT goes on without a break where its pattern stays, and begins afresh where it changes (R180). -/
@[simp] theorem State.judgeStat_elapsed (s : State) :
    s.judgeStat.indicators.elapsed = if s.statPattern = s.indicators.stat then s.indicators.elapsed else 0 := by
  unfold State.judgeStat
  split <;> rfl

/-- What `setMState` leaves as it was. -/
@[simp] theorem State.setMState_keeps (s : State) (m : MState) :
    (s.setMState m).pending = s.pending ∧ (s.setMState m).pins = s.pins ∧ (s.setMState m).power = s.power
      ∧ (s.setMState m).retention = s.retention ∧ (s.setMState m).history = s.history
      ∧ (s.setMState m).starts = s.starts ∧ (s.setMState m).draws = s.draws ∧ (s.setMState m).queue = s.queue
      ∧ (s.setMState m).channels = s.channels ∧ (s.setMState m).inh = s.inh ∧ (s.setMState m).engine = s.engine
      ∧ (s.setMState m).bus = s.bus ∧ (s.setMState m).loader = s.loader ∧ (s.setMState m).faults = s.faults
      ∧ (s.setMState m).answer = s.answer ∧ (s.setMState m).freeCount = s.freeCount
      ∧ (s.setMState m).member = { s.member with state := m } ∧ (s.setMState m).notice = true := by
  simp [State.setMState, State.notify]

/-- What `clearTx` leaves as it was. -/
@[simp] theorem State.clearTx_keeps (s : State) :
    (s.clearTx).pending = s.pending ∧ (s.clearTx).pins = s.pins ∧ (s.clearTx).power = s.power
      ∧ (s.clearTx).retention = s.retention ∧ (s.clearTx).history = s.history ∧ (s.clearTx).starts = s.starts
      ∧ (s.clearTx).draws = s.draws ∧ (s.clearTx).queue = s.queue ∧ (s.clearTx).channels = s.channels
      ∧ (s.clearTx).inh = s.inh ∧ (s.clearTx).engine = s.engine ∧ (s.clearTx).member = s.member
      ∧ (s.clearTx).loader = s.loader ∧ (s.clearTx).faults = s.faults ∧ (s.clearTx).answer = s.answer
      ∧ (s.clearTx).indicators = s.indicators ∧ (s.clearTx).notice = s.notice ∧ (s.clearTx).freeCount = s.freeCount
      ∧ (s.clearTx).bus.lineBusy = s.bus.lineBusy ∧ (s.clearTx).bus.receiving = s.bus.receiving
      ∧ (s.clearTx).bus.free = s.bus.free ∧ (s.clearTx).bus.counters = s.bus.counters
      ∧ (s.clearTx).bus.unackRun = s.bus.unackRun ∧ (s.clearTx).bus.releaseVoids = s.bus.releaseVoids
      ∧ (s.clearTx).bus.degraded = s.bus.degraded := by
  repeat' constructor

/-- What `releaseLine` leaves as it was. -/
@[simp] theorem State.releaseLine_keeps (s : State) :
    (s.releaseLine).pending = s.pending ∧ (s.releaseLine).pins = s.pins ∧ (s.releaseLine).power = s.power
      ∧ (s.releaseLine).retention = s.retention ∧ (s.releaseLine).history = s.history
      ∧ (s.releaseLine).starts = s.starts ∧ (s.releaseLine).draws = s.draws ∧ (s.releaseLine).queue = s.queue
      ∧ (s.releaseLine).channels = s.channels ∧ (s.releaseLine).inh = s.inh ∧ (s.releaseLine).engine = s.engine
      ∧ (s.releaseLine).member = s.member ∧ (s.releaseLine).loader = s.loader ∧ (s.releaseLine).faults = s.faults
      ∧ (s.releaseLine).answer = s.answer ∧ (s.releaseLine).indicators = s.indicators
      ∧ (s.releaseLine).notice = s.notice ∧ (s.releaseLine).freeCount = s.freeCount
      ∧ (s.releaseLine).bus.tx = none ∧ (s.releaseLine).bus.receiving = s.bus.receiving
      ∧ (s.releaseLine).bus.free = s.bus.free ∧ (s.releaseLine).bus.counters = s.bus.counters
      ∧ (s.releaseLine).bus.unackRun = s.bus.unackRun ∧ (s.releaseLine).bus.releaseVoids = s.bus.releaseVoids
      ∧ (s.releaseLine).bus.degraded = s.bus.degraded := by
  repeat' constructor

/-- Bytes read before the image's last are all acknowledged. -/
theorem readBytes_before_last (left : Nat) (bs : List Byte) (h : bs.length < left) :
    readBytes left bs = bs.map (LinkOp.take · true) := by
  induction bs generalizing left with
  | nil => rfl
  | cons b bs ih =>
    simp only [List.length_cons] at h
    simp [readBytes, ih (left - 1) (by omega), show left ≠ 1 by omega]

/-- The rest of the image read to its end: the last byte alone is not acknowledged. -/
theorem readRest_concat (bs : List Byte) (b : Byte) :
    readRest (bs ++ [b]) = bs.map (LinkOp.take · true) ++ [.take b false] := by
  unfold readRest
  induction bs with
  | nil => rfl
  | cons c bs ih =>
    have h : (c :: bs ++ [b]).length - 1 = (bs ++ [b]).length := by simp
    have n : (c :: bs ++ [b]).length ≠ 1 := by simp
    rw [List.cons_append] at h n ⊢
    rw [readBytes, h, ih]
    simp

/-- What `drive` leaves as it was. -/
@[simp] theorem State.drive_keeps (s : State) (ops : List LinkOp) :
    (s.drive ops).pending = s.pending ∧ (s.drive ops).pins = s.pins ∧ (s.drive ops).power = s.power
      ∧ (s.drive ops).retention = s.retention ∧ (s.drive ops).history = s.history ∧ (s.drive ops).starts = s.starts
      ∧ (s.drive ops).draws = s.draws ∧ (s.drive ops).queue = s.queue ∧ (s.drive ops).channels = s.channels
      ∧ (s.drive ops).inh = s.inh ∧ (s.drive ops).engine = s.engine ∧ (s.drive ops).member = s.member
      ∧ (s.drive ops).bus = s.bus ∧ (s.drive ops).faults = s.faults ∧ (s.drive ops).answer = s.answer
      ∧ (s.drive ops).indicators = s.indicators ∧ (s.drive ops).notice = s.notice
      ∧ (s.drive ops).freeCount = s.freeCount
      ∧ (s.drive ops).loader = { s.loader with link := s.loader.link ++ ops } := by
  repeat' constructor

/-- What `frameEnds` leaves as it was. -/
@[simp] theorem State.frameEnds_keeps (s : State) :
    (s.frameEnds).pending = s.pending ∧ (s.frameEnds).pins = s.pins ∧ (s.frameEnds).power = s.power
      ∧ (s.frameEnds).retention = s.retention ∧ (s.frameEnds).history = s.history ∧ (s.frameEnds).starts = s.starts
      ∧ (s.frameEnds).draws = s.draws ∧ (s.frameEnds).queue = s.queue ∧ (s.frameEnds).channels = s.channels
      ∧ (s.frameEnds).inh = s.inh ∧ (s.frameEnds).engine = s.engine ∧ (s.frameEnds).member = s.member
      ∧ (s.frameEnds).loader = s.loader ∧ (s.frameEnds).faults = s.faults ∧ (s.frameEnds).answer = s.answer
      ∧ (s.frameEnds).indicators = s.indicators ∧ (s.frameEnds).notice = s.notice
      ∧ (s.frameEnds).freeCount = s.freeCount ∧ (s.frameEnds).bus.tx = s.bus.tx
      ∧ (s.frameEnds).bus.counters = s.bus.counters ∧ (s.frameEnds).bus.unackRun = s.bus.unackRun
      ∧ (s.frameEnds).bus.releaseVoids = s.bus.releaseVoids ∧ (s.frameEnds).bus.degraded = s.bus.degraded := by
  repeat' constructor

/-- What `writeSeq` leaves as it was. -/
@[simp] theorem State.writeSeq_keeps (s : State) (c : Chan) (q : Seq) :
    (s.writeSeq c q).pending = s.pending ∧ (s.writeSeq c q).pins = s.pins ∧ (s.writeSeq c q).power = s.power
      ∧ (s.writeSeq c q).retention = s.retention ∧ (s.writeSeq c q).history = s.history
      ∧ (s.writeSeq c q).starts = s.starts ∧ (s.writeSeq c q).draws = s.draws ∧ (s.writeSeq c q).queue = s.queue
      ∧ (s.writeSeq c q).inh = s.inh ∧ (s.writeSeq c q).engine = s.engine ∧ (s.writeSeq c q).member = s.member
      ∧ (s.writeSeq c q).bus = s.bus ∧ (s.writeSeq c q).loader = s.loader ∧ (s.writeSeq c q).faults = s.faults
      ∧ (s.writeSeq c q).answer = s.answer ∧ (s.writeSeq c q).indicators = s.indicators
      ∧ (s.writeSeq c q).notice = s.notice ∧ (s.writeSeq c q).freeCount = s.freeCount := by
  repeat' constructor

/-- What `markSlots` leaves as it was. -/
@[simp] theorem State.markSlots_keeps (s : State) (l : List Nat) (m : ShedMark) :
    (s.markSlots l m).pending = s.pending ∧ (s.markSlots l m).pins = s.pins ∧ (s.markSlots l m).power = s.power
      ∧ (s.markSlots l m).retention = s.retention ∧ (s.markSlots l m).history = s.history
      ∧ (s.markSlots l m).starts = s.starts ∧ (s.markSlots l m).queue = s.queue
      ∧ (s.markSlots l m).channels = s.channels ∧ (s.markSlots l m).inh = s.inh ∧ (s.markSlots l m).engine = s.engine
      ∧ (s.markSlots l m).member = s.member ∧ (s.markSlots l m).bus = s.bus ∧ (s.markSlots l m).loader = s.loader
      ∧ (s.markSlots l m).faults = s.faults ∧ (s.markSlots l m).answer = s.answer
      ∧ (s.markSlots l m).indicators = s.indicators ∧ (s.markSlots l m).notice = s.notice
      ∧ (s.markSlots l m).freeCount = s.freeCount := by
  repeat' constructor

/-- What `beginFrame` leaves as it was. -/
@[simp] theorem State.beginFrame_keeps (s : State) (src : Source) (f : Frame) :
    (s.beginFrame src f).pending = s.pending ∧ (s.beginFrame src f).pins = s.pins
      ∧ (s.beginFrame src f).power = s.power ∧ (s.beginFrame src f).retention = s.retention
      ∧ (s.beginFrame src f).history = s.history ∧ (s.beginFrame src f).starts = s.starts
      ∧ (s.beginFrame src f).draws = s.draws ∧ (s.beginFrame src f).queue = s.queue
      ∧ (s.beginFrame src f).channels = s.channels ∧ (s.beginFrame src f).inh = s.inh
      ∧ (s.beginFrame src f).engine = s.engine ∧ (s.beginFrame src f).member = s.member
      ∧ (s.beginFrame src f).loader = s.loader ∧ (s.beginFrame src f).faults = s.faults
      ∧ (s.beginFrame src f).answer = s.answer ∧ (s.beginFrame src f).indicators = s.indicators
      ∧ (s.beginFrame src f).notice = s.notice ∧ (s.beginFrame src f).freeCount = s.freeCount
      ∧ (s.beginFrame src f).bus.counters = s.bus.counters ∧ (s.beginFrame src f).bus.unackRun = s.bus.unackRun
      ∧ (s.beginFrame src f).bus.releaseVoids = s.bus.releaseVoids
      ∧ (s.beginFrame src f).bus.degraded = s.bus.degraded := by
  repeat' constructor

/-- What `refresh` leaves as it was. -/
@[simp] theorem State.refresh_keeps (s : State) :
    (s.refresh).pending = s.pending ∧ (s.refresh).pins = s.pins ∧ (s.refresh).power = s.power
      ∧ (s.refresh).retention = s.retention ∧ (s.refresh).history = s.history ∧ (s.refresh).starts = s.starts
      ∧ (s.refresh).draws = s.draws ∧ (s.refresh).queue = s.queue ∧ (s.refresh).channels = s.channels
      ∧ (s.refresh).inh = s.inh ∧ (s.refresh).engine = s.engine ∧ (s.refresh).member = s.member
      ∧ (s.refresh).bus = s.bus ∧ (s.refresh).loader = s.loader ∧ (s.refresh).faults = s.faults
      ∧ (s.refresh).answer = s.answer ∧ (s.refresh).notice = s.notice ∧ (s.refresh).freeCount = s.freeCount := by
  simp [State.refresh]

/-- What `beginRound` leaves as it was. -/
@[simp] theorem State.beginRound_keeps (s : State) :
    (s.beginRound).pending = s.pending ∧ (s.beginRound).pins = s.pins ∧ (s.beginRound).power = s.power
      ∧ (s.beginRound).retention = s.retention ∧ (s.beginRound).history = s.history ∧ (s.beginRound).starts = s.starts
      ∧ (s.beginRound).draws = s.draws ∧ (s.beginRound).queue = s.queue ∧ (s.beginRound).channels = s.channels
      ∧ (s.beginRound).inh = s.inh ∧ (s.beginRound).engine = s.engine ∧ (s.beginRound).bus = s.bus
      ∧ (s.beginRound).loader = s.loader ∧ (s.beginRound).faults = s.faults ∧ (s.beginRound).answer = s.answer
      ∧ (s.beginRound).indicators = s.indicators ∧ (s.beginRound).notice = s.notice
      ∧ (s.beginRound).freeCount = s.freeCount ∧ (s.beginRound).member.state = s.member.state
      ∧ (s.beginRound).member.roster = s.member.roster ∧ (s.beginRound).member.discord = s.member.discord
      ∧ (s.beginRound).member.listenWindow = s.member.listenWindow
      ∧ (s.beginRound).member.presenceTimer = s.member.presenceTimer
      ∧ (s.beginRound).member.presenceDue = s.member.presenceDue ∧ (s.beginRound).member.helloDue = s.member.helloDue
      ∧ (s.beginRound).member.helloVoids = s.member.helloVoids
      ∧ (s.beginRound).member.ownRequest = s.member.ownRequest ∧ (s.beginRound).member.ownVoids = s.member.ownVoids
      ∧ (s.beginRound).member.ownAccepted = s.member.ownAccepted ∧ (s.beginRound).member.awaited = s.member.awaited
      ∧ (s.beginRound).member.syncTimeout = s.member.syncTimeout := by
  repeat' constructor

/-- What `roundSent` leaves as it was. -/
@[simp] theorem State.roundSent_keeps (s : State) (c : Chan) :
    (s.roundSent c).pending = s.pending ∧ (s.roundSent c).pins = s.pins ∧ (s.roundSent c).power = s.power
      ∧ (s.roundSent c).retention = s.retention ∧ (s.roundSent c).history = s.history
      ∧ (s.roundSent c).starts = s.starts ∧ (s.roundSent c).draws = s.draws ∧ (s.roundSent c).queue = s.queue
      ∧ (s.roundSent c).channels = s.channels ∧ (s.roundSent c).inh = s.inh ∧ (s.roundSent c).engine = s.engine
      ∧ (s.roundSent c).bus = s.bus ∧ (s.roundSent c).loader = s.loader ∧ (s.roundSent c).faults = s.faults
      ∧ (s.roundSent c).answer = s.answer ∧ (s.roundSent c).indicators = s.indicators
      ∧ (s.roundSent c).notice = s.notice ∧ (s.roundSent c).freeCount = s.freeCount
      ∧ (s.roundSent c).member.state = s.member.state ∧ (s.roundSent c).member.roster = s.member.roster
      ∧ (s.roundSent c).member.discord = s.member.discord
      ∧ (s.roundSent c).member.listenWindow = s.member.listenWindow
      ∧ (s.roundSent c).member.presenceTimer = s.member.presenceTimer
      ∧ (s.roundSent c).member.presenceDue = s.member.presenceDue
      ∧ (s.roundSent c).member.helloDue = s.member.helloDue ∧ (s.roundSent c).member.helloVoids = s.member.helloVoids
      ∧ (s.roundSent c).member.ownRequest = s.member.ownRequest ∧ (s.roundSent c).member.ownVoids = s.member.ownVoids
      ∧ (s.roundSent c).member.ownAccepted = s.member.ownAccepted ∧ (s.roundSent c).member.awaited = s.member.awaited
      ∧ (s.roundSent c).member.syncTimeout = s.member.syncTimeout := by
  repeat' constructor

/-- What `markUnconfirmed` leaves as it was. -/
@[simp] theorem State.markUnconfirmed_keeps (s : State) (t : Addr) :
    (s.markUnconfirmed t).pending = s.pending ∧ (s.markUnconfirmed t).pins = s.pins
      ∧ (s.markUnconfirmed t).power = s.power ∧ (s.markUnconfirmed t).retention = s.retention
      ∧ (s.markUnconfirmed t).history = s.history ∧ (s.markUnconfirmed t).queue = s.queue
      ∧ (s.markUnconfirmed t).channels = s.channels ∧ (s.markUnconfirmed t).inh = s.inh
      ∧ (s.markUnconfirmed t).engine = s.engine ∧ (s.markUnconfirmed t).member = s.member
      ∧ (s.markUnconfirmed t).bus = s.bus ∧ (s.markUnconfirmed t).loader = s.loader
      ∧ (s.markUnconfirmed t).faults = s.faults ∧ (s.markUnconfirmed t).answer = s.answer
      ∧ (s.markUnconfirmed t).indicators = s.indicators ∧ (s.markUnconfirmed t).notice = s.notice
      ∧ (s.markUnconfirmed t).freeCount = s.freeCount := by
  repeat' constructor

/-- What `markOwed` leaves as it was. -/
@[simp] theorem State.markOwed_keeps (s : State) (t : Addr) :
    (s.markOwed t).pending = s.pending ∧ (s.markOwed t).pins = s.pins ∧ (s.markOwed t).power = s.power
      ∧ (s.markOwed t).retention = s.retention ∧ (s.markOwed t).history = s.history ∧ (s.markOwed t).starts = s.starts
      ∧ (s.markOwed t).draws = s.draws ∧ (s.markOwed t).queue = s.queue ∧ (s.markOwed t).channels = s.channels
      ∧ (s.markOwed t).inh = s.inh ∧ (s.markOwed t).engine = s.engine ∧ (s.markOwed t).bus = s.bus
      ∧ (s.markOwed t).loader = s.loader ∧ (s.markOwed t).faults = s.faults ∧ (s.markOwed t).answer = s.answer
      ∧ (s.markOwed t).indicators = s.indicators ∧ (s.markOwed t).notice = s.notice
      ∧ (s.markOwed t).freeCount = s.freeCount ∧ (s.markOwed t).member.state = s.member.state
      ∧ (s.markOwed t).member.discord = s.member.discord ∧ (s.markOwed t).member.listenWindow = s.member.listenWindow
      ∧ (s.markOwed t).member.presenceTimer = s.member.presenceTimer
      ∧ (s.markOwed t).member.presenceDue = s.member.presenceDue ∧ (s.markOwed t).member.helloDue = s.member.helloDue
      ∧ (s.markOwed t).member.helloVoids = s.member.helloVoids
      ∧ (s.markOwed t).member.ownRequest = s.member.ownRequest ∧ (s.markOwed t).member.ownVoids = s.member.ownVoids
      ∧ (s.markOwed t).member.ownAccepted = s.member.ownAccepted ∧ (s.markOwed t).member.awaited = s.member.awaited
      ∧ (s.markOwed t).member.syncTimeout = s.member.syncTimeout ∧ (s.markOwed t).member.round = s.member.round := by
  repeat' constructor

/-- What `requestAccepted` leaves as it was. -/
@[simp] theorem State.requestAccepted_keeps (s : State) (t : Addr) :
    (s.requestAccepted t).pending = s.pending ∧ (s.requestAccepted t).pins = s.pins
      ∧ (s.requestAccepted t).power = s.power ∧ (s.requestAccepted t).retention = s.retention
      ∧ (s.requestAccepted t).history = s.history ∧ (s.requestAccepted t).starts = s.starts
      ∧ (s.requestAccepted t).draws = s.draws ∧ (s.requestAccepted t).queue = s.queue
      ∧ (s.requestAccepted t).channels = s.channels ∧ (s.requestAccepted t).inh = s.inh
      ∧ (s.requestAccepted t).engine = s.engine ∧ (s.requestAccepted t).bus = s.bus
      ∧ (s.requestAccepted t).loader = s.loader ∧ (s.requestAccepted t).faults = s.faults
      ∧ (s.requestAccepted t).answer = s.answer ∧ (s.requestAccepted t).indicators = s.indicators
      ∧ (s.requestAccepted t).notice = s.notice ∧ (s.requestAccepted t).freeCount = s.freeCount
      ∧ (s.requestAccepted t).member.state = s.member.state ∧ (s.requestAccepted t).member.roster = s.member.roster
      ∧ (s.requestAccepted t).member.discord = s.member.discord
      ∧ (s.requestAccepted t).member.listenWindow = s.member.listenWindow
      ∧ (s.requestAccepted t).member.presenceTimer = s.member.presenceTimer
      ∧ (s.requestAccepted t).member.presenceDue = s.member.presenceDue
      ∧ (s.requestAccepted t).member.helloDue = s.member.helloDue
      ∧ (s.requestAccepted t).member.helloVoids = s.member.helloVoids
      ∧ (s.requestAccepted t).member.ownVoids = s.member.ownVoids
      ∧ (s.requestAccepted t).member.round = s.member.round := by
  repeat' constructor

/-- What `countObjection` leaves as it was. -/
@[simp] theorem State.countObjection_keeps (s : State) :
    (s.countObjection).pending = s.pending ∧ (s.countObjection).pins = s.pins ∧ (s.countObjection).power = s.power
      ∧ (s.countObjection).retention = s.retention ∧ (s.countObjection).history = s.history
      ∧ (s.countObjection).starts = s.starts ∧ (s.countObjection).draws = s.draws ∧ (s.countObjection).queue = s.queue
      ∧ (s.countObjection).channels = s.channels ∧ (s.countObjection).inh = s.inh
      ∧ (s.countObjection).engine = s.engine ∧ (s.countObjection).member = s.member
      ∧ (s.countObjection).loader = s.loader ∧ (s.countObjection).faults = s.faults
      ∧ (s.countObjection).answer = s.answer ∧ (s.countObjection).indicators = s.indicators
      ∧ (s.countObjection).notice = s.notice ∧ (s.countObjection).freeCount = s.freeCount
      ∧ (s.countObjection).bus.lineBusy = s.bus.lineBusy ∧ (s.countObjection).bus.receiving = s.bus.receiving
      ∧ (s.countObjection).bus.free = s.bus.free ∧ (s.countObjection).bus.tx = s.bus.tx
      ∧ (s.countObjection).bus.unackRun = s.bus.unackRun ∧ (s.countObjection).bus.releaseVoids = s.bus.releaseVoids
      ∧ (s.countObjection).bus.degraded = s.bus.degraded := by
  repeat' constructor

end Sys2Proof.Machine
end

