-- ==== Sys2Proof/Laws/Ops.lean ====
section
/-! SUPPORT. What the shared operations leave as it was, however they branch: tables, pins, supplies, retention domain and
loader by all of them; more as each says. -/

namespace Sys2Proof.Machine

open Sys2Proof

/-- What `judgeSampling` leaves as it was. -/
@[simp] theorem State.judgeSampling_keeps (s : State) :
    (s.judgeSampling).pending = s.pending ∧ (s.judgeSampling).pins = s.pins ∧ (s.judgeSampling).power = s.power
      ∧ (s.judgeSampling).retention = s.retention ∧ (s.judgeSampling).starts = s.starts
      ∧ (s.judgeSampling).draws = s.draws ∧ (s.judgeSampling).loader = s.loader ∧ (s.judgeSampling).answer = s.answer
      ∧ (s.judgeSampling).freeCount = s.freeCount ∧ (s.judgeSampling).member = s.member
      ∧ (s.judgeSampling).faults = s.faults ∧ (s.judgeSampling).engine = s.engine ∧ (s.judgeSampling).inh = s.inh
      ∧ (s.judgeSampling).channels = s.channels ∧ (s.judgeSampling).queue = s.queue ∧ (s.judgeSampling).bus = s.bus
      ∧ (s.judgeSampling).indicators = s.indicators ∧ (s.judgeSampling).notice = s.notice := by
  unfold State.judgeSampling
  try dsimp only
  repeat' split
  all_goals simp

/-- What `clearMark` leaves as it was. -/
@[simp] theorem State.clearMark_keeps (s : State) (c : Chan) :
    (s.clearMark c).pending = s.pending ∧ (s.clearMark c).pins = s.pins ∧ (s.clearMark c).power = s.power
      ∧ (s.clearMark c).retention = s.retention ∧ (s.clearMark c).starts = s.starts ∧ (s.clearMark c).draws = s.draws
      ∧ (s.clearMark c).loader = s.loader ∧ (s.clearMark c).answer = s.answer
      ∧ (s.clearMark c).freeCount = s.freeCount ∧ (s.clearMark c).member = s.member
      ∧ (s.clearMark c).faults = s.faults ∧ (s.clearMark c).engine = s.engine ∧ (s.clearMark c).inh = s.inh
      ∧ (s.clearMark c).bus = s.bus ∧ (s.clearMark c).indicators = s.indicators := by
  unfold State.clearMark
  try dsimp only
  repeat' split
  all_goals simp

/-- What `join` leaves as it was. -/
@[simp] theorem State.join_keeps (s : State) (c : Chan) :
    (s.join c).pending = s.pending ∧ (s.join c).pins = s.pins ∧ (s.join c).power = s.power
      ∧ (s.join c).retention = s.retention ∧ (s.join c).starts = s.starts ∧ (s.join c).draws = s.draws
      ∧ (s.join c).loader = s.loader ∧ (s.join c).answer = s.answer ∧ (s.join c).freeCount = s.freeCount
      ∧ (s.join c).member = s.member ∧ (s.join c).faults = s.faults ∧ (s.join c).engine = s.engine
      ∧ (s.join c).inh = s.inh ∧ (s.join c).bus = s.bus ∧ (s.join c).indicators = s.indicators
      ∧ (s.join c).history = s.history := by
  unfold State.join
  try dsimp only
  repeat' split
  all_goals simp

/-- What `withdrawBehind` leaves as it was. -/
@[simp] theorem State.withdrawBehind_keeps (s : State) (l : List QueueEntry) :
    (s.withdrawBehind l).pending = s.pending ∧ (s.withdrawBehind l).pins = s.pins
      ∧ (s.withdrawBehind l).power = s.power ∧ (s.withdrawBehind l).retention = s.retention
      ∧ (s.withdrawBehind l).starts = s.starts ∧ (s.withdrawBehind l).draws = s.draws
      ∧ (s.withdrawBehind l).loader = s.loader ∧ (s.withdrawBehind l).answer = s.answer
      ∧ (s.withdrawBehind l).freeCount = s.freeCount ∧ (s.withdrawBehind l).member = s.member
      ∧ (s.withdrawBehind l).faults = s.faults ∧ (s.withdrawBehind l).engine = s.engine
      ∧ (s.withdrawBehind l).inh = s.inh ∧ (s.withdrawBehind l).bus = s.bus
      ∧ (s.withdrawBehind l).indicators = s.indicators ∧ (s.withdrawBehind l).history = s.history
      ∧ (s.withdrawBehind l).notice = s.notice := by
  induction l generalizing s with
  | nil => simp [State.withdrawBehind]
  | cons e es ih =>
    unfold State.withdrawBehind
    split <;> simp [ih]

/-- What `judgeShedNeed` leaves as it was. -/
@[simp] theorem State.judgeShedNeed_keeps (s : State) (e : QueueEntry) :
    (s.judgeShedNeed e).pending = s.pending ∧ (s.judgeShedNeed e).pins = s.pins ∧ (s.judgeShedNeed e).power = s.power
      ∧ (s.judgeShedNeed e).retention = s.retention ∧ (s.judgeShedNeed e).starts = s.starts
      ∧ (s.judgeShedNeed e).draws = s.draws ∧ (s.judgeShedNeed e).loader = s.loader
      ∧ (s.judgeShedNeed e).answer = s.answer ∧ (s.judgeShedNeed e).freeCount = s.freeCount
      ∧ (s.judgeShedNeed e).member = s.member ∧ (s.judgeShedNeed e).faults = s.faults
      ∧ (s.judgeShedNeed e).engine = s.engine ∧ (s.judgeShedNeed e).inh = s.inh ∧ (s.judgeShedNeed e).bus = s.bus
      ∧ (s.judgeShedNeed e).indicators = s.indicators ∧ (s.judgeShedNeed e).history = s.history
      ∧ (s.judgeShedNeed e).notice = s.notice ∧ (s.judgeShedNeed e).channels = s.channels := by
  unfold State.judgeShedNeed
  try dsimp only
  repeat' split
  all_goals simp

/-- What `judgeHead` leaves as it was. -/
@[simp] theorem State.judgeHead_keeps (s : State) :
    (s.judgeHead).pending = s.pending ∧ (s.judgeHead).pins = s.pins ∧ (s.judgeHead).power = s.power
      ∧ (s.judgeHead).retention = s.retention ∧ (s.judgeHead).starts = s.starts ∧ (s.judgeHead).draws = s.draws
      ∧ (s.judgeHead).loader = s.loader ∧ (s.judgeHead).answer = s.answer ∧ (s.judgeHead).freeCount = s.freeCount
      ∧ (s.judgeHead).member = s.member ∧ (s.judgeHead).faults = s.faults ∧ (s.judgeHead).engine = s.engine
      ∧ (s.judgeHead).inh = s.inh ∧ (s.judgeHead).bus = s.bus ∧ (s.judgeHead).indicators = s.indicators
      ∧ (s.judgeHead).history = s.history ∧ (s.judgeHead).notice = s.notice := by
  unfold State.judgeHead
  try dsimp only
  repeat' split
  all_goals simp

/-- What `evaluate` leaves as it was. -/
@[simp] theorem State.evaluate_keeps (s : State) :
    (s.evaluate).pending = s.pending ∧ (s.evaluate).pins = s.pins ∧ (s.evaluate).power = s.power
      ∧ (s.evaluate).retention = s.retention ∧ (s.evaluate).starts = s.starts ∧ (s.evaluate).draws = s.draws
      ∧ (s.evaluate).loader = s.loader ∧ (s.evaluate).answer = s.answer ∧ (s.evaluate).freeCount = s.freeCount
      ∧ (s.evaluate).member = s.member ∧ (s.evaluate).faults = s.faults ∧ (s.evaluate).engine = s.engine
      ∧ (s.evaluate).inh = s.inh ∧ (s.evaluate).bus = s.bus ∧ (s.evaluate).indicators = s.indicators
      ∧ (s.evaluate).history = s.history ∧ (s.evaluate).notice = s.notice := by
  unfold State.evaluate
  try dsimp only
  all_goals simp

/-- What `deferredJoin` leaves as it was. -/
@[simp] theorem State.deferredJoin_keeps (s : State) (c : Chan) :
    (s.deferredJoin c).pending = s.pending ∧ (s.deferredJoin c).pins = s.pins ∧ (s.deferredJoin c).power = s.power
      ∧ (s.deferredJoin c).retention = s.retention ∧ (s.deferredJoin c).starts = s.starts
      ∧ (s.deferredJoin c).draws = s.draws ∧ (s.deferredJoin c).loader = s.loader
      ∧ (s.deferredJoin c).answer = s.answer ∧ (s.deferredJoin c).freeCount = s.freeCount
      ∧ (s.deferredJoin c).member = s.member ∧ (s.deferredJoin c).faults = s.faults
      ∧ (s.deferredJoin c).engine = s.engine ∧ (s.deferredJoin c).inh = s.inh ∧ (s.deferredJoin c).bus = s.bus
      ∧ (s.deferredJoin c).indicators = s.indicators ∧ (s.deferredJoin c).history = s.history := by
  unfold State.deferredJoin
  try dsimp only
  repeat' split
  all_goals simp

/-- What `completeRecipe` leaves as it was. -/
@[simp] theorem State.completeRecipe_keeps (s : State) (c : Chan) :
    (s.completeRecipe c).pending = s.pending ∧ (s.completeRecipe c).pins = s.pins
      ∧ (s.completeRecipe c).power = s.power ∧ (s.completeRecipe c).retention = s.retention
      ∧ (s.completeRecipe c).starts = s.starts ∧ (s.completeRecipe c).draws = s.draws
      ∧ (s.completeRecipe c).loader = s.loader ∧ (s.completeRecipe c).answer = s.answer
      ∧ (s.completeRecipe c).freeCount = s.freeCount ∧ (s.completeRecipe c).member = s.member
      ∧ (s.completeRecipe c).faults = s.faults ∧ (s.completeRecipe c).inh = s.inh
      ∧ (s.completeRecipe c).queue = s.queue ∧ (s.completeRecipe c).history = s.history := by
  unfold State.completeRecipe
  try dsimp only
  all_goals simp

/-- What `failRecipe` leaves as it was. -/
@[simp] theorem State.failRecipe_keeps (s : State) (c : Chan) (i : Nat) :
    (s.failRecipe c i).pending = s.pending ∧ (s.failRecipe c i).pins = s.pins ∧ (s.failRecipe c i).power = s.power
      ∧ (s.failRecipe c i).retention = s.retention ∧ (s.failRecipe c i).starts = s.starts
      ∧ (s.failRecipe c i).draws = s.draws ∧ (s.failRecipe c i).loader = s.loader
      ∧ (s.failRecipe c i).answer = s.answer ∧ (s.failRecipe c i).freeCount = s.freeCount
      ∧ (s.failRecipe c i).member = s.member ∧ (s.failRecipe c i).inh = s.inh := by
  unfold State.failRecipe
  try dsimp only
  all_goals simp

/-- What `takeSteps` leaves as it was. -/
@[simp] theorem State.takeSteps_keeps (s : State) (c : Chan) (i : Nat) :
    (s.takeSteps c i).pending = s.pending ∧ (s.takeSteps c i).pins = s.pins ∧ (s.takeSteps c i).power = s.power
      ∧ (s.takeSteps c i).retention = s.retention ∧ (s.takeSteps c i).starts = s.starts
      ∧ (s.takeSteps c i).draws = s.draws ∧ (s.takeSteps c i).loader = s.loader ∧ (s.takeSteps c i).answer = s.answer
      ∧ (s.takeSteps c i).freeCount = s.freeCount ∧ (s.takeSteps c i).member = s.member
      ∧ (s.takeSteps c i).inh = s.inh := by
  unfold State.takeSteps
  try dsimp only
  repeat' split
  all_goals simp

/-- What `beginStart` leaves as it was. -/
@[simp] theorem State.beginStart_keeps (s : State) (c : Chan) :
    (s.beginStart c).pending = s.pending ∧ (s.beginStart c).pins = s.pins ∧ (s.beginStart c).power = s.power
      ∧ (s.beginStart c).retention = s.retention ∧ (s.beginStart c).starts = s.starts
      ∧ (s.beginStart c).draws = s.draws ∧ (s.beginStart c).loader = s.loader ∧ (s.beginStart c).answer = s.answer
      ∧ (s.beginStart c).freeCount = s.freeCount ∧ (s.beginStart c).member = s.member ∧ (s.beginStart c).inh = s.inh := by
  unfold State.beginStart
  try dsimp only
  all_goals simp

/-- What `suspend` leaves as it was. -/
@[simp] theorem State.suspend_keeps (s : State) (c : Chan) (n : Nat) (l : Option Nat) :
    (s.suspend c n l).pending = s.pending ∧ (s.suspend c n l).pins = s.pins ∧ (s.suspend c n l).power = s.power
      ∧ (s.suspend c n l).retention = s.retention ∧ (s.suspend c n l).starts = s.starts
      ∧ (s.suspend c n l).draws = s.draws ∧ (s.suspend c n l).loader = s.loader ∧ (s.suspend c n l).answer = s.answer
      ∧ (s.suspend c n l).freeCount = s.freeCount ∧ (s.suspend c n l).member = s.member
      ∧ (s.suspend c n l).inh = s.inh ∧ (s.suspend c n l).faults = s.faults ∧ (s.suspend c n l).queue = s.queue
      ∧ (s.suspend c n l).bus = s.bus ∧ (s.suspend c n l).history = s.history := by
  unfold State.suspend
  try dsimp only
  repeat' split
  all_goals simp

/-- What `resume` leaves as it was. -/
@[simp] theorem State.resume_keeps (s : State) (r : Context) :
    (s.resume r).pending = s.pending ∧ (s.resume r).pins = s.pins ∧ (s.resume r).power = s.power
      ∧ (s.resume r).retention = s.retention ∧ (s.resume r).starts = s.starts ∧ (s.resume r).draws = s.draws
      ∧ (s.resume r).loader = s.loader ∧ (s.resume r).answer = s.answer ∧ (s.resume r).freeCount = s.freeCount
      ∧ (s.resume r).member = s.member ∧ (s.resume r).inh = s.inh := by
  unfold State.resume
  try dsimp only
  repeat' split
  all_goals simp

/-- What `freeLoop` leaves as it was. -/
@[simp] theorem State.freeLoop_keeps (n : Nat) (s : State) :
    (State.freeLoop n s).pending = s.pending ∧ (State.freeLoop n s).pins = s.pins
      ∧ (State.freeLoop n s).power = s.power ∧ (State.freeLoop n s).retention = s.retention
      ∧ (State.freeLoop n s).starts = s.starts ∧ (State.freeLoop n s).draws = s.draws
      ∧ (State.freeLoop n s).loader = s.loader ∧ (State.freeLoop n s).answer = s.answer
      ∧ (State.freeLoop n s).freeCount = s.freeCount ∧ (State.freeLoop n s).member = s.member
      ∧ (State.freeLoop n s).inh = s.inh := by
  induction n generalizing s with
  | zero => simp [State.freeLoop]
  | succ n ih =>
    unfold State.freeLoop
    split
    · simp
    · split
      · simp [ih]
      · split <;> simp [ih]

/-- What `freeEngine` leaves as it was. -/
@[simp] theorem State.freeEngine_keeps (s : State) :
    (s.freeEngine).pending = s.pending ∧ (s.freeEngine).pins = s.pins ∧ (s.freeEngine).power = s.power
      ∧ (s.freeEngine).retention = s.retention ∧ (s.freeEngine).starts = s.starts ∧ (s.freeEngine).draws = s.draws
      ∧ (s.freeEngine).loader = s.loader ∧ (s.freeEngine).answer = s.answer ∧ (s.freeEngine).freeCount = s.freeCount
      ∧ (s.freeEngine).member = s.member ∧ (s.freeEngine).inh = s.inh := by
  unfold State.freeEngine
  split <;> simp

/-- What `stepCompletes` leaves as it was. -/
@[simp] theorem State.stepCompletes_keeps (s : State) (r : RunSlot) :
    (s.stepCompletes r).pending = s.pending ∧ (s.stepCompletes r).pins = s.pins ∧ (s.stepCompletes r).power = s.power
      ∧ (s.stepCompletes r).retention = s.retention ∧ (s.stepCompletes r).starts = s.starts
      ∧ (s.stepCompletes r).draws = s.draws ∧ (s.stepCompletes r).loader = s.loader
      ∧ (s.stepCompletes r).answer = s.answer ∧ (s.stepCompletes r).freeCount = s.freeCount
      ∧ (s.stepCompletes r).member = s.member ∧ (s.stepCompletes r).inh = s.inh := by
  unfold State.stepCompletes
  try dsimp only
  repeat' split
  all_goals simp

/-- What `stepFails` leaves as it was. -/
@[simp] theorem State.stepFails_keeps (s : State) (r : RunSlot) :
    (s.stepFails r).pending = s.pending ∧ (s.stepFails r).pins = s.pins ∧ (s.stepFails r).power = s.power
      ∧ (s.stepFails r).retention = s.retention ∧ (s.stepFails r).starts = s.starts ∧ (s.stepFails r).draws = s.draws
      ∧ (s.stepFails r).loader = s.loader ∧ (s.stepFails r).answer = s.answer
      ∧ (s.stepFails r).freeCount = s.freeCount ∧ (s.stepFails r).member = s.member ∧ (s.stepFails r).inh = s.inh := by
  unfold State.stepFails
  try dsimp only
  all_goals simp

/-- What `placeStart` leaves as it was. -/
@[simp] theorem State.placeStart_keeps (s : State) (c : Chan) :
    (s.placeStart c).pending = s.pending ∧ (s.placeStart c).pins = s.pins ∧ (s.placeStart c).power = s.power
      ∧ (s.placeStart c).retention = s.retention ∧ (s.placeStart c).starts = s.starts
      ∧ (s.placeStart c).draws = s.draws ∧ (s.placeStart c).loader = s.loader ∧ (s.placeStart c).answer = s.answer
      ∧ (s.placeStart c).freeCount = s.freeCount ∧ (s.placeStart c).member = s.member ∧ (s.placeStart c).inh = s.inh := by
  unfold State.placeStart
  try dsimp only
  repeat' split
  all_goals simp

/-- What `removeStart` leaves as it was. -/
@[simp] theorem State.removeStart_keeps (s : State) (c : Chan) :
    (s.removeStart c).pending = s.pending ∧ (s.removeStart c).pins = s.pins ∧ (s.removeStart c).power = s.power
      ∧ (s.removeStart c).retention = s.retention ∧ (s.removeStart c).starts = s.starts
      ∧ (s.removeStart c).draws = s.draws ∧ (s.removeStart c).loader = s.loader ∧ (s.removeStart c).answer = s.answer
      ∧ (s.removeStart c).freeCount = s.freeCount ∧ (s.removeStart c).member = s.member
      ∧ (s.removeStart c).inh = s.inh := by
  unfold State.removeStart
  try dsimp only
  repeat' split
  all_goals simp

/-- What `abortStart` leaves as it was. -/
@[simp] theorem State.abortStart_keeps (s : State) (c : Chan) (rel : Release) (k : FaultKind) (p : Option Addr) :
    (s.abortStart c rel k p).pending = s.pending ∧ (s.abortStart c rel k p).pins = s.pins
      ∧ (s.abortStart c rel k p).power = s.power ∧ (s.abortStart c rel k p).retention = s.retention
      ∧ (s.abortStart c rel k p).starts = s.starts ∧ (s.abortStart c rel k p).draws = s.draws
      ∧ (s.abortStart c rel k p).loader = s.loader ∧ (s.abortStart c rel k p).answer = s.answer
      ∧ (s.abortStart c rel k p).freeCount = s.freeCount ∧ (s.abortStart c rel k p).member = s.member
      ∧ (s.abortStart c rel k p).inh = s.inh := by
  unfold State.abortStart
  try dsimp only
  all_goals simp

/-- What `inhibitStart` leaves as it was. -/
@[simp] theorem State.inhibitStart_keeps (s : State) (c : Chan) :
    (s.inhibitStart c).pending = s.pending ∧ (s.inhibitStart c).pins = s.pins ∧ (s.inhibitStart c).power = s.power
      ∧ (s.inhibitStart c).retention = s.retention ∧ (s.inhibitStart c).starts = s.starts
      ∧ (s.inhibitStart c).draws = s.draws ∧ (s.inhibitStart c).loader = s.loader
      ∧ (s.inhibitStart c).answer = s.answer ∧ (s.inhibitStart c).freeCount = s.freeCount
      ∧ (s.inhibitStart c).member = s.member ∧ (s.inhibitStart c).inh = s.inh := by
  unfold State.inhibitStart
  try dsimp only
  all_goals simp

/-- What `demandOn` leaves as it was. -/
@[simp] theorem State.demandOn_keeps (s : State) (c : Chan) :
    (s.demandOn c).pending = s.pending ∧ (s.demandOn c).pins = s.pins ∧ (s.demandOn c).power = s.power
      ∧ (s.demandOn c).retention = s.retention ∧ (s.demandOn c).starts = s.starts ∧ (s.demandOn c).draws = s.draws
      ∧ (s.demandOn c).loader = s.loader ∧ (s.demandOn c).answer = s.answer ∧ (s.demandOn c).freeCount = s.freeCount
      ∧ (s.demandOn c).member = s.member ∧ (s.demandOn c).inh = s.inh ∧ (s.demandOn c).faults = s.faults
      ∧ (s.demandOn c).engine = s.engine ∧ (s.demandOn c).history = s.history ∧ (s.demandOn c).bus = s.bus := by
  unfold State.demandOn
  try dsimp only
  repeat' split
  all_goals simp

/-- What `demandOff` leaves as it was. -/
@[simp] theorem State.demandOff_keeps (s : State) (c : Chan) :
    (s.demandOff c).pending = s.pending ∧ (s.demandOff c).pins = s.pins ∧ (s.demandOff c).power = s.power
      ∧ (s.demandOff c).retention = s.retention ∧ (s.demandOff c).starts = s.starts ∧ (s.demandOff c).draws = s.draws
      ∧ (s.demandOff c).loader = s.loader ∧ (s.demandOff c).answer = s.answer
      ∧ (s.demandOff c).freeCount = s.freeCount ∧ (s.demandOff c).member = s.member ∧ (s.demandOff c).inh = s.inh := by
  unfold State.demandOff
  try dsimp only
  repeat' split
  all_goals simp

/-- What `writeLatch` leaves as it was. -/
@[simp] theorem State.writeLatch_keeps (s : State) (c : Chan) (b : Bool) :
    (s.writeLatch c b).pending = s.pending ∧ (s.writeLatch c b).pins = s.pins ∧ (s.writeLatch c b).power = s.power
      ∧ (s.writeLatch c b).retention = s.retention ∧ (s.writeLatch c b).starts = s.starts
      ∧ (s.writeLatch c b).draws = s.draws ∧ (s.writeLatch c b).loader = s.loader
      ∧ (s.writeLatch c b).answer = s.answer ∧ (s.writeLatch c b).freeCount = s.freeCount
      ∧ (s.writeLatch c b).member = s.member ∧ (s.writeLatch c b).inh = s.inh := by
  unfold State.writeLatch
  try dsimp only
  repeat' split
  all_goals simp

/-- What `ownHoldOut` leaves as it was. -/
@[simp] theorem State.ownHoldOut_keeps (s : State) (c : Chan) (q : Seq) :
    (s.ownHoldOut c q).pending = s.pending ∧ (s.ownHoldOut c q).pins = s.pins ∧ (s.ownHoldOut c q).power = s.power
      ∧ (s.ownHoldOut c q).retention = s.retention ∧ (s.ownHoldOut c q).starts = s.starts
      ∧ (s.ownHoldOut c q).draws = s.draws ∧ (s.ownHoldOut c q).loader = s.loader
      ∧ (s.ownHoldOut c q).answer = s.answer ∧ (s.ownHoldOut c q).freeCount = s.freeCount
      ∧ (s.ownHoldOut c q).member = s.member ∧ (s.ownHoldOut c q).inh = s.inh := by
  unfold State.ownHoldOut
  try dsimp only
  repeat' split
  all_goals simp

/-- What `enterOn` leaves as it was. -/
@[simp] theorem State.enterOn_keeps (s : State) (c : Chan) :
    (s.enterOn c).pending = s.pending ∧ (s.enterOn c).pins = s.pins ∧ (s.enterOn c).power = s.power
      ∧ (s.enterOn c).retention = s.retention ∧ (s.enterOn c).starts = s.starts ∧ (s.enterOn c).draws = s.draws
      ∧ (s.enterOn c).loader = s.loader ∧ (s.enterOn c).answer = s.answer ∧ (s.enterOn c).freeCount = s.freeCount
      ∧ (s.enterOn c).member = s.member ∧ (s.enterOn c).inh = s.inh ∧ (s.enterOn c).faults = s.faults
      ∧ (s.enterOn c).engine = s.engine := by
  unfold State.enterOn
  try dsimp only
  repeat' split
  all_goals simp

/-- What `markAbsentees` leaves as it was. -/
@[simp] theorem State.markAbsentees_keeps (s : State) :
    (s.markAbsentees).pending = s.pending ∧ (s.markAbsentees).pins = s.pins ∧ (s.markAbsentees).power = s.power
      ∧ (s.markAbsentees).retention = s.retention ∧ (s.markAbsentees).starts = s.starts
      ∧ (s.markAbsentees).draws = s.draws ∧ (s.markAbsentees).loader = s.loader ∧ (s.markAbsentees).answer = s.answer
      ∧ (s.markAbsentees).freeCount = s.freeCount ∧ (s.markAbsentees).faults = s.faults
      ∧ (s.markAbsentees).engine = s.engine ∧ (s.markAbsentees).inh = s.inh ∧ (s.markAbsentees).channels = s.channels
      ∧ (s.markAbsentees).queue = s.queue ∧ (s.markAbsentees).bus = s.bus ∧ (s.markAbsentees).history = s.history
      ∧ (s.markAbsentees).notice = s.notice := by
  unfold State.markAbsentees
  try dsimp only
  all_goals simp

/-- What `judgeIsolated` leaves as it was. -/
@[simp] theorem State.judgeIsolated_keeps (s : State) :
    (s.judgeIsolated).pending = s.pending ∧ (s.judgeIsolated).pins = s.pins ∧ (s.judgeIsolated).power = s.power
      ∧ (s.judgeIsolated).retention = s.retention ∧ (s.judgeIsolated).starts = s.starts
      ∧ (s.judgeIsolated).draws = s.draws ∧ (s.judgeIsolated).loader = s.loader ∧ (s.judgeIsolated).answer = s.answer
      ∧ (s.judgeIsolated).freeCount = s.freeCount ∧ (s.judgeIsolated).engine = s.engine
      ∧ (s.judgeIsolated).inh = s.inh ∧ (s.judgeIsolated).channels = s.channels ∧ (s.judgeIsolated).queue = s.queue
      ∧ (s.judgeIsolated).bus = s.bus ∧ (s.judgeIsolated).history = s.history := by
  unfold State.judgeIsolated
  try dsimp only
  repeat' split
  all_goals simp

/-- What `enterInStep` leaves as it was. -/
@[simp] theorem State.enterInStep_keeps (s : State) :
    (s.enterInStep).pending = s.pending ∧ (s.enterInStep).pins = s.pins ∧ (s.enterInStep).power = s.power
      ∧ (s.enterInStep).retention = s.retention ∧ (s.enterInStep).starts = s.starts ∧ (s.enterInStep).draws = s.draws
      ∧ (s.enterInStep).loader = s.loader ∧ (s.enterInStep).answer = s.answer
      ∧ (s.enterInStep).freeCount = s.freeCount ∧ (s.enterInStep).engine = s.engine ∧ (s.enterInStep).inh = s.inh
      ∧ (s.enterInStep).channels = s.channels ∧ (s.enterInStep).queue = s.queue ∧ (s.enterInStep).bus = s.bus := by
  unfold State.enterInStep
  try dsimp only
  all_goals simp

/-- What `enterSyncing` leaves as it was. -/
@[simp] theorem State.enterSyncing_keeps (s : State) (r : OwnRequest) :
    (s.enterSyncing r).pending = s.pending ∧ (s.enterSyncing r).pins = s.pins ∧ (s.enterSyncing r).power = s.power
      ∧ (s.enterSyncing r).retention = s.retention ∧ (s.enterSyncing r).starts = s.starts
      ∧ (s.enterSyncing r).draws = s.draws ∧ (s.enterSyncing r).loader = s.loader
      ∧ (s.enterSyncing r).answer = s.answer ∧ (s.enterSyncing r).freeCount = s.freeCount
      ∧ (s.enterSyncing r).faults = s.faults ∧ (s.enterSyncing r).engine = s.engine ∧ (s.enterSyncing r).inh = s.inh
      ∧ (s.enterSyncing r).channels = s.channels ∧ (s.enterSyncing r).queue = s.queue ∧ (s.enterSyncing r).bus = s.bus
      ∧ (s.enterSyncing r).history = s.history := by
  unfold State.enterSyncing
  try dsimp only
  repeat' split
  all_goals simp

/-- What `judgeExit` leaves as it was. -/
@[simp] theorem State.judgeExit_keeps (s : State) :
    (s.judgeExit).pending = s.pending ∧ (s.judgeExit).pins = s.pins ∧ (s.judgeExit).power = s.power
      ∧ (s.judgeExit).retention = s.retention ∧ (s.judgeExit).starts = s.starts ∧ (s.judgeExit).draws = s.draws
      ∧ (s.judgeExit).loader = s.loader ∧ (s.judgeExit).answer = s.answer ∧ (s.judgeExit).freeCount = s.freeCount
      ∧ (s.judgeExit).engine = s.engine ∧ (s.judgeExit).inh = s.inh ∧ (s.judgeExit).channels = s.channels
      ∧ (s.judgeExit).queue = s.queue ∧ (s.judgeExit).bus = s.bus := by
  unfold State.judgeExit
  try dsimp only
  repeat' split
  all_goals simp

/-- What `judgeDiscord` leaves as it was. -/
@[simp] theorem State.judgeDiscord_keeps (s : State) (a : Addr) :
    (s.judgeDiscord a).pending = s.pending ∧ (s.judgeDiscord a).pins = s.pins ∧ (s.judgeDiscord a).power = s.power
      ∧ (s.judgeDiscord a).retention = s.retention ∧ (s.judgeDiscord a).starts = s.starts
      ∧ (s.judgeDiscord a).draws = s.draws ∧ (s.judgeDiscord a).loader = s.loader
      ∧ (s.judgeDiscord a).answer = s.answer ∧ (s.judgeDiscord a).freeCount = s.freeCount
      ∧ (s.judgeDiscord a).engine = s.engine ∧ (s.judgeDiscord a).inh = s.inh
      ∧ (s.judgeDiscord a).channels = s.channels ∧ (s.judgeDiscord a).queue = s.queue ∧ (s.judgeDiscord a).bus = s.bus
      ∧ (s.judgeDiscord a).history = s.history := by
  unfold State.judgeDiscord
  try dsimp only
  repeat' split
  all_goals simp

/-- What `hearPeer` leaves as it was. -/
@[simp] theorem State.hearPeer_keeps (s : State) (a : Addr) (b : Bool) :
    (s.hearPeer a b).pending = s.pending ∧ (s.hearPeer a b).pins = s.pins ∧ (s.hearPeer a b).power = s.power
      ∧ (s.hearPeer a b).retention = s.retention ∧ (s.hearPeer a b).starts = s.starts
      ∧ (s.hearPeer a b).draws = s.draws ∧ (s.hearPeer a b).loader = s.loader ∧ (s.hearPeer a b).answer = s.answer
      ∧ (s.hearPeer a b).freeCount = s.freeCount ∧ (s.hearPeer a b).engine = s.engine ∧ (s.hearPeer a b).inh = s.inh
      ∧ (s.hearPeer a b).channels = s.channels ∧ (s.hearPeer a b).queue = s.queue ∧ (s.hearPeer a b).bus = s.bus
      ∧ (s.hearPeer a b).history = s.history := by
  unfold State.hearPeer
  try dsimp only
  repeat' split
  all_goals simp

/-- What `claimEnded` leaves as it was. -/
@[simp] theorem State.claimEnded_keeps (s : State) (t : TxFrame) (c : Chan) :
    (s.claimEnded t c).pending = s.pending ∧ (s.claimEnded t c).pins = s.pins ∧ (s.claimEnded t c).power = s.power
      ∧ (s.claimEnded t c).retention = s.retention ∧ (s.claimEnded t c).starts = s.starts
      ∧ (s.claimEnded t c).draws = s.draws ∧ (s.claimEnded t c).loader = s.loader
      ∧ (s.claimEnded t c).answer = s.answer ∧ (s.claimEnded t c).freeCount = s.freeCount
      ∧ (s.claimEnded t c).member = s.member ∧ (s.claimEnded t c).inh = s.inh ∧ (s.claimEnded t c).faults = s.faults
      ∧ (s.claimEnded t c).engine = s.engine ∧ (s.claimEnded t c).bus = s.bus ∧ (s.claimEnded t c).history = s.history := by
  unfold State.claimEnded
  try dsimp only
  repeat' split
  all_goals simp

/-- What `countClaimVoid` leaves as it was. -/
@[simp] theorem State.countClaimVoid_keeps (s : State) (c : Chan) :
    (s.countClaimVoid c).pending = s.pending ∧ (s.countClaimVoid c).pins = s.pins
      ∧ (s.countClaimVoid c).power = s.power ∧ (s.countClaimVoid c).retention = s.retention
      ∧ (s.countClaimVoid c).starts = s.starts ∧ (s.countClaimVoid c).draws = s.draws
      ∧ (s.countClaimVoid c).loader = s.loader ∧ (s.countClaimVoid c).answer = s.answer
      ∧ (s.countClaimVoid c).freeCount = s.freeCount ∧ (s.countClaimVoid c).member = s.member
      ∧ (s.countClaimVoid c).inh = s.inh ∧ (s.countClaimVoid c).engine = s.engine
      ∧ (s.countClaimVoid c).bus = s.bus ∧ (s.countClaimVoid c).history = s.history
      ∧ (s.countClaimVoid c).queue.claimSeq = s.queue.claimSeq := by
  unfold State.countClaimVoid
  repeat' split
  all_goals simp [State.requeue, State.modEntry, State.enter, State.modChan, State.log]

/-- What `claimVoided` leaves as it was. -/
@[simp] theorem State.claimVoided_keeps (s : State) (t : TxFrame) (c : Chan) :
    (s.claimVoided t c).pending = s.pending ∧ (s.claimVoided t c).pins = s.pins ∧ (s.claimVoided t c).power = s.power
      ∧ (s.claimVoided t c).retention = s.retention ∧ (s.claimVoided t c).starts = s.starts
      ∧ (s.claimVoided t c).draws = s.draws ∧ (s.claimVoided t c).loader = s.loader
      ∧ (s.claimVoided t c).answer = s.answer ∧ (s.claimVoided t c).freeCount = s.freeCount
      ∧ (s.claimVoided t c).member = s.member ∧ (s.claimVoided t c).inh = s.inh
      ∧ (s.claimVoided t c).engine = s.engine ∧ (s.claimVoided t c).bus = s.bus
      ∧ (s.claimVoided t c).history = s.history := by
  unfold State.claimVoided
  split <;> simp

/-- What `settleEnded` leaves as it was. -/
@[simp] theorem State.settleEnded_keeps (s : State) (c : Chan) :
    (s.settleEnded c).pending = s.pending ∧ (s.settleEnded c).pins = s.pins ∧ (s.settleEnded c).power = s.power
      ∧ (s.settleEnded c).retention = s.retention ∧ (s.settleEnded c).starts = s.starts
      ∧ (s.settleEnded c).draws = s.draws ∧ (s.settleEnded c).loader = s.loader ∧ (s.settleEnded c).answer = s.answer
      ∧ (s.settleEnded c).freeCount = s.freeCount ∧ (s.settleEnded c).member = s.member
      ∧ (s.settleEnded c).inh = s.inh ∧ (s.settleEnded c).faults = s.faults ∧ (s.settleEnded c).engine = s.engine
      ∧ (s.settleEnded c).history = s.history := by
  unfold State.settleEnded
  try dsimp only
  repeat' split
  all_goals simp

/-- What `ownLost` leaves as it was. -/
@[simp] theorem State.ownLost_keeps (s : State) (t : TxFrame) :
    (s.ownLost t).pending = s.pending ∧ (s.ownLost t).pins = s.pins ∧ (s.ownLost t).power = s.power
      ∧ (s.ownLost t).retention = s.retention ∧ (s.ownLost t).starts = s.starts ∧ (s.ownLost t).draws = s.draws
      ∧ (s.ownLost t).loader = s.loader ∧ (s.ownLost t).answer = s.answer ∧ (s.ownLost t).freeCount = s.freeCount
      ∧ (s.ownLost t).member = s.member ∧ (s.ownLost t).inh = s.inh ∧ (s.ownLost t).faults = s.faults
      ∧ (s.ownLost t).engine = s.engine ∧ (s.ownLost t).history = s.history := by
  unfold State.ownLost
  try dsimp only
  repeat' split
  all_goals simp

/-- What `loseArbitration` leaves as it was. -/
@[simp] theorem State.loseArbitration_keeps (s : State) (t : TxFrame) :
    (s.loseArbitration t).pending = s.pending ∧ (s.loseArbitration t).pins = s.pins
      ∧ (s.loseArbitration t).power = s.power ∧ (s.loseArbitration t).retention = s.retention
      ∧ (s.loseArbitration t).starts = s.starts ∧ (s.loseArbitration t).draws = s.draws
      ∧ (s.loseArbitration t).loader = s.loader ∧ (s.loseArbitration t).answer = s.answer
      ∧ (s.loseArbitration t).freeCount = s.freeCount ∧ (s.loseArbitration t).member = s.member
      ∧ (s.loseArbitration t).inh = s.inh ∧ (s.loseArbitration t).faults = s.faults
      ∧ (s.loseArbitration t).engine = s.engine ∧ (s.loseArbitration t).history = s.history := by
  unfold State.loseArbitration
  try dsimp only
  all_goals simp

/-- What `foundIncomplete` leaves as it was. -/
@[simp] theorem State.foundIncomplete_keeps (s : State) :
    (s.foundIncomplete).pending = s.pending ∧ (s.foundIncomplete).pins = s.pins
      ∧ (s.foundIncomplete).power = s.power ∧ (s.foundIncomplete).retention = s.retention
      ∧ (s.foundIncomplete).history = s.history ∧ (s.foundIncomplete).starts = s.starts
      ∧ (s.foundIncomplete).draws = s.draws ∧ (s.foundIncomplete).loader = s.loader
      ∧ (s.foundIncomplete).answer = s.answer ∧ (s.foundIncomplete).freeCount = s.freeCount
      ∧ (s.foundIncomplete).faults = s.faults ∧ (s.foundIncomplete).engine = s.engine
      ∧ (s.foundIncomplete).inh = s.inh := by
  unfold State.foundIncomplete
  try dsimp only
  repeat' split
  all_goals simp

/-- What `otherVoided` leaves as it was. -/
@[simp] theorem State.otherVoided_keeps (s : State) (raw : RawFrame) :
    (s.otherVoided raw).pending = s.pending ∧ (s.otherVoided raw).pins = s.pins
      ∧ (s.otherVoided raw).power = s.power ∧ (s.otherVoided raw).retention = s.retention
      ∧ (s.otherVoided raw).history = s.history ∧ (s.otherVoided raw).starts = s.starts
      ∧ (s.otherVoided raw).draws = s.draws ∧ (s.otherVoided raw).loader = s.loader
      ∧ (s.otherVoided raw).answer = s.answer ∧ (s.otherVoided raw).freeCount = s.freeCount
      ∧ (s.otherVoided raw).faults = s.faults ∧ (s.otherVoided raw).engine = s.engine
      ∧ (s.otherVoided raw).inh = s.inh := by
  unfold State.otherVoided
  try dsimp only
  repeat' split
  all_goals simp

/-- What `takeNotice` leaves as it was. -/
@[simp] theorem State.takeNotice_keeps (s : State) :
    (s.takeNotice).pending = s.pending ∧ (s.takeNotice).pins = s.pins ∧ (s.takeNotice).power = s.power
      ∧ (s.takeNotice).retention = s.retention ∧ (s.takeNotice).starts = s.starts ∧ (s.takeNotice).draws = s.draws
      ∧ (s.takeNotice).loader = s.loader ∧ (s.takeNotice).answer = s.answer ∧ (s.takeNotice).freeCount = s.freeCount
      ∧ (s.takeNotice).member = s.member ∧ (s.takeNotice).faults = s.faults ∧ (s.takeNotice).engine = s.engine
      ∧ (s.takeNotice).inh = s.inh ∧ (s.takeNotice).bus = s.bus ∧ (s.takeNotice).indicators = s.indicators
      ∧ (s.takeNotice).history = s.history := by
  unfold State.takeNotice
  try dsimp only
  repeat' split
  all_goals simp

/-- What `ownAccepted` leaves as it was. -/
@[simp] theorem State.ownAccepted_keeps (s : State) (b : Bool) :
    (s.ownAccepted b).pending = s.pending ∧ (s.ownAccepted b).pins = s.pins ∧ (s.ownAccepted b).power = s.power
      ∧ (s.ownAccepted b).retention = s.retention ∧ (s.ownAccepted b).starts = s.starts
      ∧ (s.ownAccepted b).draws = s.draws ∧ (s.ownAccepted b).loader = s.loader ∧ (s.ownAccepted b).answer = s.answer
      ∧ (s.ownAccepted b).freeCount = s.freeCount ∧ (s.ownAccepted b).engine = s.engine
      ∧ (s.ownAccepted b).inh = s.inh ∧ (s.ownAccepted b).channels = s.channels ∧ (s.ownAccepted b).queue = s.queue
      ∧ (s.ownAccepted b).history = s.history := by
  unfold State.ownAccepted
  try dsimp only
  repeat' split
  all_goals simp

/-- What `shedChannel` leaves as it was. -/
@[simp] theorem State.shedChannel_keeps (s : State) (c : Chan) :
    (s.shedChannel c).pending = s.pending ∧ (s.shedChannel c).pins = s.pins ∧ (s.shedChannel c).power = s.power
      ∧ (s.shedChannel c).retention = s.retention ∧ (s.shedChannel c).starts = s.starts
      ∧ (s.shedChannel c).draws = s.draws ∧ (s.shedChannel c).loader = s.loader ∧ (s.shedChannel c).answer = s.answer
      ∧ (s.shedChannel c).freeCount = s.freeCount ∧ (s.shedChannel c).member = s.member
      ∧ (s.shedChannel c).inh = s.inh ∧ (s.shedChannel c).faults = s.faults ∧ (s.shedChannel c).engine = s.engine
      ∧ (s.shedChannel c).history = s.history := by
  unfold State.shedChannel
  try dsimp only
  repeat' split
  all_goals simp

end Sys2Proof.Machine
end

