-- ==== Sys2Proof/Laws/Finish.lean ====
section
/-! SUPPORT. What the end of a step does and leaves: the notice is taken, the selector may fill the transmit slot, channels
move at most between QUEUED and CLAIMING; every command answers a next state. -/

namespace Sys2Proof.Machine

open Sys2Proof

/-- What the build of a frame leaves as it was. -/
@[simp] theorem State.buildClaim_keeps (s : State) (u : Urg) :
    ((s.buildClaim u).1).pending = s.pending ∧ ((s.buildClaim u).1).pins = s.pins
      ∧ ((s.buildClaim u).1).power = s.power ∧ ((s.buildClaim u).1).retention = s.retention
      ∧ ((s.buildClaim u).1).history = s.history ∧ ((s.buildClaim u).1).starts = s.starts
      ∧ ((s.buildClaim u).1).draws = s.draws ∧ ((s.buildClaim u).1).inh = s.inh
      ∧ ((s.buildClaim u).1).engine = s.engine ∧ ((s.buildClaim u).1).member = s.member
      ∧ ((s.buildClaim u).1).loader = s.loader ∧ ((s.buildClaim u).1).faults = s.faults
      ∧ ((s.buildClaim u).1).answer = s.answer ∧ ((s.buildClaim u).1).freeCount = s.freeCount
      ∧ ((s.buildClaim u).1).bus = s.bus ∧ ((s.buildClaim u).1).indicators = s.indicators
      ∧ ((s.buildClaim u).1).notice = s.notice := by
  unfold State.buildClaim
  repeat' split
  all_goals simp

/-- What the build of a SHED_CALL leaves as it was. -/
@[simp] theorem State.buildShedCall_keeps (s : State) :
    (s.buildShedCall.1).pending = s.pending ∧ (s.buildShedCall.1).pins = s.pins ∧ (s.buildShedCall.1).power = s.power
      ∧ (s.buildShedCall.1).retention = s.retention ∧ (s.buildShedCall.1).history = s.history
      ∧ (s.buildShedCall.1).starts = s.starts ∧ (s.buildShedCall.1).draws = s.draws ∧ (s.buildShedCall.1).inh = s.inh
      ∧ (s.buildShedCall.1).engine = s.engine ∧ (s.buildShedCall.1).member = s.member
      ∧ (s.buildShedCall.1).loader = s.loader ∧ (s.buildShedCall.1).faults = s.faults
      ∧ (s.buildShedCall.1).answer = s.answer ∧ (s.buildShedCall.1).freeCount = s.freeCount
      ∧ (s.buildShedCall.1).bus = s.bus ∧ (s.buildShedCall.1).indicators = s.indicators
      ∧ (s.buildShedCall.1).notice = s.notice ∧ (s.buildShedCall.1).channels = s.channels := by
  unfold State.buildShedCall
  dsimp only
  repeat' split
  all_goals simp

/-- What the build of a source's frame leaves as it was. -/
theorem State.build_keeps (s : State) (src : Source) :
    ((s.build src).1).pending = s.pending ∧ ((s.build src).1).pins = s.pins ∧ ((s.build src).1).power = s.power
      ∧ ((s.build src).1).retention = s.retention ∧ ((s.build src).1).history = s.history
      ∧ ((s.build src).1).starts = s.starts ∧ ((s.build src).1).draws = s.draws ∧ ((s.build src).1).inh = s.inh
      ∧ ((s.build src).1).engine = s.engine ∧ ((s.build src).1).member = s.member
      ∧ ((s.build src).1).loader = s.loader ∧ ((s.build src).1).faults = s.faults
      ∧ ((s.build src).1).answer = s.answer ∧ ((s.build src).1).freeCount = s.freeCount
      ∧ ((s.build src).1).bus = s.bus ∧ ((s.build src).1).indicators = s.indicators
      ∧ ((s.build src).1).notice = s.notice := by
  cases src <;> simp [State.build]

/-- What the choice among the sources leaves as it was. -/
theorem State.trySources_keeps (l : List Source) (s : State) :
    (s.trySources l).pending = s.pending ∧ (s.trySources l).pins = s.pins ∧ (s.trySources l).power = s.power
      ∧ (s.trySources l).retention = s.retention ∧ (s.trySources l).history = s.history
      ∧ (s.trySources l).starts = s.starts ∧ (s.trySources l).draws = s.draws ∧ (s.trySources l).inh = s.inh
      ∧ (s.trySources l).engine = s.engine ∧ (s.trySources l).member = s.member ∧ (s.trySources l).loader = s.loader
      ∧ (s.trySources l).faults = s.faults ∧ (s.trySources l).answer = s.answer
      ∧ (s.trySources l).freeCount = s.freeCount ∧ (s.trySources l).bus.counters = s.bus.counters
      ∧ (s.trySources l).bus.unackRun = s.bus.unackRun ∧ (s.trySources l).bus.releaseVoids = s.bus.releaseVoids
      ∧ (s.trySources l).bus.degraded = s.bus.degraded ∧ (s.trySources l).indicators = s.indicators
      ∧ (s.trySources l).notice = s.notice := by
  induction l generalizing s with
  | nil => simp [State.trySources]
  | cons src rest ih =>
    unfold State.trySources
    split
    · have h := s.build_keeps src
      split
      · next s' f he => rw [he] at h; simp_all
      · next s' he => rw [he] at h; simp_all
    · exact ih s

/-- What the transmit selector leaves as it was. -/
@[simp] theorem State.select_keeps (s : State) :
    (s.select).pending = s.pending ∧ (s.select).pins = s.pins ∧ (s.select).power = s.power
      ∧ (s.select).retention = s.retention ∧ (s.select).history = s.history ∧ (s.select).starts = s.starts
      ∧ (s.select).draws = s.draws ∧ (s.select).inh = s.inh ∧ (s.select).engine = s.engine
      ∧ (s.select).member = s.member ∧ (s.select).loader = s.loader ∧ (s.select).faults = s.faults
      ∧ (s.select).answer = s.answer ∧ (s.select).freeCount = s.freeCount ∧ (s.select).bus.counters = s.bus.counters
      ∧ (s.select).bus.unackRun = s.bus.unackRun ∧ (s.select).bus.releaseVoids = s.bus.releaseVoids
      ∧ (s.select).bus.degraded = s.bus.degraded ∧ (s.select).indicators = s.indicators ∧ (s.select).notice = s.notice := by
  unfold State.select
  split
  · exact State.trySources_keeps _ _
  · simp

/-- What the end of a step leaves as it was. -/
@[simp] theorem State.finish_keeps (s : State) :
    (s.finish).pending = s.pending ∧ (s.finish).pins = s.pins ∧ (s.finish).power = s.power
      ∧ (s.finish).retention = s.retention ∧ (s.finish).history = s.history ∧ (s.finish).starts = s.starts
      ∧ (s.finish).draws = s.draws ∧ (s.finish).inh = s.inh ∧ (s.finish).engine = s.engine
      ∧ (s.finish).member = s.member ∧ (s.finish).loader = s.loader ∧ (s.finish).faults = s.faults
      ∧ (s.finish).answer = s.answer ∧ (s.finish).freeCount = s.freeCount ∧ (s.finish).bus.counters = s.bus.counters
      ∧ (s.finish).bus.unackRun = s.bus.unackRun ∧ (s.finish).bus.releaseVoids = s.bus.releaseVoids
      ∧ (s.finish).bus.degraded = s.bus.degraded := by
  unfold State.finish
  simp

/-- The end of a step takes the notice. -/
@[simp] theorem State.finish_notice (s : State) : s.finish.notice = false := by
  unfold State.finish
  simp only [State.refresh_keeps, State.select_keeps]
  unfold State.takeNotice
  split
  · split <;> simp
  · next h => simpa using h

/-- A channel's record is the same but for an offer as itself. -/
theorem sameButOffer_refl (a : Channel) : sameButOffer a a := Or.inl rfl

/-- Being the same but for an offer is transitive. -/
theorem sameButOffer_trans {a b c : Channel} (h : sameButOffer a b) (k : sameButOffer b c) : sameButOffer a c := by
  rcases h with rfl | ⟨ha, hb, he⟩
  · exact k
  · rcases k with rfl | ⟨_, hc, hf⟩
    · exact Or.inr ⟨ha, hb, he⟩
    · exact Or.inr ⟨ha, hc, he.trans hf⟩

/-- Reading a channel after a channel was written. -/
theorem Four.get_set {α : Type} (f : Four α) (c d : Chan) (x : α) :
    (f.set c x).get d = if d = c then x else f.get d := by
  rcases f with ⟨a0, a1, a2, a3⟩
  fin_cases c <;> fin_cases d <;> rfl

/-- Reading a channel after a map. -/
@[simp] theorem Four.get_map {α β : Type} (g : α → β) (f : Four α) (c : Chan) : (f.map g).get c = g (f.get c) := by
  fin_cases c <;> rfl

/-- Reading a channel after a map by channel. -/
@[simp] theorem Four.get_mapChan {α β : Type} (g : Chan → α → β) (f : Four α) (c : Chan) :
    (f.mapChan g).get c = g c (f.get c) := by
  fin_cases c <;> rfl

/-- Reading a channel of four equal values. -/
@[simp] theorem Four.get_same {α : Type} (x : α) (c : Chan) : (Four.same x).get c = x := by
  fin_cases c <;> rfl

/-- A channel's record after one was rewritten. -/
theorem State.chan_modChan (s : State) (c d : Chan) (f : Channel → Channel) :
    (s.modChan c f).chan d = if d = c then f (s.chan c) else s.chan d := by
  simp only [State.chan, State.modChan, Four.get_set]

/-- A channel's record after one changed its state. -/
theorem State.chan_enter (s : State) (c d : Chan) (st : ChanState) :
    (s.enter c st).chan d = if d = c then { s.chan c with state := st } else s.chan d := by
  simp only [State.enter, State.chan_modChan]

/-- A channel's record after a CLAIMING entry was withdrawn. -/
theorem State.chan_requeue (s : State) (c d : Chan) :
    (s.requeue c).chan d = if d = c then { s.chan c with state := .queued } else s.chan d := by
  unfold State.requeue
  rw [State.chan_enter]
  simp [State.chan]

/-- Withdrawing a CLAIMING entry moves its channel to QUEUED and nothing else. -/
theorem State.requeue_same (s : State) (c d : Chan) (h : (s.chan c).state = .queued ∨ (s.chan c).state = .claiming) :
    sameButOffer ((s.requeue c).chan d) (s.chan d) := by
  rw [State.chan_requeue]
  split
  · next e => subst e; exact Or.inr ⟨Or.inl rfl, h, rfl⟩
  · exact sameButOffer_refl _

/-- A channel's record is read from the field `channels` alone. -/
theorem State.chan_of_channels {s t : State} (h : t.channels = s.channels) (d : Chan) : t.chan d = s.chan d := by
  simp only [State.chan, h]

/-- The withdrawals of entries behind the head move channels from CLAIMING to QUEUED only. -/
theorem State.withdrawBehind_same (l : List QueueEntry) (s : State) (d : Chan) :
    sameButOffer ((s.withdrawBehind l).chan d) (s.chan d) := by
  induction l generalizing s with
  | nil => exact sameButOffer_refl _
  | cons e es ih =>
    unfold State.withdrawBehind
    split
    · next h => exact sameButOffer_trans (ih _) (s.requeue_same e.ch d (Or.inr h.1))
    · exact ih s

/-- The judgement of the head moves channels between QUEUED and CLAIMING only. -/
theorem State.judgeHead_same (s : State) (d : Chan) : sameButOffer (s.judgeHead.chan d) (s.chan d) := by
  unfold State.judgeHead
  split
  · exact Or.inl (State.chan_of_channels (by simp) d)
  · next e _ _ =>
    split
    · next hst =>
      split
      · rw [State.chan_of_channels (s := (s.modEntry e.ch fun e => { e with shedWait := none }).enter e.ch .claiming) (by simp) d,
          State.chan_enter]
        split
        · next h =>
          subst h
          refine Or.inr ⟨Or.inr rfl, Or.inl hst, ?_⟩
          simp [State.chan]
        · exact Or.inl (State.chan_of_channels (by simp) d)
      · exact Or.inl (State.chan_of_channels (by simp) d)
    · next hst =>
      split
      · exact Or.inl (State.chan_of_channels (by simp) d)
      · rw [State.chan_of_channels (s := s.requeue e.ch) (by simp) d]
        exact s.requeue_same e.ch d (Or.inr hst)
    all_goals exact Or.inl (State.chan_of_channels (by simp) d)

/-- An evaluation moves channels between QUEUED and CLAIMING only (R51). -/
theorem State.evaluate_same (s : State) (d : Chan) : sameButOffer (s.evaluate.chan d) (s.chan d) :=
  sameButOffer_trans (State.judgeHead_same _ d) (State.withdrawBehind_same _ s d)

/-- The build of a frame moves channels from CLAIMING to QUEUED only. -/
theorem State.build_same (s : State) (src : Source) (d : Chan) : sameButOffer ((s.build src).1.chan d) (s.chan d) := by
  cases src with
  | claim u =>
    simp only [State.build]
    unfold State.buildClaim
    split
    · exact sameButOffer_refl _
    · split
      · next h =>
        split
        · exact Or.inl (State.chan_of_channels (by simp) d)
        · exact s.requeue_same _ d (Or.inr h.1)
      · exact sameButOffer_refl _
  | shedCall => exact Or.inl (State.chan_of_channels (by simp [State.build]) d)
  | release => exact sameButOffer_refl _
  | expire => exact sameButOffer_refl _
  | absent => exact sameButOffer_refl _
  | renewal => exact sameButOffer_refl _
  | recount => exact sameButOffer_refl _
  | syncReq => exact sameButOffer_refl _
  | hello => exact sameButOffer_refl _
  | presence => exact sameButOffer_refl _
  | answer => exact sameButOffer_refl _

/-- The selector moves channels from CLAIMING to QUEUED only. -/
theorem State.trySources_same (l : List Source) (s : State) (d : Chan) :
    sameButOffer ((s.trySources l).chan d) (s.chan d) := by
  induction l generalizing s with
  | nil => exact sameButOffer_refl _
  | cons src rest ih =>
    unfold State.trySources
    split
    · have h := s.build_same src d
      split
      · next s' f he =>
        rw [he] at h
        rw [State.chan_of_channels (s := s') (by simp) d]
        exact h
      · next s' he =>
        rw [he] at h
        exact sameButOffer_trans (ih s') h
    · exact ih s

/-- The end of a step moves channels between QUEUED and CLAIMING only. -/
theorem State.finish_same (s : State) (d : Chan) : sameButOffer (s.finish.chan d) (s.chan d) := by
  unfold State.finish
  rw [State.chan_of_channels (s := s.takeNotice.select) (by simp) d]
  have h : sameButOffer (s.takeNotice.select.chan d) (s.takeNotice.chan d) := by
    unfold State.select
    split
    · exact State.trySources_same _ _ d
    · exact sameButOffer_refl _
  refine sameButOffer_trans h ?_
  unfold State.takeNotice
  split
  · split
    · exact sameButOffer_trans (State.evaluate_same _ d) (Or.inl rfl)
    · exact Or.inl rfl
  · exact sameButOffer_refl _

/-- Some channel is FAULTED, or the station is HALTED (R83). -/
theorem State.faulted_iff (s : State) :
    s.faulted = true ↔ s.member.state = .halted ∨ ∃ c, (s.chan c).state = .faulted := by
  unfold State.faulted allChans
  have h : (∃ c, (s.chan c).state = .faulted)
      ↔ (s.chan 0).state = .faulted ∨ (s.chan 1).state = .faulted ∨ (s.chan 2).state = .faulted
        ∨ (s.chan 3).state = .faulted := by
    constructor
    · rintro ⟨c, h⟩
      match c with
      | 0 => exact Or.inl h
      | 1 => exact Or.inr (Or.inl h)
      | 2 => exact Or.inr (Or.inr (Or.inl h))
      | 3 => exact Or.inr (Or.inr (Or.inr h))
    · rintro (h | h | h | h) <;> exact ⟨_, h⟩
  rw [h]
  simp

/-- After every refresh of the indicators STAT and FLT show what the state calls for. -/
theorem State.refresh_law (s : State) : IndicatorLaw s.refresh := by
  have hs : s.refresh.indicators.stat = s.statPattern := by simp [State.refresh]
  have hf : s.refresh.indicators.flt = s.fltLevel := by simp [State.refresh]
  have hp : s.refresh.power = s.power := by simp
  have hm : s.refresh.member = s.member := by simp
  have hc : ∀ c, s.refresh.chan c = s.chan c := State.chan_of_channels (by simp)
  refine ⟨⟨fun h => ?_, fun h w => ?_⟩, ⟨fun h => ?_, fun h w v => ?_, fun h w => ?_⟩⟩
  · rw [hp] at h
    rw [hs, State.statPattern, if_pos (by simpa using h)]
  · rw [hp] at h w
    rw [hs, hm, State.statPattern, if_neg (by simp [h, w])]
    refine ⟨fun m => ?_, fun m => ?_, fun m d => ?_, fun m d => ?_, fun m d => ?_, fun m => ?_, fun m d => ?_,
      fun m d => ?_, fun m d => ?_⟩ <;> simp_all
  · rw [hp] at h
    rw [hf, State.fltLevel, h]
  · rw [hp] at h w v
    rw [hf, State.fltLevel, h]
    simp [w, v]
  · rw [hp] at h w
    rw [hf, State.fltLevel, h]
    simp only [w, hm, hc]
    exact s.faulted_iff

/-- Every command that ends its step leaves STAT and FLT as the state calls for. -/
theorem State.finish_law (s : State) : IndicatorLaw s.finish := State.refresh_law _

/-- Every command answers a next state. -/
theorem exec_next (c : Instr) (s : State) : ∃ t, exec c s = .next t := by
  cases c <;> exact ⟨_, rfl⟩

/-- Every step answers a next state. -/
theorem step_next (s : State) : ∃ t, step s = .next t := by
  unfold step
  split
  · exact ⟨_, rfl⟩
  · exact exec_next _ _

end Sys2Proof.Machine
end

