-- ==== Sys2Proof/Laws/PerInstr.lean ====
section
/-! SUPPORT. A statement about every command, one lemma per constructor of Instr. -/

namespace Sys2Proof.Laws.F

open Sys2Proof Sys2Proof.Machine

/-- A command is not both an accepted frame and a command of supplies, reset and starts, and no word spells it: the opcode
table gives no row any bits. -/
def Statement (i : Instr) : Prop := (isFrame i && resets i) = false ∧ ∀ nbits w, decodeTableWord nbits w ≠ some i

theorem claim (rx : Rx) (p : ClaimPayload) : Statement (.claim rx p) := ⟨rfl, fun _ _ h => by cases h⟩
theorem renew (rx : Rx) (p : RenewPayload) : Statement (.renew rx p) := ⟨rfl, fun _ _ h => by cases h⟩
theorem settled (rx : Rx) (p : SettledPayload) : Statement (.settled rx p) := ⟨rfl, fun _ _ h => by cases h⟩
theorem abandoned (rx : Rx) (p : AbandonedPayload) : Statement (.abandoned rx p) := ⟨rfl, fun _ _ h => by cases h⟩
theorem expire (rx : Rx) (p : ExpirePayload) : Statement (.expire rx p) := ⟨rfl, fun _ _ h => by cases h⟩
theorem stopped (rx : Rx) (p : StoppedPayload) : Statement (.stopped rx p) := ⟨rfl, fun _ _ h => by cases h⟩
theorem shedCall (rx : Rx) (p : ShedCallPayload) : Statement (.shedCall rx p) := ⟨rfl, fun _ _ h => by cases h⟩
theorem hello (rx : Rx) (p : HelloPayload) : Statement (.hello rx p) := ⟨rfl, fun _ _ h => by cases h⟩
theorem presence (rx : Rx) (p : PresencePayload) : Statement (.presence rx p) := ⟨rfl, fun _ _ h => by cases h⟩
theorem syncReq (rx : Rx) (target : Addr) : Statement (.syncReq rx target) := ⟨rfl, fun _ _ h => by cases h⟩
theorem recount (rx : Rx) (p : RecountPayload) : Statement (.recount rx p) := ⟨rfl, fun _ _ h => by cases h⟩
theorem recountEnd (rx : Rx) (number : Fin 8) : Statement (.recountEnd rx number) := ⟨rfl, fun _ _ h => by cases h⟩
theorem absent (rx : Rx) (target : Addr) : Statement (.absent rx target) := ⟨rfl, fun _ _ h => by cases h⟩
theorem inquire (rx : Rx) (p : InquirePayload) : Statement (.inquire rx p) := ⟨rfl, fun _ _ h => by cases h⟩
theorem answer (rx : Rx) (p : AnswerPayload) : Statement (.answer rx p) := ⟨rfl, fun _ _ h => by cases h⟩
theorem toolFrameReject (f : Frame) : Statement (.toolFrameReject f) := ⟨rfl, fun _ _ h => by cases h⟩
theorem frameVoided (raw : RawFrame) : Statement (.frameVoided raw) := ⟨rfl, fun _ _ h => by cases h⟩
theorem arbitrationLost : Statement .arbitrationLost := ⟨rfl, fun _ _ h => by cases h⟩
theorem addressClash : Statement .addressClash := ⟨rfl, fun _ _ h => by cases h⟩
theorem frameIncomplete : Statement .frameIncomplete := ⟨rfl, fun _ _ h => by cases h⟩
theorem frameBreak : Statement .frameBreak := ⟨rfl, fun _ _ h => by cases h⟩
theorem busFree : Statement .busFree := ⟨rfl, fun _ _ h => by cases h⟩
theorem holdRunsOutAtPeer (owner : Addr) (ch : Chan) : Statement (.holdRunsOutAtPeer owner ch) := ⟨rfl, fun _ _ h => by cases h⟩
theorem holdRunsOutAtOwner (ch : Chan) : Statement (.holdRunsOutAtOwner ch) := ⟨rfl, fun _ _ h => by cases h⟩
theorem renewalNeed (ch : Chan) : Statement (.renewalNeed ch) := ⟨rfl, fun _ _ h => by cases h⟩
theorem reqLevelChange (ch : Chan) (active : Bool) : Statement (.reqLevelChange ch active) := ⟨rfl, fun _ _ h => by cases h⟩
theorem debounceTimerRunsOut (ch : Chan) : Statement (.debounceTimerRunsOut ch) := ⟨rfl, fun _ _ h => by cases h⟩
theorem senseChange (ch : Chan) (active : Bool) : Statement (.senseChange ch active) := ⟨rfl, fun _ _ h => by cases h⟩
theorem senseGraceRunsOut (ch : Chan) : Statement (.senseGraceRunsOut ch) := ⟨rfl, fun _ _ h => by cases h⟩
theorem shedRestRunsOut (ch : Chan) : Statement (.shedRestRunsOut ch) := ⟨rfl, fun _ _ h => by cases h⟩
theorem inhPinChange (active : Bool) : Statement (.inhPinChange active) := ⟨rfl, fun _ _ h => by cases h⟩
theorem inhAsserted : Statement .inhAsserted := ⟨rfl, fun _ _ h => by cases h⟩
theorem inhReleased : Statement .inhReleased := ⟨rfl, fun _ _ h => by cases h⟩
theorem patienceTimerRunsOut (ch : Chan) : Statement (.patienceTimerRunsOut ch) := ⟨rfl, fun _ _ h => by cases h⟩
theorem shedWaitRunsOut (ch : Chan) : Statement (.shedWaitRunsOut ch) := ⟨rfl, fun _ _ h => by cases h⟩
theorem dwellTimeRunsOut (ch : Chan) (step : Fin 8) : Statement (.dwellTimeRunsOut ch step) := ⟨rfl, fun _ _ h => by cases h⟩
theorem awaitTimeoutRunsOut (ch : Chan) (step : Fin 8) : Statement (.awaitTimeoutRunsOut ch step) := ⟨rfl, fun _ _ h => by cases h⟩
theorem presenceTimerRunsOut : Statement .presenceTimerRunsOut := ⟨rfl, fun _ _ h => by cases h⟩
theorem listenWindowRunsOut : Statement .listenWindowRunsOut := ⟨rfl, fun _ _ h => by cases h⟩
theorem syncTimeoutRunsOut : Statement .syncTimeoutRunsOut := ⟨rfl, fun _ _ h => by cases h⟩
theorem absenceTimeReached (peer : Addr) : Statement (.absenceTimeReached peer) := ⟨rfl, fun _ _ h => by cases h⟩
theorem requestTimerRunsOut (peer : Addr) : Statement (.requestTimerRunsOut peer) := ⟨rfl, fun _ _ h => by cases h⟩
theorem sampleTimerRunsOut : Statement .sampleTimerRunsOut := ⟨rfl, fun _ _ h => by cases h⟩
theorem powerFailWarning : Statement .powerFailWarning := ⟨rfl, fun _ _ h => by cases h⟩
theorem vmainLost : Statement .vmainLost := ⟨rfl, fun _ _ h => by cases h⟩
theorem retentionLoss : Statement .retentionLoss := ⟨rfl, fun _ _ h => by cases h⟩
theorem vmainRise : Statement .vmainRise := ⟨rfl, fun _ _ h => by cases h⟩
theorem rstnLow : Statement .rstnLow := ⟨rfl, fun _ _ h => by cases h⟩
theorem rstnRelease : Statement .rstnRelease := ⟨rfl, fun _ _ h => by cases h⟩
theorem start (straps : Addr) : Statement (.start straps) := ⟨rfl, fun _ _ h => by cases h⟩
theorem imageHeaderRead (tag len : Byte) (clocks : Fin 10) : Statement (.imageHeaderRead tag len clocks) :=
  ⟨rfl, fun _ _ h => by cases h⟩
theorem imageReadComplete (rest : List Byte) : Statement (.imageReadComplete rest) := ⟨rfl, fun _ _ h => by cases h⟩
theorem imageAttemptFails (how : LinkFailure) : Statement (.imageAttemptFails how) := ⟨rfl, fun _ _ h => by cases h⟩
theorem clockStretchTimeout (clocks : Fin 10) (done : Nat) (bytes : List Byte) :
    Statement (.clockStretchTimeout clocks done bytes) :=
  ⟨rfl, fun _ _ h => by cases h⟩
theorem attemptRetryWaitElapsed : Statement .attemptRetryWaitElapsed := ⟨rfl, fun _ _ h => by cases h⟩

end Sys2Proof.Laws.F
end

