-- ==== Sys2Proof/Laws/Table.lean ====
section
/-! SUPPORT. What a table held as a list of (number, record) pairs reads as after each of its operations, and that each
operation keeps its canonical form. -/

namespace Sys2Proof.Machine

open Sys2Proof

variable {α : Type}

/-- The canonical form says that the numbers rise strictly. -/
theorem slotsRise_iff (t : List (Nat × α)) : slotsRise t = true ↔ (t.map (·.1)).Pairwise (· < ·) := by
  induction t with
  | nil => simp [slotsRise]
  | cons a t ih =>
    cases t with
    | nil => simp [slotsRise]
    | cons b t =>
      obtain ⟨i, x⟩ := a
      obtain ⟨j, y⟩ := b
      have step : slotsRise ((i, x) :: (j, y) :: t) = (decide (i < j) && slotsRise ((j, y) :: t)) := rfl
      rw [step, Bool.and_eq_true, ih, decide_eq_true_iff]
      simp only [List.map_cons, List.pairwise_cons, List.mem_cons, List.mem_map]
      constructor
      · rintro ⟨hij, hj, ht⟩
        refine ⟨?_, hj, ht⟩
        rintro k (rfl | hk)
        · exact hij
        · exact lt_trans hij (hj k hk)
      · rintro ⟨hi, hj, ht⟩
        exact ⟨hi j (Or.inl rfl), hj, ht⟩

/-- A number reads as no record exactly where it is not listed. -/
theorem slotGet_eq_none (t : List (Nat × α)) (n : Nat) : slotGet t n = none ↔ n ∉ t.map (·.1) := by
  induction t with
  | nil => simp [slotGet]
  | cons a t ih =>
    obtain ⟨k, v⟩ := a
    by_cases h : k = n
    · simp [slotGet, h]
    · simp only [slotGet, h, if_false, ih, List.map_cons, List.mem_cons, not_or]
      exact ⟨fun hn => ⟨fun he => h he.symm, hn⟩, fun hn => hn.2⟩

/-- A record that a number reads as is listed for it. -/
theorem slotGet_mem (t : List (Nat × α)) (n : Nat) (x : α) (h : slotGet t n = some x) : (n, x) ∈ t := by
  induction t with
  | nil => simp [slotGet] at h
  | cons a t ih =>
    obtain ⟨k, v⟩ := a
    by_cases hk : k = n
    · subst hk
      simp only [slotGet, if_true, Option.some.injEq] at h
      simp [h]
    · simp only [slotGet, hk, if_false] at h
      exact List.mem_cons_of_mem _ (ih h)

@[simp] theorem slotGet_slotPut_self (t : List (Nat × α)) (n : Nat) (x : α) : slotGet (slotPut t n x) n = some x := by
  induction t with
  | nil => simp [slotPut, slotGet]
  | cons a t ih =>
    obtain ⟨k, v⟩ := a
    by_cases hk : k = n
    · simp [slotPut, slotGet, hk]
    · by_cases hl : n < k
      · simp [slotPut, slotGet, hk, hl]
      · simp [slotPut, slotGet, hk, hl, ih]

theorem slotGet_slotPut_other (t : List (Nat × α)) (n m : Nat) (x : α) (h : m ≠ n) :
    slotGet (slotPut t n x) m = slotGet t m := by
  induction t with
  | nil => simp [slotPut, slotGet, Ne.symm h]
  | cons a t ih =>
    obtain ⟨k, v⟩ := a
    by_cases hk : k = n
    · subst hk
      simp [slotPut, slotGet, Ne.symm h]
    · by_cases hl : n < k
      · simp [slotPut, slotGet, hk, hl, Ne.symm h]
      · simp [slotPut, slotGet, hk, hl, ih]

@[simp] theorem slotGet_slotErase_self (t : List (Nat × α)) (n : Nat) : slotGet (slotErase t n) n = none := by
  rw [slotGet_eq_none]
  simp [slotErase]

theorem slotGet_slotErase_other (t : List (Nat × α)) (n m : Nat) (h : m ≠ n) :
    slotGet (slotErase t n) m = slotGet t m := by
  induction t with
  | nil => simp [slotErase, slotGet]
  | cons a t ih =>
    obtain ⟨k, v⟩ := a
    by_cases hk : k = n
    · have e : slotErase ((k, v) :: t) n = slotErase t n := by simp [slotErase, hk]
      have hm : ¬k = m := fun hkm => h (hkm.symm.trans hk)
      rw [e, ih]
      simp [slotGet, hm]
    · have e : slotErase ((k, v) :: t) n = (k, v) :: slotErase t n := by simp [slotErase, hk]
      rw [e]
      simp only [slotGet, ih]

theorem slotGet_slotMap (g : Nat → α → α) (t : List (Nat × α)) (n : Nat) :
    slotGet (slotMap g t) n = (slotGet t n).map (g n) := by
  induction t with
  | nil => simp [slotMap, slotGet]
  | cons a t ih =>
    obtain ⟨k, v⟩ := a
    simp only [slotMap] at ih ⊢
    by_cases hk : k = n
    · subst hk
      simp [slotGet]
    · simp [slotGet, hk, ih]

/-- Picking among the records keeps the canonical form. -/
theorem slotsRise_filter (p : Nat × α → Bool) (t : List (Nat × α)) (h : slotsRise t = true) :
    slotsRise (t.filter p) = true := by
  rw [slotsRise_iff] at h ⊢
  exact h.sublist (List.Sublist.map _ List.filter_sublist)

theorem slotsRise_slotErase (t : List (Nat × α)) (n : Nat) (h : slotsRise t = true) :
    slotsRise (slotErase t n) = true := slotsRise_filter _ t h

theorem slotsRise_slotMap (g : Nat → α → α) (t : List (Nat × α)) (h : slotsRise t = true) :
    slotsRise (slotMap g t) = true := by
  rw [slotsRise_iff] at h ⊢
  have : (slotMap g t).map (·.1) = t.map (·.1) := by simp [slotMap, Function.comp_def]
  rw [this]
  exact h

/-- The numbers listed after a record was put: the number itself, and those listed before. -/
theorem mem_slotPut (t : List (Nat × α)) (n : Nat) (x : α) (k : Nat) (h : k ∈ (slotPut t n x).map (·.1)) :
    k = n ∨ k ∈ t.map (·.1) := by
  by_cases hk : k = n
  · exact Or.inl hk
  · refine Or.inr ?_
    by_contra hn
    have h1 := (slotGet_eq_none t k).2 hn
    rw [← slotGet_slotPut_other t n k x hk] at h1
    exact (slotGet_eq_none _ k).1 h1 h

theorem slotsRise_slotPut (t : List (Nat × α)) (n : Nat) (x : α) (h : slotsRise t = true) :
    slotsRise (slotPut t n x) = true := by
  rw [slotsRise_iff] at h ⊢
  induction t with
  | nil => simp [slotPut]
  | cons a t ih =>
    obtain ⟨k, v⟩ := a
    simp only [List.map_cons, List.pairwise_cons] at h
    by_cases hk : k = n
    · subst hk
      simpa [slotPut] using h
    · by_cases hl : n < k
      · simp only [slotPut, hk, hl, if_false, if_true, List.map_cons, List.pairwise_cons]
        refine ⟨?_, h⟩
        intro m hm
        rcases List.mem_cons.1 hm with rfl | hm
        · exact hl
        · exact lt_trans hl (h.1 m hm)
      · simp only [slotPut, hk, hl, if_false, List.map_cons, List.pairwise_cons]
        refine ⟨?_, ih h.2⟩
        intro m hm
        rcases mem_slotPut t n x m hm with rfl | hm
        · omega
        · exact h.1 m hm

/-- The slot numbers of two pairs are equal only where the pairs are (R28). -/
theorem slotNo_inj (a b : Addr) (c d : Chan) (h : slotNo a c = slotNo b d) : a = b ∧ c = d := by
  unfold slotNo at h
  have hc := c.isLt
  have hd := d.isLt
  exact ⟨Fin.ext (by omega), Fin.ext (by omega)⟩

/-- A pair's slot belongs to its station (R28). -/
theorem ownedSlot_slotNo (a b : Addr) (c : Chan) : ownedSlot a (slotNo b c) = decide (a = b) := by
  have hc := c.isLt
  have hdiv : slotNo b c / 4 = b.val := by unfold slotNo; omega
  unfold ownedSlot
  rw [hdiv]
  by_cases h : a = b
  · simp [h]
  · have : ¬b.val = a.val := fun e => h (Fin.ext e.symm)
    simp [h, this]

/-! ## The Draw Table and the roster -/

@[simp] theorem drawSlot_fillSlot_self (s : State) (a : Addr) (c : Chan) (d : DrawSlot) :
    (s.fillSlot a c d).drawSlot a c = some d := by
  simp [State.fillSlot, State.drawSlot]

theorem drawSlot_fillSlot_other (s : State) (a b : Addr) (c e : Chan) (d : DrawSlot) (h : ¬(b = a ∧ e = c)) :
    (s.fillSlot a c d).drawSlot b e = s.drawSlot b e := by
  unfold State.fillSlot State.drawSlot
  exact slotGet_slotPut_other _ _ _ _ fun hn => h (slotNo_inj _ _ _ _ hn)

@[simp] theorem drawSlot_emptySlot_self (s : State) (a : Addr) (c : Chan) :
    (s.emptySlot a c).drawSlot a c = none := by
  simp [State.emptySlot, State.drawSlot]

theorem drawSlot_emptySlot_other (s : State) (a b : Addr) (c e : Chan) (h : ¬(b = a ∧ e = c)) :
    (s.emptySlot a c).drawSlot b e = s.drawSlot b e := by
  unfold State.emptySlot State.drawSlot
  exact slotGet_slotErase_other _ _ _ fun hn => h (slotNo_inj _ _ _ _ hn)

/-- The roster after one slot was rewritten: a slot that reads as at start is not listed. -/
theorem roster_modPeer (s : State) (a : Addr) (f : RosterSlot → RosterSlot) :
    (s.modPeer a f).member.roster
      = if f (s.peer a) = RosterSlot.atStart then slotErase s.member.roster a.val
        else slotPut s.member.roster a.val (f (s.peer a)) := rfl

/-- A slot of the roster after it was rewritten reads as rewritten, listed or not. -/
@[simp] theorem peer_modPeer_self (s : State) (a : Addr) (f : RosterSlot → RosterSlot) :
    (s.modPeer a f).peer a = f (s.peer a) := by
  have e : (s.modPeer a f).peer a = (slotGet (s.modPeer a f).member.roster a.val).getD RosterSlot.atStart := rfl
  rw [e, roster_modPeer]
  by_cases h : f (s.peer a) = RosterSlot.atStart
  · rw [if_pos h, slotGet_slotErase_self, h]; rfl
  · rw [if_neg h, slotGet_slotPut_self]; rfl

theorem peer_modPeer_other (s : State) (a b : Addr) (f : RosterSlot → RosterSlot) (h : b ≠ a) :
    (s.modPeer a f).peer b = s.peer b := by
  have hv : b.val ≠ a.val := fun e => h (Fin.ext e)
  have e : (s.modPeer a f).peer b = (slotGet (s.modPeer a f).member.roster b.val).getD RosterSlot.atStart := rfl
  rw [e, roster_modPeer]
  by_cases h' : f (s.peer a) = RosterSlot.atStart
  · rw [if_pos h', slotGet_slotErase_other _ _ _ hv]; rfl
  · rw [if_neg h', slotGet_slotPut_other _ _ _ _ hv]; rfl

/-- The roster's canonical form is kept by every rewriting of one slot. -/
theorem rosterRises_modPeer (s : State) (a : Addr) (f : RosterSlot → RosterSlot)
    (h : slotsRise s.member.roster = true) : slotsRise (s.modPeer a f).member.roster = true := by
  rw [roster_modPeer]
  split
  · exact slotsRise_slotErase _ _ h
  · exact slotsRise_slotPut _ _ _ h

/-- The roster's canonical form is kept by a rewriting of every slot. -/
theorem rosterRises_mapPeers (s : State) (f : Nat → RosterSlot → RosterSlot)
    (h : slotsRise s.member.roster = true) : slotsRise (s.mapPeers f).member.roster = true :=
  slotsRise_filter _ _ (slotsRise_slotMap _ _ h)

/-- No slot that reads as at start is listed after a rewriting of every slot. -/
theorem rosterListed_mapPeers (s : State) (f : Nat → RosterSlot → RosterSlot) :
    ∀ kv ∈ (s.mapPeers f).member.roster, kv.2 ≠ RosterSlot.atStart := by
  intro kv hkv
  simp only [State.mapPeers] at hkv
  simpa using (List.mem_filter.1 hkv).2

/-- The Draw Table's canonical form is kept by filling and emptying a slot. -/
theorem drawsRise_fillSlot (s : State) (a : Addr) (c : Chan) (d : DrawSlot) (h : slotsRise s.draws = true) :
    slotsRise (s.fillSlot a c d).draws = true := slotsRise_slotPut _ _ _ h

theorem drawsRise_emptySlot (s : State) (a : Addr) (c : Chan) (h : slotsRise s.draws = true) :
    slotsRise (s.emptySlot a c).draws = true := slotsRise_slotErase _ _ h

/-- The order that the queue is sorted by is the order of R47. -/
theorem entryBefore_iff (s : State) (a b : QueueEntry) : entryBefore s.markOf a b = true ↔ waitsBefore s a b := by
  unfold entryBefore waitsBefore State.markOf
  cases (s.chan a.ch).mark <;> cases (s.chan b.ch).mark <;> simp

/-- An insertion adds its element and loses none. -/
theorem insertBy_perm (before : α → α → Bool) (x : α) (l : List α) : (insertBy before x l).Perm (x :: l) := by
  induction l with
  | nil => exact List.Perm.refl _
  | cons y ys ih =>
    unfold insertBy
    split
    · exact List.Perm.refl _
    · exact (List.Perm.cons y ih).trans (List.Perm.swap x y ys)

/-- Sorting keeps the elements. -/
theorem sortBy_perm (before : α → α → Bool) (l : List α) : (sortBy before l).Perm l := by
  induction l with
  | nil => exact List.Perm.refl _
  | cons x xs ih => exact (insertBy_perm before x _).trans (List.Perm.cons x ih)

/-- A sorted list stays sorted by an insertion, where the order is transitive and decides between the new element and each
of the list's. -/
theorem insertBy_pairwise (before : α → α → Bool) (x : α) (l : List α)
    (trans : ∀ a b c, before a b = true → before b c = true → before a c = true)
    (total : ∀ y ∈ l, before x y = true ∨ before y x = true) (h : l.Pairwise fun a b => before a b = true) :
    (insertBy before x l).Pairwise fun a b => before a b = true := by
  induction l with
  | nil => simp [insertBy]
  | cons y ys ih =>
    have hy := List.pairwise_cons.mp h
    unfold insertBy
    split
    · next hb =>
      refine List.pairwise_cons.mpr ⟨fun z hz => ?_, h⟩
      rcases List.mem_cons.mp hz with rfl | hz
      · exact hb
      · exact trans _ _ _ hb (hy.1 z hz)
    · next hb =>
      refine List.pairwise_cons.mpr ⟨fun z hz => ?_, ih (fun z hz => total z (List.mem_cons_of_mem _ hz)) hy.2⟩
      rcases List.mem_cons.mp ((insertBy_perm before x ys).mem_iff.mp hz) with rfl | hz
      · exact (total y List.mem_cons_self).resolve_left hb
      · exact hy.1 z hz

/-- Sorting a list between whose elements a transitive order decides sorts it. -/
theorem sortBy_pairwise (before : α → α → Bool) (l : List α)
    (trans : ∀ a b c, before a b = true → before b c = true → before a c = true)
    (total : l.Pairwise fun a b => before a b = true ∨ before b a = true) :
    (sortBy before l).Pairwise fun a b => before a b = true := by
  induction l with
  | nil => exact List.Pairwise.nil
  | cons x xs ih =>
    have hx := List.pairwise_cons.mp total
    exact insertBy_pairwise before x _ trans (fun y hy => hx.1 y ((sortBy_perm before xs).mem_iff.mp hy)) (ih hx.2)

end Sys2Proof.Machine
end

