-- ==== Sys2Proof/Tests/Slice0.lean ====
section
/-! SUPPORT. The author's own tests: the smoke test of WellFormed, a few values the spec works out, and for every statement
with hypotheses a concrete state and operands that meet them together. -/

namespace Sys2Proof.Tests

set_option Elab.async false

open Sys2Proof Sys2Proof.Machine

/-! ## Commands that cannot occur -/

def peerRx : Rx := { sender := 9, acked := true }
def ownRx : Rx := { sender := 6, acked := true }
def nakRx : Rx := { sender := 6, acked := false }
def toolRx : Rx := { sender := 31, acked := true }

theorem test_wf_sender : (Instr.absent { sender := 0, acked := true } 4).wf = false := by decide
theorem test_wf_owner : (Instr.holdRunsOutAtPeer 31 0).wf = false ∧ (Instr.holdRunsOutAtPeer 0 0).wf = false := by decide
theorem test_wf_peer :
    (Instr.absenceTimeReached 0).wf = false ∧ (Instr.requestTimerRunsOut 31).wf = false
      ∧ (Instr.requestTimerRunsOut 30).wf = true := by decide
theorem test_wf_record :
    (Instr.answer peerRx { selector := 1, status := 0, index := 0, record := List.replicate 8 0 }).wf = false
      ∧ (Instr.answer peerRx { selector := 1, status := 0, index := 0, record := List.replicate 7 0 }).wf = true := by
  decide
theorem test_wf_tool :
    (Instr.toolFrameReject (.inquire { target := 4, selector := 1, index := 0 })).wf = false
      ∧ (Instr.toolFrameReject (.syncReq 0)).wf = true := by decide
theorem test_wf_raw : (Instr.frameVoided { breakLow := 0, breakGap := 0, slots := [] }).wf = false := by decide
theorem test_wf_image : (Instr.imageReadComplete []).wf = false := by decide
theorem test_wf_stretch :
    (Instr.clockStretchTimeout 0 0 (List.replicate 108 0)).wf = false
      ∧ (Instr.clockStretchTimeout 0 0 (List.replicate 107 0)).wf = true := by decide +kernel

/-! ## Values the spec works out -/

/-- The check of R169 over its nine bytes. -/
theorem test_crc16 : (crc16 [49#8, 50#8, 51#8, 52#8, 53#8, 54#8, 55#8, 56#8, 57#8]).toNat = 10673 := by decide +kernel

def slot (u : Urg) (d : Fin 64) : DrawSlot :=
  { urgency := u, sheddable := true, draw := d, shed := none, unconfirmed := false }

/-- Higher urgency value first, then larger draw, then higher slot number, and no more than the shortfall needs. -/
theorem test_shed_order :
    (shedSet [(12, slot 3 9), (21, slot 5 4), (22, slot 5 8), (30, slot 5 8)] 0 14).map (·.1) = [30, 22]
      ∧ shedSet [(12, slot 3 9)] 0 10 = [] := by decide +kernel

/-- A SETTLED of station 5, channel 1, driven at 100 us a slot, reads back. -/
theorem test_driven_frame :
    readFrame 100000 (driveFrame 100000 0 5 (.settled { ch := 1, seq := 12 })) = some (5, .settled { ch := 1, seq := 12 })
      := by decide +kernel

/-! ## A station that runs -/

def kind0 : ChannelConfig :=
  { requestMode := .level, debounce := 2, senseRequired := true, senseGrace := 10, sheddable := true, urgency := 4,
    inrush := 12, draw := 8, holdLimit := 30, patience := 3, suspendPolicy := .hold, restorePolicy := .previous,
    lookBack := 0,
    recipe := [.drive false true, .await true 50 true, .dwell 20 true, .drive true true, .dwell 5 false,
      .drive false false, .check true] }
def kind1 : ChannelConfig :=
  { requestMode := .toggle, debounce := 1, senseRequired := false, senseGrace := 1, sheddable := true, urgency := 2,
    inrush := 6, draw := 5, holdLimit := 30, patience := 1, suspendPolicy := .park, restorePolicy := .on, lookBack := 0,
    recipe := [.dwell 20 true, .drive true true] }
def kind2 : ChannelConfig :=
  { requestMode := .level, debounce := 1, senseRequired := false, senseGrace := 1, sheddable := false, urgency := 0,
    inrush := 9, draw := 30, holdLimit := 10, patience := 0, suspendPolicy := .hold, restorePolicy := .off, lookBack := 0,
    recipe := [.dwell 5 false] }

def image : Image :=
  { group :=
      { bitRate := 0, presence := 20, inrushBudget := 30, criticalMargin := 6, steadyBudget := 60, quorum := 1 }
    station := { samplePeriod := 10, shedRest := 5 }
    channels := { ch0 := .enabled kind0, ch1 := .enabled kind1, ch2 := .enabled kind2, ch3 := .notEnabled } }

/-- Station 6, IN_STEP, nothing under way. -/
def base : State :=
  { State.reset with
    power := { vmain := .good, domain := .vmain, phase := .running, warning := false, startDelay := none }
    retention := { State.reset.retention with mainPresent := true, pattern := .fixed }
    loader := { Loader.atStart with addr := some 6, image := some image, digest := some 77#16, result := .running }
    member := { Membership.atStart with state := .inStep, presenceTimer := some 1000 }
    history := { State.reset.history with joined := true }
    channels := (Four.same Channel.atStart).set 3 { Channel.atStart with state := .disabled } }

/-- The state after a command. -/
def after (c : Instr) (s : State) : State :=
  match exec c s with
  | .next t => t
  | .fault _ => s
  | .refused _ => s

/-- The station's own frame is on the bus. -/
def sending (f : Frame) (s : State) : State :=
  { s with bus :=
      { s.bus with tx := some { frame := f, urgency := 0, withdrawn := false, shedFor := none }, lineBusy := true } }

def inState (c : Chan) (st : ChanState) (s : State) : State := s.modChan c fun k => { k with state := st, latch := true }

def membership (m : MState) (s : State) : State := { s with member.state := m }

def entry (owner : Addr) (c : Chan) (q : Seq) : StartEntry :=
  { owner := owner, ch := c, seq := q, urgency := 4, sheddable := true, inrush := 12, draw := 8, holdLimit := 30,
    remaining := 600, holdRunning := true, renewals := 0, expirePending := false, unconfirmed := false }

def queued (c : Chan) (u : Urg) : QueueEntry :=
  { ch := c, stamp := 0, eff := u, patience := some 300, shedCalled := false, shedWait := none, voids := 0,
    offered := none }

/-- Peer 9 is PRESENT. -/
def withPeer (s : State) : State :=
  s.modPeer 9 fun x => { x with state := .present, lastHeard := some 5 }

/-- Channel 0's start runs at a step, its entry in the own copy. -/
def starting (step left : Nat) (s : State) : State :=
  let s := (inState 0 .starting s).modChan 0 fun k => { k with seq := some 3, pre := true }
  { s with
    starts := [entry 6 0 3]
    engine := { s.engine with running := some { ch := 0, step := step, timeLeft := left } } }

/-- A running recipe, a start in the PENDING slot and the records of a stack, each channel in the state that goes with it. -/
def engine (running : RunSlot) (waiting : Option Chan) (stack : List Context) (s : State) : State :=
  let s := (inState running.ch .starting s).modChan running.ch fun k => { k with seq := some 3, pre := true }
  let s :=
    match waiting with
    | some d => inState d .pending s
    | none => s
  let s := stack.foldl (fun s k => inState k.ch .suspended s) s
  { s with engine := { s.engine with running := some running, waiting := waiting, stack := stack } }

def at0 (step left : Nat) : RunSlot := { ch := 0, step := step, timeLeft := left }

/-- Channel 0 suspended before a step. -/
def record0 (next : Nat) (left : Option Nat) : Context :=
  { ch := 0, next := next, partialTime := left, policy := .hold, snapshot := none }

/-- Channel 1 suspended in its DWELL, its outputs parked. -/
def record1 : Context :=
  { ch := 1, next := 0, partialTime := some 70, policy := .park, snapshot := some { pre := true, main := false } }

/-- Channel 1's recipe takes no time. -/
def quick (s : State) : State :=
  { s with loader.image := some { image with channels.ch1 := .enabled { kind1 with recipe := [.drive true true] } } }

/-- Channel 0 parks its outputs. -/
def parking (s : State) : State :=
  let channels := s.image.channels.set 0 (.enabled { kind0 with suspendPolicy := .park })
  { s with loader.image := some { s.image with channels := channels } }

def claim1 : ClaimPayload :=
  { ch := 1, seq := 0, urgency := 2, sheddable := true, inrush := 6, draw := 5, hold := 30 }

/-- Channel 1's CLAIM is on the bus. -/
def claiming (s : State) : State :=
  sending (.claim claim1)
    { inState 1 .claiming s with queue.entries := [{ queued 1 2 with offered := some 0 }] }

/-- Nothing was fixed wrongly above: the station obeys the laws of channels, and so do its variants. -/
theorem test_base_operates : base.live = true ∧ (claiming base).live = true ∧ (starting 1 500 base).live = true := by
  decide +kernel

/-! ## Hypotheses are met: frames -/

theorem test_ClaimIsJudged :
    base.takesOther peerRx (.claim claim1) = true ∧ claim1.inrush ≠ 0 ∧ claim1.hold ≠ 0
      ∧ base.admissionTest 9 1 2 6 5 = .admitted
      ∧ { base with starts := [entry 9 1 0] }.admissionTest 9 1 2 6 5 = .duplicate
      ∧ base.admissionTest 9 1 2 30 60 = .admitted ∧ base.admissionTest 9 1 2 31 5 = .inrush
      ∧ base.admissionTest 9 1 0 36 5 = .admitted ∧ base.admissionTest 9 1 0 37 5 = .inrush
      ∧ base.admissionTest 9 1 2 30 61 = .draw
      ∧ { base with starts := List.replicate 32 (entry 4 0 0) }.admissionTest 9 1 2 1 1 = .full
      ∧ { base with starts := List.replicate 31 (entry 4 0 0) }.admissionTest 9 1 2 1 1 = .inrush := by decide +kernel

theorem test_OwnClaimVerdict :
    (claiming base).takesOwn ownRx (.claim claim1) = true
      ∧ (after (.claim ownRx claim1) (claiming base)).queue.claimSeq = 1
      ∧ ((after (.claim ownRx claim1) (claiming base)).chan 1).state = .starting
      ∧ (after (.claim ownRx claim1) { claiming base with draws := [(36, slot 3 60)] }).bus.counters.refused = 1
      ∧ ((after (.claim ownRx claim1) { claiming base with draws := [(36, slot 3 60)] }).chan 1).state = .queued
      ∧ (after (.claim ownRx claim1) { claiming base with draws := [(36, slot 3 60)] }).queue.entries = [queued 1 2]
      ∧ (claiming base).queueEntry 1 = some { queued 1 2 with offered := some 0 } ∧ (claiming base).notice = false
      ∧ ownRx.acked = true
      ∧ base.takes peerRx (.claim { claim1 with inrush := 0 }) = true
      ∧ base.takes peerRx (.claim { claim1 with hold := 0 }) = true := by decide +kernel

def withdrawn : State :=
  { (base.modChan 1 fun k => { k with state := .idle }) with
    bus := { base.bus with
      lineBusy := true, tx := some { frame := .claim claim1, urgency := 2, withdrawn := true, shedFor := none } } }

theorem test_withdrawn_claim :
    withdrawn.takesOwn ownRx (.claim claim1) = true ∧ withdrawn.claimWithdrawn = true
      ∧ ((after (.claim ownRx claim1) withdrawn).chan 1).release = .abandoned .requestOff := by decide +kernel

theorem test_AdmittedStartBegins :
    (claiming base).takesOwn ownRx (.claim claim1) = true ∧ (claiming base).claimWithdrawn = false
      ∧ (claiming base).admissionTest 6 1 2 6 5 = .admitted ∧ (claiming base).engine = Engine.atStart
      ∧ (after (.claim ownRx claim1) (claiming base)).engine.running = some { ch := 1, step := 0, timeLeft := 200 }
      ∧ ((after (.claim ownRx claim1) (claiming (quick base))).chan 1).state = .settling
      ∧ (runEnd { claiming base with inh.asserted := true } 1 0).slot 1 ≠ none
      ∧ ((after (.claim ownRx claim1) { claiming base with inh.asserted := true }).chan 1).release
        = .abandoned .inhibit := by
  decide +kernel

/-- At the yieldable step 1 channel 0 is suspended, at step 4 it is not. -/
theorem test_AdmittedStartPreempts :
    (claiming (starting 1 500 base)).takesOwn ownRx (.claim claim1) = true
      ∧ (claiming (starting 1 500 base)).admissionTest 6 1 2 6 5 = .admitted
      ∧ (claiming (starting 1 500 base)).stepOf { ch := 0, step := 1, timeLeft := 500 } = some (.await true 50 true)
      ∧ ((claiming (starting 1 500 base)).cfg 1).recipe = [.dwell 20 true, .drive true true]
      ∧ ((after (.claim ownRx claim1) (claiming (starting 1 500 base))).chan 0).state = .suspended
      ∧ (claiming (starting 4 50 base)).stepOf { ch := 0, step := 4, timeLeft := 50 } = some (.dwell 5 false)
      ∧ ((after (.claim ownRx claim1) (claiming (starting 4 50 base))).chan 1).state = .pending := by decide +kernel

/-- A new start that ends at once gives the engine back: the interrupted DWELL of channel 0 goes on with its time left, and
channel 1's recipe, here the running one, has its parked outputs back. -/
theorem test_preempting_start_ends_at_once :
    let s := claiming (quick (starting 2 70 base))
    let u := claiming (parking (quick (starting 2 70 base)))
    (runEnd s 1 0).slot 1 = none ∧ s.stepOf (at0 2 70) = some (.dwell 20 true)
      ∧ (after (.claim ownRx claim1) s).engine.running = some (at0 2 70)
      ∧ (after (.claim ownRx claim1) u).engine.running = some (at0 2 70)
      ∧ ((after (.claim ownRx claim1) u).chan 0).pre = true
      ∧ ((after (.claim ownRx claim1) (claiming (quick (starting 1 70 base)))).chan 0).state = .starting := by
  decide +kernel

def renew0 (n : Fin 16) : RenewPayload := { ch := 0, seq := 3, count := n }

theorem test_RenewRestartsTheHold :
    { base with starts := [entry 9 0 3] }.takesOther peerRx (.renew (renew0 3)) = true
      ∧ (sending (.renew (renew0 1)) (starting 1 500 base)).takesOwn ownRx (.renew (renew0 1)) = true
      ∧ ((after (.renew ownRx (renew0 1)) (sending (.renew (renew0 1)) (starting 1 500 base))).chan 0).renewals = 1
      ∧ renewApplies (entry 9 0 3) 0 = false ∧ renewApplies (entry 9 0 3) 1 = true
      ∧ renewApplies (entry 9 0 3) 3 = true ∧ renewApplies (entry 9 0 3) 4 = false
      ∧ (sending (.renew (renew0 1)) (starting 1 500 base)).takesPart = true := by decide +kernel

def settling (s : State) : State :=
  { (inState 0 .settling s).modChan 0 (fun k => { k with seq := some 3, release := .settled, main := true }) with
    starts := [entry 6 0 3] }

def settled0 : SettledPayload := { ch := 0, seq := 3 }

theorem test_SettledMovesTheEntry :
    { base with starts := [entry 9 0 3] }.takesOther peerRx (.settled settled0) = true
      ∧ ({ base with starts := [entry 9 0 3] }.namedEntry 9 0 3).isSome = true ∧ base.namedEntry 9 0 3 = none
      ∧ (sending (.settled settled0) (settling base)).takesOwn ownRx (.settled settled0) = true
      ∧ (settling base).pins.sense.get 0 = false ∧ ((settling base).cfg 0).senseRequired = true
      ∧ ((after (.settled ownRx settled0) (sending (.settled settled0) (settling base))).chan 0).state = .on
      ∧ (sending (.settled settled0)
          ((settling base).modChan 0 fun k => { k with state := .idle, settleWithdrawn := true })).takesOwn ownRx
          (.settled settled0) = true := by decide +kernel

/-- A withdrawn SETTLED that names no entry is an event too: the exhausted head is offered again (R51). -/
theorem test_withdrawn_settled_is_an_event :
    let s := (inState 1 .queued (settling base)).modChan 0 fun k => { k with state := .idle, settleWithdrawn := true }
    let s := sending (.settled settled0) { s with starts := [], queue.entries := [queued 1 2] }
    ((after (.settled ownRx settled0) s).chan 0).release = .stopped .requestOff
      ∧ ((after (.settled ownRx settled0) s).chan 1).state = .claiming := by decide +kernel

theorem test_AbandonedAndStoppedReleaseThePair :
    { base with starts := [entry 9 0 3] }.takesOther peerRx (.abandoned { ch := 0, seq := 3, reason := 1 }) = true
      ∧ (sending (.abandoned { ch := 0, seq := 3, reason := 1 }) base).takesOwn ownRx
        (.abandoned { ch := 0, seq := 3, reason := 1 }) = true
      ∧ base.takesOther peerRx (.stopped { ch := 0, reason := 5 }) = true
      ∧ (sending (.stopped { ch := 0, reason := 5 }) base).takesOwn ownRx (.stopped { ch := 0, reason := 5 }) = true := by
  decide +kernel

def expire0 : ExpirePayload := { owner := 6, ch := 0, seq := 3 }

theorem test_ExpireRemovesTheEntry :
    base.takesOther peerRx (.expire { expire0 with owner := 4 }) = true ∧ base.own = 6
      ∧ base.takesOther peerRx (.expire expire0) = true ∧ base.namedEntry 6 0 3 = none := by decide +kernel

theorem test_ExpireOfTheOwnEntry :
    (starting 1 500 base).takesOther peerRx (.expire expire0) = true ∧ EngineLaw (starting 1 500 base)
      ∧ ((starting 1 500 base).namedEntry 6 0 3).isSome = true ∧ ((starting 1 500 base).chan 0).state.inEngine = true
      ∧ ((settling base).chan 0).state = .settling ∧ EngineLaw (settling base)
      ∧ ((settling base).namedEntry 6 0 3).isSome = true
      ∧ EngineLaw ((settling base).modChan 0 fun k => { k with state := .faulted, release := .abandoned .recipeFailed })
      := by unfold EngineLaw; decide +kernel

theorem test_ShedSetCoversTheShortfall :
    slotsRise [(12, slot 3 9), (21, slot 5 4)] = true
      ∧ (shedSet [(12, slot 3 9), (21, slot 5 4)] 0 13).map (·.1) = [21, 12]
      ∧ (shedSet [(12, slot 3 9), (21, slot 5 4)] 0 4).map (·.1) = [21]
      ∧ shedSet [(12, slot 3 9), (21, slot 5 4)] 0 14 = [] := by decide +kernel

def call (n : Fin 2048) : ShedCallPayload := { callerUrgency := 0, shortfall := n, callSeq := 4 }

def running0 : State := { inState 0 .on base with draws := [(24, slot 4 8)] }

theorem test_ShedCallMarksTheSet :
    running0.takes peerRx (.shedCall (call 8)) = true ∧ (shedSet running0.draws 0 8).map (·.1) = [slotNo running0.own 0]
      ∧ ((after (.shedCall peerRx (call 8)) running0).chan 0).state = .shed
      ∧ (shedSet running0.draws 0 9) = [] ∧ running0.takes peerRx (.shedCall (call 0)) = true
      ∧ running0.takes peerRx (.shedCall { call 8 with callerUrgency := 1 }) = true := by decide +kernel

def calling : State :=
  { inState 2 .queued base with
    queue.entries := [queued 2 0]
    bus := { base.bus with
      lineBusy := true, tx := some { frame := .shedCall (call 8), urgency := 0, withdrawn := false, shedFor := some 2 } } }

theorem test_CallerWaitsForTheShed :
    calling.takesOwn ownRx (.shedCall (call 8)) = true ∧ queued 2 0 ∈ calling.queue.entries := by decide +kernel

theorem test_EveryOwnFrameAccepted :
    (sending (.syncReq 0) base).takesOwn nakRx (.syncReq 0) = true ∧ base.own ≠ toolAddr
      ∧ (after (.syncReq nakRx 0) { sending (.syncReq 0) base with bus.unackRun := 2 }).member.state = .isolated := by
  decide +kernel

theorem test_EveryPeerFrameAccepted :
    base.takesOther peerRx (.syncReq 4) = true ∧ (base.peer 9).state = .unknown
      ∧ ((after (.syncReq peerRx 4) base).peer 9).suspect = true
      ∧ base.takesOther peerRx (.recountEnd 3) = true ∧ (base.peer 9).owed = false ∧ base.presenceMs ≠ 0
      ∧ ((after (.recountEnd peerRx 3) base).peer 9).suspect = true
      ∧ ((after (.syncReq peerRx 4) ((withPeer base).modPeer 9 fun x => { x with absentPending := true })).peer
          9).absentPending = false
      ∧ (membership .isolated base).takesOther peerRx (.syncReq 4) = true
      ∧ (after (.syncReq peerRx 4) (membership .isolated base)).member.state = .syncing := by decide +kernel

def hello : HelloPayload := { digest := 5#16, startKind := 1, outages := 2 }

theorem test_HelloBeginsThePeerAfresh :
    base.takesOther peerRx (.hello hello) = true ∧ (sending (.hello hello) base).takesOwn ownRx (.hello hello) = true := by
  decide +kernel

/-- STAT is judged at each change: SYNCING at 1 Hz, then discord at 4 Hz from its first on phase (R180). -/
theorem test_stat_is_judged_at_each_change :
    let s := { membership .isolated (withPeer base) with indicators := { stat := .blink4, elapsed := 200, flt := false } }
    s.statPattern = .blink4 ∧ (after (.hello peerRx hello) s).member.state = .syncing
      ∧ (after (.hello peerRx hello) s).member.discord = true
      ∧ (after (.hello peerRx hello) s).indicators = { stat := .blink4, elapsed := 0, flt := false } := by decide +kernel

def presence (n : Fin 64) : PresencePayload := { mstate := 4, draws := 0, starts := n, digest := 77#16 }

theorem test_PresenceIsCompared :
    (withPeer base).takesOther peerRx (.presence (presence 0)) = true ∧ ((withPeer base).peer 9).state = .present
      ∧ ((after (.presence peerRx (presence 0)) (withPeer base)).peer 9).suspect = false
      ∧ ((after (.presence peerRx (presence 1)) (withPeer base)).peer 9).suspect = true
      ∧ (after (.presence peerRx { presence 0 with digest := 76#16 }) (withPeer base)).member.discord = true
      ∧ (withPeer base).member.discord = false
      ∧ (after (.presence peerRx { presence 0 with digest := 76#16 }) (withPeer base)).faults.records.map (·.kind)
        = [.discordSeen]
      ∧ base.takesOther peerRx (.presence (presence 0)) = true ∧ (base.peer 9).state ≠ .present
      ∧ ((after (.presence peerRx (presence 0)) base).peer 9).suspect = true
      ∧ ((after (.presence peerRx (presence 0)) (membership .listen base)).peer 9).suspect = false := by
  decide +kernel

def requesting (r : OwnRequest) (target : Addr) : State :=
  sending (.syncReq target) { membership .syncing (withPeer base) with member.ownRequest := some r }

/-- Peer 9 is PRESENT and SUSPECT. -/
def doubting : State := (withPeer base).modPeer 9 fun x => { x with suspect := true }

theorem test_SyncReqSatisfiesTheRequest :
    doubting.takes peerRx (.syncReq 9) = true ∧ (doubting.peer 9).suspect = true
      ∧ ((after (.syncReq peerRx 9) doubting).peer 9).requestTimer = some 1000
      ∧ slotsRise doubting.draws = true ∧ slotsRise doubting.member.roster = true
      ∧ (∀ kv ∈ doubting.member.roster, kv.2 ≠ RosterSlot.atStart) ∧ (doubting.peer 4).suspect = false
      ∧ doubting.takes { peerRx with sender := 4 } (.syncReq 3) = true
      ∧ ((after (.syncReq { peerRx with sender := 4 } 3) doubting).peer 9).requestTimer = none := by decide +kernel

theorem test_SyncReqBeginsRounds :
    base.takes peerRx (.syncReq 0) = true ∧ base.takes peerRx (.syncReq 31) = true
      ∧ (requesting .all 0).takesOwn ownRx (.syncReq 0) = true ∧ (requesting .all 0).isOwnRequest 0 = true
      ∧ (after (.syncReq ownRx 0) (requesting .all 0)).member.awaited = [9]
      ∧ (requesting .self 6).takesOwn ownRx (.syncReq 6) = true ∧ (requesting .self 6).isOwnRequest 6 = true := by
  decide +kernel

def recount : RecountPayload :=
  { isDraw := false, ch := 0, urgency := 3, sheddable := true, inrush := 4, draw := 5, renewals := 1, hold := 9, seq := 8 }

theorem test_RecountOfAStart :
    base.takes peerRx (.recount recount) = true ∧ base.pairEntry 9 0 = none
      ∧ ({ base with starts := [entry 9 0 3] }.pairEntry 9 0).isSome = true
      ∧ { base with starts := List.replicate 32 (entry 4 0 0) }.pairEntry 9 0 = none
      ∧ (sending (.recount recount) base).takesOwn ownRx (.recount recount) = true
      ∧ base.takesOther peerRx (.recount { recount with hold := 0 }) = true
      ∧ base.takesOther peerRx (.recount { recount with inrush := 0 }) = true
      ∧ ((withPeer base).modPeer 9 fun x => { x with owed := true }).takesOther peerRx (.recount recount) = true := by
  decide +kernel

/-- The own RECOUNT that carries hold 0 runs the hold of the tracked start out at its owner. -/
theorem test_own_RECOUNT_hold_0 :
    let p := { recount with hold := 0, seq := 3 }
    let s := sending (.recount p) (starting 1 500 base)
    s.takesOwn ownRx (.recount p) = true ∧ EngineLaw s ∧ s.tracked 0 = true ∧ (s.chan 0).seq = some 3
      ∧ (s.pairEntry 6 0).isSome = true
      ∧ ((after (.recount ownRx p) s).chan 0).release = .abandoned .holdExceeded
      ∧ (sending (.recount p) base).takesOwn ownRx (.recount p) = true ∧ base.tracked 0 = false := by
  unfold EngineLaw; decide +kernel

def awaiting : State :=
  let s := (withPeer base).modPeer 9 fun x => { x with owed := true, heard := 2 }
  { membership .syncing s with member.ownAccepted := true, member.awaited := [9] }

theorem test_RecountOfADraw :
    base.takes peerRx (.recount { recount with isDraw := true }) = true
      ∧ awaiting.takesOther peerRx (.recount { recount with isDraw := true }) = true ∧ (awaiting.peer 9).owed = true
      ∧ ((after (.recount peerRx { recount with isDraw := true }) awaiting).peer 9).heard = 3
      ∧ (sending (.recount { recount with isDraw := true }) base).takesOwn ownRx (.recount { recount with isDraw := true })
        = true := by decide +kernel

theorem test_RecountEndClosesTheRound :
    awaiting.takesOther peerRx (.recountEnd 2) = true ∧ (awaiting.peer 9).owed = true
      ∧ awaiting.member.round.active = false ∧ (after (.recountEnd peerRx 2) awaiting).member.state = .inStep
      ∧ ((after (.recountEnd peerRx 1) awaiting).peer 9).suspect = true
      ∧ (sending (.recountEnd 2) base).takesOwn ownRx (.recountEnd 2) = true := by decide +kernel

theorem test_AbsentPeerIsRemoved :
    base.takes peerRx (.absent 4) = true ∧ (base.peer 4).state ≠ .absent ∧ base.takes peerRx (.absent 0) = true
      ∧ base.takes peerRx (.absent 31) = true := by decide +kernel

theorem test_AbsentSelfRequeuesTheStarts :
    (starting 1 500 base).takesOther peerRx (.absent (starting 1 500 base).own) = true
      ∧ ((after (.absent peerRx 6) (starting 1 500 base)).chan 0).state = .queued
      ∧ (membership .listen base).takesOther peerRx (.absent 6) = true := by decide +kernel

theorem test_InquiryFrames :
    base.takes toolRx (.inquire { target := 6, selector := 1, index := 0 }) = true
      ∧ (after (.inquire toolRx { target := 6, selector := 1, index := 0 }) base).answer.isSome = true
      ∧ base.takesOther peerRx (.answer { selector := 1, status := 1, index := 0, record := [] }) = true
      ∧ (sending (.answer { selector := 1, status := 1, index := 0, record := [] }) base).takesOwn ownRx
        (.answer { selector := 1, status := 1, index := 0, record := [] }) = true
      ∧ base.takesPart = true ∧ base.bus.tx = none ∧ (Frame.syncReq 4).isInquire = false := by decide +kernel

/-- The ANSWER read by every selector names a record at each end of its indexes, and none beyond. -/
theorem test_AnswerNamesARecordOrNone :
    let s := { withPeer (starting 1 500 base) with draws := [(36, slot 5 9)] }
    let status := fun (selector : Fin 16) (index : Fin 256) =>
      (answerFrame s { selector := selector, index := index, voids := 0 }).status.val
    [status 1 0, status 2 1, status 2 30, status 3 0, status 4 4, status 4 36, status 4 123, status 5 3, status 6 3,
        status 8 0, status 8 10] = List.replicate 11 0
      ∧ [status 1 1, status 2 0, status 2 6, status 2 31, status 3 1, status 4 3, status 4 124, status 5 4, status 6 4,
        status 7 0, status 8 11, status 9 0] = List.replicate 12 1
      ∧ (answerFrame s { selector := 5, index := 0, voids := 0 }).record = [0x58#8, 2#8, 3#8, 0x91#8, 0#8, 0#8, 0#8]
      ∧ (answerFrame s { selector := 4, index := 36, voids := 0 }).record = [0x95#8, 36#8, 0#8, 0#8]
      ∧ (answerFrame s { selector := 3, index := 0, voids := 0 }).record
        = [0x30#8, 3#8, 0x90#8, 48#8, 32#8, 30#8, 30#8] := by decide +kernel

/-! ## Hypotheses are met: bus events -/

theorem test_VoidedFrames :
    ∀ f ∈ [.stopped { ch := 0, reason := 1 }, .abandoned { ch := 0, seq := 1, reason := 1 }, .settled settled0,
        .renew (renew0 1), .shedCall (call 8), .syncReq 0, .syncReq 9, .hello hello, .presence (presence 0),
        .answer { selector := 1, status := 1, index := 0, record := [] }],
      (sending f base).takesPart = true ∧ base.takesPart = true ∧ base.live = true := by
  decide +kernel

def noSlots : RawFrame := { breakLow := 0, breakGap := 0, slots := [] }

/-- The eighth voids of a release, a SHED_CALL, an own and an owed SYNC_REQ and a HELLO, and a settle taken back. -/
theorem test_eighth_voids :
    let owed := sending (.syncReq 9) ((withPeer base).modPeer 9 fun x => { x with suspect := true, requestVoids := 7 })
    let shed := { calling with queue.shedCall := some { ch := 2, callSeq := 4, voids := 7 } }
    let back := sending (.settled settled0) ((settling base).modChan 0 fun k => { k with settleWithdrawn := true })
    let kinds := fun s : State => (after (.frameVoided noSlots) s).faults.records.map (·.kind)
    (after (.frameVoided noSlots) { sending (.settled settled0) (settling base) with
        bus.releaseVoids := Four.same 7 }).bus.degraded = true
      ∧ ((after (.frameVoided noSlots) back).chan 0).release = .abandoned .requestOff
      ∧ (after (.frameVoided noSlots) shed).queue.shedCall = none ∧ kinds shed = [.retryExhausted]
      ∧ (after (.frameVoided noSlots) { shed with queue.shedCall := some { ch := 2, callSeq := 4, voids := 6 } }
        ).queue.shedCall = some { ch := 2, callSeq := 4, voids := 7 }
      ∧ kinds { requesting .all 0 with member.ownVoids := 7 } = [.retryExhausted]
      ∧ (owed.peer 9).requestOwed = true ∧ owed.isOwnRequest 9 = false ∧ kinds owed = [.retryExhausted]
      ∧ kinds { sending (.hello hello) base with member.helloVoids := 7 } = [.retryExhausted]
      ∧ (after (.frameVoided noSlots) (sending (.hello hello) base)).member.helloVoids = 1 := by decide +kernel

/-- A good frame of another station, one of illegal shape, and one cut short, which is incomplete (R149, R154, R156). -/
theorem test_void_frames_of_others :
    let good := driveFrame 100000 0 9 (.settled settled0)
    let cut := { good with slots := good.slots.dropLast }
    let ragged := { good with breakGap := 0 }
    let objections := fun raw s => (after (.frameVoided raw) s).bus.counters.objections
    let mstate := fun raw s => (after (.frameVoided raw) s).member.state
    frameIncomplete 100000 good = false ∧ objections good base = 0 ∧ mstate good base = .inStep
      ∧ frameIncomplete 100000 ragged = false ∧ objections ragged base = 1 ∧ mstate ragged base = .inStep
      ∧ frameIncomplete 100000 cut = true ∧ objections cut base = 1 ∧ mstate cut base = .syncing
      ∧ objections cut (membership .listen base) = 1 ∧ mstate cut (membership .listen base) = .listen := by
  decide +kernel

theorem test_VoidedClaimIsRetried :
    (claiming base).takesPart = true ∧ (claiming base).live = true ∧ (claiming base).notice = false
      ∧ (claiming base).queue.entries.map (·.ch) = [1]
      ∧ (after (.frameVoided noSlots) (claiming base)).queue.entries.map (·.voids) = [1] := by decide +kernel

/-- Channel 1's CLAIM is on the bus for the eighth time, behind channel 2's entry of urgency 0. -/
def claimingBehind : State :=
  { inState 2 .queued (claiming base) with
    queue.entries := [{ queued 2 0 with stamp := 1 }, { queued 1 2 with offered := some 0, voids := 7 }] }

/-- The eighth void has its record behind another head, and while INH is asserted (R57, R59, R60); a withdrawn claim has
none. -/
theorem test_eighth_void_is_recorded :
    claimingBehind.takesPart = true ∧ claimingBehind.live = true ∧ claimingBehind.isHead 1 = false
      ∧ claimingBehind.queueEntry 1 = some { queued 1 2 with offered := some 0, voids := 7 }
      ∧ (after (.frameVoided noSlots) claimingBehind).queue.entries.map (fun e => (e.ch, e.voids)) = [(2, 0), (1, 0)]
      ∧ ((after (.frameVoided noSlots) claimingBehind).chan 2).state = .claiming
      ∧ (after (.frameVoided noSlots) claimingBehind).faults.records.map (fun r => (r.kind, r.ch))
        = [(.retryExhausted, some 1)]
      ∧ (after (.frameVoided noSlots) { claimingBehind with
          queue.entries := [{ queued 1 2 with offered := some 0, voids := 7 }], inh.asserted := true }).faults.records.map
            (·.kind) = [.retryExhausted]
      ∧ withdrawn.takesPart = true ∧ (after (.frameVoided noSlots) withdrawn).faults.records = [] := by decide +kernel

theorem test_ArbitrationLossIsNoOutcome :
    (sending (.renew (renew0 1)) base).operating = true ∧ (sending (.renew (renew0 1)) base).bus.lineBusy = true
      ∧ (claiming base).isHead 1 = true ∧ (claiming base).inh.asserted = false
      ∧ ((after .arbitrationLost (claiming base)).chan 1).state = .claiming
      ∧ (withdrawn.chan 1).state = .idle ∧ (withdrawn.chan 1).latch = false
      ∧ ((after .arbitrationLost withdrawn).chan 1).state = .idle
      ∧ ((after .arbitrationLost (withdrawn.modChan 1 fun k => { k with latch := true })).chan 1).state = .claiming
      ∧ ((after .arbitrationLost
          (sending (.settled settled0) ((settling base).modChan 0 fun k => { k with settleWithdrawn := true }))).chan
            0).release = .abandoned .requestOff := by decide +kernel

theorem test_SecondClashHalts :
    base.takesPart = true ∧ (after .addressClash base).takesPart = true ∧ base.bus.counters.clashes = 0
      ∧ (after .addressClash base).member.state = .inStep
      ∧ (after .addressClash (after .addressClash base)).member.state = .halted := by decide +kernel

theorem test_IncompleteFrameAsksForARecount :
    base.takesPart = true ∧ (membership .listen base).takesPart = true
      ∧ (after .frameIncomplete base).member.state = .syncing := by decide +kernel

theorem test_BreakBeginsAFrame :
    let free := { settling base with bus := { base.bus with free := true } }
    base.operating = true ∧ base.bus.tx = none ∧ base.bus.free = false
      ∧ (after .frameBreak base).bus.receiving = true
      ∧ free.operating = true ∧ free.live = true ∧ free.bus.tx = none ∧ free.bus.lineBusy = false
      ∧ free.member.state.permits .release = true ∧ (free.build .release).2.isSome = true
      ∧ (after .frameBreak free).bus.tx.map (·.frame) = some (.settled settled0)
      ∧ (after .frameBreak { base with bus := { base.bus with free := true } }).bus.receiving = true
      ∧ (after .frameBreak (claiming base)).bus.tx = (claiming base).bus.tx
      ∧ State.reset.operating = false := by decide +kernel

theorem test_FreeBusSendsTheReleaseFirst :
    let expired := { base with starts := [{ entry 9 0 3 with expirePending := true }] }
    let asked := { base with member.ownRequest := some .all }
    let owed := (withPeer base).modPeer 9 fun x => { x with suspect := true }
    (settling base).live = true ∧ (settling base).releaseFrame 0 = some (.settled settled0)
      ∧ (after .busFree (settling base)).bus.tx.map (·.frame) = some (.settled settled0)
      ∧ base.notice = false ∧ asked.member.state.permits .syncReq = true ∧ (asked.build .syncReq).2.isSome = true
      ∧ (after .busFree expired).bus.tx.map (·.frame) = some (.expire { owner := 9, ch := 0, seq := 3 })
      ∧ (after .busFree asked).bus.tx.map (·.frame) = some (.syncReq 0)
      ∧ (after .busFree { asked with member.ownRequest := some .self }).bus.tx.map (·.frame) = some (.syncReq 6)
      ∧ (after .busFree owed).bus.tx.map (·.frame) = some (.syncReq 9) := by decide +kernel

def offered : State :=
  { inState 1 .claiming base with queue.entries := [queued 1 2] }

theorem test_ClaimRenewAndShedCallBeginOnlyWhereTheyMay :
    let renewing := { starting 1 500 base with starts := [{ entry 6 0 3 with remaining := 149 }] }
    let short := { inState 2 .queued base with
      queue.entries := [queued 2 0], draws := [(36, slot 5 35)], notice := true }
    offered.bus.tx = none ∧ (after .busFree offered).bus.tx.map (·.frame) = some (.claim claim1)
      ∧ (after .busFree renewing).bus.tx.map (·.frame) = some (.renew (renew0 1))
      ∧ (after .busFree { renewing with starts := [{ entry 6 0 3 with remaining := 150 }] }).bus.tx = none
      ∧ (after .busFree short).bus.tx.map (·.frame)
        = some (.shedCall { callerUrgency := 0, shortfall := 5, callSeq := 0 }) := by decide +kernel

theorem test_FrameBeginsOnlyWherePermitted :
    (settling base).bus.tx = none ∧ (after .busFree (settling base)).bus.tx.isSome = true := by decide +kernel

/-! ## Hypotheses are met: timers and lines -/

theorem test_HoldRunsOut :
    base.operating = true ∧ (9 : Addr) ≠ base.own ∧ (starting 1 500 base).pairEntry 6 0 = some (entry 6 0 3)
      ∧ (starting 1 500 base).live = true ∧ (starting 1 500 base).tracked 0 = true
      ∧ (starting 1 500 base).trackedEntry 0 = some (entry 6 0 3) := by decide +kernel

theorem test_HoldExceededAborts :
    EngineLaw (starting 1 500 base) ∧ (starting 1 500 base).pairEntry (starting 1 500 base).own 0 = some (entry 6 0 3)
      ∧ (starting 1 500 base).tracked 0 = true ∧ ((starting 1 500 base).chan 0).seq = some (entry 6 0 3).seq
      ∧ EngineLaw (settling base) ∧ (settling base).pairEntry 6 0 = some (entry 6 0 3)
      ∧ (settling base).tracked 0 = false := by
  unfold EngineLaw; decide +kernel

/-- REQn of a channel at a level, its debounce timer running. -/
def pressed (c : Chan) (level : Bool) (s : State) : State :=
  { s with pins.req := s.pins.req.set c level }.modChan c fun k => { k with debounceTimer := some 0, debounced := !level }

/-- The entry of a channel's start beside others in the engine. -/
def withEntry (c : Chan) (s : State) : State :=
  { s.modChan c (fun k => { k with seq := some 3 }) with starts := [entry 6 c 3] }

/-- A start taken from the running slot frees the engine for the PENDING start or the top record; one taken from the PENDING
slot or the stack leaves the running recipe. -/
theorem test_start_removed :
    let both := engine (at0 2 70) (some 2) [record1] base
    let held := fun c s => after (.holdRunsOutAtOwner c) (withEntry c s)
    let expired := fun c s => after (.expire peerRx { owner := 6, ch := c, seq := 3 }) (withEntry c s)
    let off := fun s => after (.debounceTimerRunsOut 0) (pressed 0 false s)
    EngineLaw both ∧ OutputLaw (pressed 0 false both)
      ∧ (held 0 both).engine.running = some { ch := 2, step := 0, timeLeft := 50 } ∧ (held 0 both).engine.stack = [record1]
      ∧ (held 2 both).engine.running = some (at0 2 70) ∧ (held 2 both).engine.waiting = none
      ∧ (held 1 both).engine.stack = [] ∧ (held 1 both).engine.waiting = some 2
      ∧ (expired 0 both).engine.running = some { ch := 2, step := 0, timeLeft := 50 }
      ∧ (expired 2 both).engine.running = some (at0 2 70) ∧ (expired 1 both).engine.stack = []
      ∧ (off both).engine.running = some { ch := 2, step := 0, timeLeft := 50 }
      ∧ (off (engine (at0 2 70) none [record1] base)).engine.running = some { ch := 1, step := 0, timeLeft := 70 } := by
  unfold EngineLaw OutputLaw outsAreOff; decide +kernel

theorem test_LevelsStartTheFilters :
    base.pins.req.get 0 ≠ true ∧ base.live = true ∧ (base.chan 0).state ≠ .disabled
      ∧ base.pins.sense.get 0 ≠ true ∧ (running0.chan 0).state = .on ∧ (running0.cfg 0).senseRequired = true
      ∧ base.engine.running.map (·.ch) ≠ some 0 ∧ base.pins.inh ≠ true
      ∧ (after (.senseChange 0 true) (starting 2 200 base)).engine = (starting 2 200 base).engine
      ∧ (starting 2 200 base).stepOf (at0 2 200) = some (.dwell 20 true)
      ∧ ((after (.reqLevelChange 0 true) base).chan 0).debounceTimer = some 20
      ∧ (after (.inhPinChange true) base).inh.timer = some 20 := by decide +kernel

theorem test_DebouncedRequestWritesTheLatch :
    ((pressed 0 true base).chan 0).debounceTimer.isSome = true ∧ ((pressed 0 true base).chan 0).state = .idle
      ∧ (pressed 0 true base).claimOnBus 0 = false
      ∧ ((after (.debounceTimerRunsOut 0) (pressed 0 true base)).chan 0).state = .claiming
      ∧ (pressed 1 true withdrawn).claimOnBus 1 = true ∧ ((pressed 1 true withdrawn).chan 1).state = .idle
      ∧ ((after (.debounceTimerRunsOut 1) (pressed 1 true withdrawn)).chan 1).state = .idle
      ∧ ((after (.debounceTimerRunsOut 1) (pressed 1 true withdrawn)).chan 1).latch = true := by decide +kernel

/-- One state for each of the clauses of demand off: a start in progress, SETTLING with its frame on the bus or not, ON,
SHED, FAULTED, QUEUED, and CLAIMING with its frame on the bus. -/
theorem test_DemandOffEndsTheCourse :
    ∀ s ∈ [starting 1 500 base, settling base, sending (.settled settled0) (settling base), inState 0 .on base,
        inState 0 .shed base, inState 0 .faulted base, { inState 0 .queued base with queue.entries := [queued 0 4] }],
      (pressed 0 false s).live = true ∧ EngineLaw (pressed 0 false s) ∧ OutputLaw (pressed 0 false s)
        ∧ ((pressed 0 false s).chan 0).latch = true
        ∧ ((after (.debounceTimerRunsOut 0) (pressed 0 false s)).chan 0).state = .idle := by
  unfold EngineLaw OutputLaw outsAreOff; decide +kernel

theorem test_DemandOffInClaiming :
    (pressed 1 true (claiming base)).claimOnBus 1 = true ∧ ((pressed 1 true (claiming base)).cfg 1).requestMode = .toggle
      ∧ (after (.debounceTimerRunsOut 1) (pressed 1 true (claiming base))).claimWithdrawn = true := by decide +kernel

theorem test_SenseLostFaultsAndShedRestRequeues :
    ((after (.senseGraceRunsOut 0) (running0.modChan 0 fun k => { k with senseGrace := some 0 })).chan 0).state = .faulted
      ∧ ((after (.shedRestRunsOut 0) ((inState 0 .shed base).modChan 0 fun k => { k with shedRest := some 0 })).chan
          0).state = .claiming := by decide +kernel

def inhibiting (pin asserted : Bool) (s : State) : State :=
  { s with pins.inh := pin, inh := { asserted := asserted, timer := some 0 } }

theorem test_InhibitAbortsEveryStart :
    (inhibiting true false (starting 1 500 base)).live = true
      ∧ EngineLaw (inhibiting true false (starting 1 500 base))
      ∧ ((after .inhAsserted (inhibiting true false (starting 1 500 base))).chan 0).release = .abandoned .inhibit
      ∧ ((after .inhAsserted (inhibiting true false offered)).chan 1).state = .queued
      ∧ offered.claimOnBus 1 = false ∧ (claiming base).claimOnBus 1 = true
      ∧ ((after .inhReleased (inhibiting false true { inState 1 .queued base with queue.entries := [queued 1 2] })).chan
          1).state = .claiming := by
  unfold EngineLaw; decide +kernel

theorem test_QueueTimersRunOut :
    { inState 0 .queued base with queue.entries := [queued 0 4] }.queueEntry 0 = some (queued 0 4)
      ∧ (after (.patienceTimerRunsOut 0)
          { inState 0 .queued base with queue.entries := [queued 0 4] }).queue.entries.map (·.eff) = [3]
      ∧ ({ inState 2 .queued base with
            queue.entries := [{ queued 2 0 with shedCalled := true, shedWait := some 0 }] }.queueEntry 2).isSome = true
      := by decide +kernel

/-- A step with the next to wait in, the last step of a recipe, and a boundary with a start waiting. -/
theorem test_TimedStepEnds :
    ∀ s ∈ [starting 2 0 base, starting 4 0 base, engine (at0 4 0) (some 1) [] base,
        engine (at0 4 0) none [record1] base, engine { ch := 2, step := 0, timeLeft := 0 } none [record0 2 (some 70)] base,
        engine { ch := 2, step := 0, timeLeft := 0 } none [record0 1 (some 70)] base,
        engine { ch := 2, step := 0, timeLeft := 0 } (some 1) [record0 1 (some 70)] base,
        engine (at0 1 500) (some 1) [] base, engine (at0 1 500) none [record1] base],
      s.live = true ∧ EngineLaw s ∧ (s.engine.running.bind s.stepOf).isSome = true
        ∧ s.pins.sense.get 0 ≠ true := by unfold EngineLaw; decide +kernel

/-- DWELLs that end: the next step waits; the recipe fails, or is suspended for the start that waits; the freed engine
takes up the PENDING start, or the top record, which waits out its time, completes its AWAIT, or fails with its time gone. -/
theorem test_dwell_ends :
    let done := fun s => after (.dwellTimeRunsOut 0 4) s
    let freed := fun k => engine { ch := 2, step := 0, timeLeft := 0 } none [k] base
    let last := fun s => after (.dwellTimeRunsOut 2 0) s
    (after (.dwellTimeRunsOut 0 2) (starting 2 0 base)).engine.running = some (at0 4 50)
      ∧ ((done (starting 4 0 base)).chan 0).state = .faulted
      ∧ (done (engine (at0 4 0) (some 1) [] base)).engine.stack = [record0 5 none]
      ∧ (done (engine (at0 4 0) none [record1] base)).engine.running = some { ch := 1, step := 0, timeLeft := 70 }
      ∧ ((done (engine (at0 4 0) none [record1] base)).chan 1).pre = true
      ∧ (last (engine { ch := 2, step := 0, timeLeft := 0 } (some 1) [record0 1 (some 70)] base)).engine.running
        = some { ch := 1, step := 0, timeLeft := 200 }
      ∧ (last (freed (record0 2 (some 70)))).engine.running = some (at0 2 70)
      ∧ (last (freed (record0 1 (some 70)))).engine.running = some (at0 1 70)
      ∧ (last { freed (record0 1 (some 70)) with pins.sense := Four.same true }).engine.running = some (at0 2 200)
      ∧ ((last (freed (record0 1 (some 0)))).chan 0).state = .faulted := by decide +kernel

/-- AWAITs that end by their level or their timeout, with a start that waits or a record on the stack. -/
theorem test_await_ends :
    let level := fun s => after (.senseChange 0 true) s
    let timeout := fun s => after (.awaitTimeoutRunsOut 0 1) s
    (level (starting 1 500 base)).engine.running = some (at0 2 200)
      ∧ (level (engine (at0 1 500) (some 1) [] base)).engine.stack = [record0 2 none]
      ∧ (level (engine (at0 1 500) none [record1] base)).engine.running = some (at0 2 200)
      ∧ ((timeout (starting 1 0 base)).chan 0).state = .faulted
      ∧ (timeout (engine (at0 1 0) (some 1) [] base)).engine.running = some { ch := 1, step := 0, timeLeft := 200 }
      ∧ (timeout (engine (at0 1 0) none [record1] base)).engine.running = some { ch := 1, step := 0, timeLeft := 70 } := by
  decide +kernel

/-- The level taken first ends the step: its timeout, still in the queue, has no effect on the step that follows (R87). -/
theorem test_late_timeout_has_no_effect :
    let s := after (.senseChange 0 true) (starting 1 0 base)
    s.engine.running = some (at0 2 200) ∧ after (.awaitTimeoutRunsOut 0 1) s = s ∧ after (.dwellTimeRunsOut 1 2) s = s := by
  decide +kernel

theorem test_MembershipTimersRunOut :
    base.member.presenceTimer.isSome = true ∧ (after .presenceTimerRunsOut base).member.presenceDue = true
      ∧ (after .listenWindowRunsOut { membership .listen base with member.listenWindow := some 0 }).member.state = .inStep
      ∧ (after .listenWindowRunsOut { membership .listen (withPeer base) with
          member.listenWindow := some 0 }).member.state = .syncing
      ∧ (after .syncTimeoutRunsOut { awaiting with member.syncTimeout := some 0 }).member.state = .inStep
      ∧ ((after .syncTimeoutRunsOut { awaiting with member.syncTimeout := some 0 }).peer 9).suspect = true
      ∧ ((after .syncTimeoutRunsOut { awaiting with
          member.syncTimeout := some 0, member.ownAccepted := false }).peer 9).suspect = true
      ∧ ((after (.absenceTimeReached 9) (withPeer base)).peer 9).absentPending = true
      ∧ ((after (.absenceTimeReached 9) (membership .listen (withPeer base))).peer 9).absentPending = false
      ∧ (((withPeer base).modPeer 9 fun x => { x with suspect := true, requestTimer := some 0 }).peer 9).requestTimer.isSome
        = true := by decide +kernel

theorem test_SamplingIsHeldThenShiftsTheHistory :
    let listening := { membership .listen base with history.joined := false, member.listenWindow := some 0 }
    let marked := { sending (.settled settled0) ((settling base).modChan 0 fun k => { k with mark := true }) with
      history.marks := 1 }
    (after .sampleTimerRunsOut { running0 with history.released := true, history.sampleTimer := some 0 }).retention.samples
        = { ch0 := 0x80#8, ch1 := 0, ch2 := 0, ch3 := 0 } ∧ (running0.chan 3).state = .disabled
      ∧ HistoryLaw listening ∧ (after .listenWindowRunsOut listening).history.sampleTimer = some 1000
      ∧ HistoryLaw marked ∧ (after (.settled ownRx settled0) marked).history.released = true
      ∧ HistoryLaw State.reset := by
  unfold HistoryLaw; decide +kernel

/-! ## Hypotheses are met: supplies, starts, loading -/

theorem test_SuppliesAndReset :
    base.power.vmain = .good ∧ (after .powerFailWarning (starting 1 500 base)).power.warning = true
      ∧ (after .powerFailWarning base).power.vmain ≠ .good ∧ base.pins.rstn = true
      ∧ (after .rstnLow base).power.phase = .inReset ∧ (after .rstnLow base).pins.rstn = false
      ∧ (after .rstnRelease (after .rstnLow base)).power.startDelay = some 50
      ∧ (after .vmainLost base).power.phase = .unpowered
      ∧ (after .vmainRise (after .vmainLost base)).power.phase = .inReset := by decide +kernel

/-- A recovery keeps the warning condition and every record and context until the start (R82, R110, R122). -/
theorem test_recovery_holds :
    let s := after .vmainRise (after .powerFailWarning (engine (at0 2 70) none [record1] base))
    s.power.warning = true ∧ s.power.startDelay = some 50 ∧ (s.chan 0).state = .starting
      ∧ s.engine.stack = [record1] ∧ s.indicators.flt = false
      ∧ (after .vmainRise s) = s
      ∧ (after (.start 6) s).engine = Engine.atStart ∧ (after (.start 6) s).history.startKind = .outage
      ∧ (after (.start 6) (after .powerFailWarning base)).power.warning = true := by decide +kernel

/-- FLT keeps its level from the warning through the loss of both supplies, until the part is held in reset (R83). -/
theorem test_flt_is_kept_until_reset :
    let faulty := after .addressClash (after .addressClash base)
    let lost := after .vmainLost (after .powerFailWarning faulty)
    faulty.indicators.flt = true ∧ (after .powerFailWarning faulty).indicators.flt = true
      ∧ lost.power.phase = .unpowered ∧ lost.indicators.flt = true
      ∧ (after .vmainLost faulty).indicators.flt = true ∧ (after .retentionLoss faulty).indicators.flt = true
      ∧ (after .retentionLoss lost).indicators.flt = true
      ∧ (after .vmainRise lost).indicators.flt = false ∧ (after .rstnLow lost).indicators.flt = false
      ∧ (after .rstnLow (after .powerFailWarning faulty)).indicators.flt = false
      ∧ (after (.start 6) (after .vmainRise lost)).indicators.flt = false := by decide +kernel

/-- The state one millisecond later. -/
def later (s : State) : State :=
  match step s with
  | .next t => t
  | .fault _ => s
  | .refused _ => s

/-- Timers that run, and those that stand in the warning and in HALTED. -/
theorem test_timers_run_and_stand :
    let s := { starting 1 500 base with queue.entries := [queued 1 2] }
    s.pending = [] ∧ s.power.phase = .running ∧ s.live = true
      ∧ (later s).engine.running = some (at0 1 499) ∧ (later s).starts.map (·.remaining) = [599]
      ∧ (later s).queue.entries.map (·.patience) = [some 299] ∧ (later s).member.presenceTimer = some 999
      ∧ (later { s with power.warning := true }).engine.running = some (at0 1 500)
      ∧ (later { s with power.warning := true }).starts.map (·.remaining) = [599]
      ∧ (later (membership .halted s)).starts.map (·.remaining) = [600]
      ∧ (later (membership .halted s)).indicators.elapsed = 1 := by decide +kernel

theorem test_EmptyQueueLetsTimePass :
    let s := after .vmainRise (after .powerFailWarning base)
    s.pending = [] ∧ s.power.phase = .running
      ∧ (match step s with
        | .next t => t.power.startDelay
        | .fault _ => none
        | .refused _ => none) = some 49 := by decide +kernel

theorem test_StartActsByItsKind :
    State.reset.power.phase = .inReset ∧ State.reset.power.startDelay.isSome = true
      ∧ State.reset.retention.pattern ≠ .fixed ∧ (after (.start 6) State.reset).history.startKind = .cold
      ∧ (after (.start 6) (after .vmainRise (after .powerFailWarning base))).history.startKind = .outage
      ∧ (after (.start 6) (after .rstnRelease (after .rstnLow base))).history.startKind = .pin := by decide +kernel

theorem test_StartSamplesTheStraps :
    (after (.start 6) State.reset).member.state = .loading ∧ (after (.start 0) State.reset).member.state = .halted
      ∧ (after (.start 31) State.reset).member.state = .halted
      ∧ (after (.start 1) State.reset).member.state = .loading
      ∧ (after (.start 30) State.reset).member.state = .loading := by decide +kernel

def reading : State := after (.start 6) State.reset

theorem test_ImageAttemptsAreCounted :
    reading.loading = true ∧ reading.loader.phase = .header
      ∧ (after (.imageHeaderRead 0xA4#8 109#8) reading).loader.phase = .rest
      ∧ (after (.imageAttemptFails .stuck) reading).loader.phase = .retryWait 10
      ∧ (after .attemptRetryWaitElapsed (after (.imageAttemptFails .stuck) reading)).loader.phase = .header
      ∧ (after (.clockStretchTimeout 0 2) { reading with loader.attempts := 2 }).member.state = .halted := by decide +kernel

/-- What the loader does on its two lines: the bus check of a line held low, the offset write, the repeated start, the
bytes read with the last not acknowledged, and the stop (R167). -/
theorem test_link :
    (after (.imageHeaderRead 0xA4#8 109#8 2) reading).loader.link
        = [.clock, .clock, .stop, .start, .send 0xA0#8, .send 0#8, .restart, .send 0xA1#8, .take 0xA4#8 true,
          .take 109#8 true]
      ∧ readRest [1#8, 2#8] = [.take 1#8 true, .take 2#8 false]
      ∧ (after (.imageAttemptFails .stuck) reading).loader.link = List.replicate 9 .clock ++ [.release]
      ∧ (after (.imageAttemptFails (.offset 0)) reading).loader.link
        = [.start, .send 0xA0#8, .send 0#8, .stop, .release]
      ∧ (after (.clockStretchTimeout 0 1) reading).loader.link = [.start, .release]
      ∧ (after (.clockStretchTimeout 0 5 [0xA4#8]) reading).loader.link
        = [.start, .send 0xA0#8, .send 0#8, .restart, .send 0xA1#8, .take 0xA4#8 true, .release]
      ∧ (after (.clockStretchTimeout 0 0 [1#8, 2#8]) (after (.imageHeaderRead 0xA4#8 109#8) reading)).loader.link.drop 7
        = [.take 1#8 true, .take 2#8 true, .release]
      ∧ (readBytes 107 (List.replicate 107 0)).getLast? = some (.take 0 false)
      ∧ LinkOp.levels .start = [(true, true), (true, false), (false, false)]
      ∧ ((LinkOp.levels (.send 0xA0#8)).filter (·.1)).map (·.2)
        = [true, false, true, false, false, false, false, false, true] := by decide +kernel

/-- Levels of the two lines in order, one line changing at a time from a level to the next. -/
def oneAtATime : List (Bool × Bool) → Bool
  | (scl, sda) :: (scl', sda') :: rest =>
    (decide (scl = scl') || decide (sda = sda')) && oneAtATime ((scl', sda') :: rest)
  | _ => true

/-- The levels of operations, from both lines let go. -/
def levelsOf (ops : List LinkOp) : List (Bool × Bool) := (true, true) :: ops.flatMap LinkOp.levels

/-- A whole read after a bus check of nine clocks, and attempts that fail with a stop condition. -/
theorem test_levels :
    oneAtATime (levelsOf (openRead 9 ++ readRest [0xA4#8, 1#8, 2#8] ++ [.stop, .release]))
        = true
      ∧ oneAtATime (levelsOf (openRead 0 ++ [.take 7 true, .take 8 true, .stop, .release]))
        = true
      ∧ [.stuck, .addressWrite 3, .offset 0, .addressRead 2].all
        (fun how => oneAtATime (levelsOf (failedLink how))) = true := by decide +kernel

/-- The image after its header but for presence interval and check: a group of inrush budget 40; channel 0 with restore
policy ON, channel 1 with more inrush than the budget, channel 2 with a DWELL of time 0 as its step 1, channel 3 not
enabled. -/
def imageBytes (presence hi lo : Byte) : List Byte :=
  [0#8] ++ [presence]
    ++ [40#8, 8#8, 0#8, 100#8, 1#8, 10#8, 5#8]
    ++ [162#8, 36#8, 10#8, 48#8, 32#8, 30#8, 0#8, 7#8, 4#8, 0#8, 84#8, 50#8, 48#8, 20#8, 12#8, 0#8, 32#8, 5#8, 0#8, 0#8, 100#8, 0#8] ++ List.replicate 2 0
    ++ [128#8, 34#8, 10#8, 252#8, 20#8, 30#8, 0#8, 2#8, 12#8, 0#8, 32#8, 20#8] ++ List.replicate 12 0
    ++ [128#8, 34#8, 10#8, 24#8, 20#8, 30#8, 0#8, 2#8, 12#8, 0#8, 32#8, 0#8] ++ List.replicate 12 0
    ++ List.replicate 24 0 ++ [hi, lo]

def awaitingRest : State := after (.imageHeaderRead 0xA4#8 109#8) reading

set_option maxRecDepth 20000 in
/-- A good image, a presence interval of 1, which fails, and a wrong check. -/
theorem test_ImageIsJudged :
    awaitingRest.loading = true ∧ awaitingRest.loader.phase = .rest
      ∧ (∀ c, awaitingRest.chan c = Channel.atStart)
      ∧ imageAccepted ([0xA4#8, 109#8] ++ imageBytes 20 28 77) = true
      ∧ (readImage ([0xA4#8, 109#8] ++ imageBytes 20 28 77)).channels.ch1 = .invalid none
      ∧ (readImage ([0xA4#8, 109#8] ++ imageBytes 20 28 77)).channels.ch2 = .invalid (some 1)
      ∧ (after (.imageReadComplete (imageBytes 20 28 77)) awaitingRest).member.state = .listen
      ∧ allChans.map (fun c => ((after (.imageReadComplete (imageBytes 20 28 77)) awaitingRest).chan c).state)
        = [.idle, .disabled, .disabled, .disabled]
      ∧ (after (.imageReadComplete (imageBytes 1 125 153)) awaitingRest).loader.result = .haltedGroup
      ∧ (after (.imageReadComplete (imageBytes 20 28 77)) awaitingRest).loader.link.getLast? = some .release
      ∧ (after (.imageReadComplete (imageBytes 20 0 0)) awaitingRest).loader.attempts = 1 := by decide +kernel

set_option maxRecDepth 20000 in
/-- After an outage the channel with restore policy ON joins the queue with its restore mark. -/
theorem test_restore_on :
    let s := { awaitingRest with history.startKind := .outage }
    ((after (.imageReadComplete (imageBytes 20 28 77)) s).chan 0).state = .queued
      ∧ ((after (.imageReadComplete (imageBytes 20 28 77)) s).chan 0).mark = true := by decide +kernel

/-! ## Hypotheses are met: what every command keeps -/

theorem test_HaltedAndWarnedStationsHold :
    (membership .halted base).member.state = .halted ∧ resets (.claim peerRx claim1) = false ∧ (membership .halted base).power.phase = .running
      ∧ (after .powerFailWarning base).power.warning = true ∧ (after .powerFailWarning base).power.phase = .running := by
  decide +kernel

theorem test_TablesChangeOnlyByFrames : isFrame .busFree = false ∧ resets .busFree = false
    ∧ isFrame (.claim peerRx claim1) = true ∧ resets (.claim peerRx claim1) = false := by decide +kernel

theorem test_FaultRecordsAreNumbered : FaultListLaw base ∧ resets .addressClash = false
    ∧ (after .addressClash base).faults.records.map (·.number) = [0] := by unfold FaultListLaw; decide +kernel

def waitingCommand : State := { starting 1 500 base with pending := [.awaitTimeoutRunsOut 0 1] }

theorem test_StepKeepsTheTables :
    StartTableLaw waitingCommand ∧ TablesApart waitingCommand := by
  unfold StartTableLaw TablesApart; decide +kernel

theorem test_StepKeepsTheForms :
    TablesCanonical (withPeer waitingCommand) ∧ FaultListLaw (withPeer waitingCommand)
      ∧ NoticesTaken (withPeer waitingCommand) := by
  unfold TablesCanonical FaultListLaw NoticesTaken; decide +kernel

theorem test_QueueLaw : QueueLaw { claimingBehind with queue.nextStamp := 2 } := by
  unfold QueueLaw waitsBefore inQueue; decide +kernel

theorem test_HaltedIndicators : IndicatorLaw (membership .halted base).refresh := by
  unfold IndicatorLaw StatLaw FltLaw
  refine ⟨⟨?_, fun _ _ => ?_⟩, ?_⟩ <;> decide +kernel

theorem test_IndicatorLaw : IndicatorLaw (withPeer waitingCommand).refresh ∧ IndicatorLaw (after .powerFailWarning base) := by
  unfold IndicatorLaw StatLaw FltLaw
  refine ⟨⟨⟨?_, fun _ _ => ?_⟩, ?_⟩, ⟨?_, fun _ h => absurd h (by decide +kernel)⟩, ?_⟩ <;> decide +kernel

theorem test_AddressLaw : AddressLaw (withPeer waitingCommand) := by
  unfold AddressLaw; decide +kernel

theorem test_StepKeepsTheChannelLaws : ChannelLaws waitingCommand := by
  refine ⟨?_, ?_, ?_, ?_, ?_⟩
  · unfold QueueLaw waitsBefore inQueue; decide +kernel
  · unfold EngineLaw; decide +kernel
  · unfold OutputLaw outsAreOff; decide +kernel
  · refine ⟨fun h => ?_, fun _ t p h => ?_⟩
    · exact absurd h (by decide +kernel)
    · exact absurd h.symm (by change ¬some t = (none : Option TxFrame); simp)
  · unfold TransmitLaw; decide +kernel

end Sys2Proof.Tests
end

section
/-!
How a taken frame reaches its effects (R153-R155), and the Start Table frames CLAIM (R8, R9) and RENEW (R21).
-/

namespace Sys2Proof.Machine

open Sys2Proof

/-! ## Taking a frame -/

/-- The state in which a taken frame's own effects begin: after what every accepted own frame does, or after its sender was
heard (R131, R134). -/
def State.heard (s : State) (rx : Rx) (f : Frame) : State :=
  match s.bus.tx with
  | some _ => s.clearTx.ownAccepted rx.acked
  | none => s.hearPeer rx.sender (isHello f)

/-- A taken frame other than the tool's INQUIRE has its effects on the state `heard`, as an own frame exactly where the
transmit slot holds one. -/
theorem State.receive_of_takes {s : State} {rx : Rx} {f : Frame} (body : Option TxFrame → State → State)
    (h : s.takes rx f = true) (hf : f.isInquire = false) :
    s.receive rx f body = (body s.bus.tx (s.heard rx f)).frameEnds.finish := by
  unfold State.takes at h
  rw [Bool.and_eq_true] at h
  obtain ⟨hpart, hwhose⟩ := h
  cases htx : s.bus.tx with
  | some t =>
    rw [htx] at hwhose
    obtain ⟨hown, hframe⟩ : rx.sender = s.own ∧ t.frame = f := by simpa using hwhose
    simp [State.receive, State.applyFrame, State.takeLine, State.heard, hpart, htx, hown, hframe]
  | none =>
    rw [htx] at hwhose
    obtain ⟨⟨hown, hzero⟩, htool⟩ : (rx.sender ≠ s.own ∧ rx.sender ≠ 0) ∧ rx.sender ≠ toolAddr := by
      simpa [hf] using hwhose
    simp [State.receive, State.applyFrame, State.takeLine, State.heard, hpart, htx, hown, hzero, htool]

/-- A frame of another station is taken only while the transmit slot is empty. -/
theorem State.takes_of_takesOther {s : State} {rx : Rx} {f : Frame} (h : s.takesOther rx f = true) :
    s.takes rx f = true ∧ s.bus.tx = none := by
  simpa [State.takesOther] using h

/-- The own frame is taken only while the transmit slot holds it. -/
theorem State.takes_of_takesOwn {s : State} {rx : Rx} {f : Frame} (h : s.takesOwn rx f = true) :
    s.takes rx f = true ∧ ∃ t, s.bus.tx = some t := by
  simpa [State.takesOwn, Option.isSome_iff_exists] using h

/-- What the hearing of a frame leaves as it was. -/
@[simp] theorem State.heard_keeps (s : State) (rx : Rx) (f : Frame) :
    (s.heard rx f).pending = s.pending ∧ (s.heard rx f).pins = s.pins ∧ (s.heard rx f).power = s.power
      ∧ (s.heard rx f).retention = s.retention ∧ (s.heard rx f).history = s.history
      ∧ (s.heard rx f).starts = s.starts ∧ (s.heard rx f).draws = s.draws ∧ (s.heard rx f).queue = s.queue
      ∧ (s.heard rx f).channels = s.channels ∧ (s.heard rx f).inh = s.inh ∧ (s.heard rx f).engine = s.engine
      ∧ (s.heard rx f).loader = s.loader ∧ (s.heard rx f).answer = s.answer
      ∧ (s.heard rx f).freeCount = s.freeCount := by
  unfold State.heard
  split <;> simp

/-- Entering ISOLATED leaves frames applied and channels acting. -/
@[simp] theorem State.judgeIsolated_live (s : State) : s.judgeIsolated.live = s.live := by
  unfold State.judgeIsolated
  split
  · next h => simp [State.live, State.operating, h.1, MState.applies]
  · rfl

/-- Whether the channels act is not changed by an own frame's acceptance. -/
@[simp] theorem State.ownAccepted_live (s : State) (acked : Bool) : (s.ownAccepted acked).live = s.live := by
  unfold State.ownAccepted
  dsimp only
  split
  · rfl
  · exact State.judgeIsolated_live _

/-- Whether the channels act is not changed by the hearing of an own frame. -/
theorem State.heard_live_of_own {s : State} {t : TxFrame} (rx : Rx) (f : Frame) (h : s.bus.tx = some t) :
    (s.heard rx f).live = s.live := by
  simp only [State.heard, h, State.ownAccepted_live]
  rfl

/-! ## Same but for an offer -/

/-- An offer changes no renewal count. -/
theorem sameButOffer_renewals {a b : Channel} (h : sameButOffer a b) : a.renewals = b.renewals := by
  rcases h with rfl | ⟨_, _, he⟩
  · rfl
  · simpa using congrArg Channel.renewals he

/-- Being the same but for an offer does not depend on the renewal count. -/
theorem sameButOffer_withRenewals {a b : Channel} (n : Fin 4) (h : sameButOffer a b) :
    sameButOffer { a with renewals := n } { b with renewals := n } := by
  rcases h with rfl | ⟨ha, hb, he⟩
  · exact sameButOffer_refl _
  · exact Or.inr ⟨ha, hb, congrArg (fun k : Channel => { k with renewals := n }) he⟩

/-- Being the same in everything local is transitive. -/
theorem sameLocal_trans {s t u : State} (h : sameLocal s t) (k : sameLocal t u) : sameLocal s u := by
  obtain ⟨h1, h2, h3, h4, h5, h6, h7, h8, h9, hc⟩ := h
  obtain ⟨k1, k2, k3, k4, k5, k6, k7, k8, k9, kc⟩ := k
  exact ⟨k1.trans h1, k2.trans h2, k3.trans h3, k4.trans h4, k5.trans h5, k6.trans h6, k7.trans h7, k8.trans h8,
    k9.trans h9, fun c => sameButOffer_trans (kc c) (hc c)⟩

/-- An update that keeps the local fields, the channels among them, changes nothing local. -/
theorem sameLocal_of_keeps {s t : State} (hchannels : t.channels = s.channels)
    (hfields : t.pins = s.pins ∧ t.power = s.power ∧ t.retention = s.retention ∧ t.history = s.history ∧ t.inh = s.inh
      ∧ t.engine = s.engine ∧ t.loader = s.loader ∧ t.answer = s.answer ∧ t.pending = s.pending) : sameLocal s t := by
  obtain ⟨h1, h2, h3, h4, h5, h6, h7, h8, h9⟩ := hfields
  exact ⟨h1, h2, h3, h4, h5, h6, h7, h8, h9, fun c => Or.inl (State.chan_of_channels hchannels c)⟩

/-- The hearing of a frame changes nothing local. -/
theorem State.heard_sameLocal (s : State) (rx : Rx) (f : Frame) : sameLocal s (s.heard rx f) :=
  sameLocal_of_keeps (by simp) (by simp)

/-- The end of a received frame changes nothing local but for an offer. -/
theorem State.frameEnds_finish_sameLocal (s : State) : sameLocal s s.frameEnds.finish := by
  refine ⟨?_, ?_, ?_, ?_, ?_, ?_, ?_, ?_, ?_, fun c => State.finish_same s.frameEnds c⟩ <;> simp

/-! ## The admission test (R8) -/

/-- The admission test reads the two tables and the loaded image alone. -/
theorem State.admissionTest_congr {s t : State} (hs : t.starts = s.starts) (hd : t.draws = s.draws)
    (hl : t.loader = s.loader) (owner : Addr) (c : Chan) (urgency : Urg) (inrush draw : Nat) :
    t.admissionTest owner c urgency inrush draw = s.admissionTest owner c urgency inrush draw := by
  unfold State.admissionTest State.pairEntry State.drawSlot State.inrushLimit State.group State.image State.inrushSum
    State.steadySum
  rw [hs, hd, hl]

section AdmissionTest

variable (s : State) (owner : Addr) (c : Chan) (urgency : Urg) (inrush draw : Nat)

/-- The pair of a claim already holds an entry or a slot: the first check of R8 fails. -/
def State.holdsPair : Prop := (s.pairEntry owner c).isSome = true ∨ (s.drawSlot owner c).isSome = true

/-- The admission test as R8 states it: each check in turn, the first that fails giving the verdict. -/
theorem State.admissionTest_cases :
    s.holdsPair owner c ∧ s.admissionTest owner c urgency inrush draw = .duplicate
      ∨ ¬s.holdsPair owner c ∧ 32 ≤ s.starts.length ∧ s.admissionTest owner c urgency inrush draw = .full
      ∨ ¬s.holdsPair owner c ∧ s.starts.length < 32 ∧ s.inrushLimit urgency < s.inrushSum + inrush
        ∧ s.admissionTest owner c urgency inrush draw = .inrush
      ∨ ¬s.holdsPair owner c ∧ s.starts.length < 32 ∧ s.inrushSum + inrush ≤ s.inrushLimit urgency
        ∧ s.group.steadyBudget < s.steadySum + draw ∧ s.admissionTest owner c urgency inrush draw = .draw
      ∨ ¬s.holdsPair owner c ∧ s.starts.length < 32 ∧ s.inrushSum + inrush ≤ s.inrushLimit urgency
        ∧ s.steadySum + draw ≤ s.group.steadyBudget ∧ s.admissionTest owner c urgency inrush draw = .admitted := by
  unfold State.admissionTest
  by_cases hdup : s.holdsPair owner c
  · refine Or.inl ⟨hdup, if_pos ?_⟩
    simpa [State.holdsPair] using hdup
  · rw [if_neg (by simpa [State.holdsPair] using hdup)]
    split
    · next hfull => exact Or.inr (Or.inl ⟨hdup, hfull, rfl⟩)
    · split
      · next hfull hin => exact Or.inr (Or.inr (Or.inl ⟨hdup, by omega, hin, rfl⟩))
      · split
        · next hfull hin hdraw =>
          exact Or.inr (Or.inr (Or.inr (Or.inl ⟨hdup, by omega, by omega, hdraw, rfl⟩)))
        · next hfull hin hdraw =>
          exact Or.inr (Or.inr (Or.inr (Or.inr ⟨hdup, by omega, by omega, by omega, rfl⟩)))

/-- Each verdict says which check failed first; an admission that all four held. -/
theorem State.admissionTest_verdicts :
    (s.admissionTest owner c urgency inrush draw = .duplicate ↔ s.holdsPair owner c)
      ∧ (s.admissionTest owner c urgency inrush draw = .full ↔ ¬s.holdsPair owner c ∧ ¬s.starts.length < 32)
      ∧ (s.admissionTest owner c urgency inrush draw = .inrush ↔
        ¬s.holdsPair owner c ∧ s.starts.length < 32 ∧ ¬s.inrushSum + inrush ≤ s.inrushLimit urgency)
      ∧ (s.admissionTest owner c urgency inrush draw = .draw ↔
        ¬s.holdsPair owner c ∧ s.starts.length < 32 ∧ s.inrushSum + inrush ≤ s.inrushLimit urgency
          ∧ ¬s.steadySum + draw ≤ s.group.steadyBudget)
      ∧ (s.admissionTest owner c urgency inrush draw = .admitted ↔
        ¬s.holdsPair owner c ∧ s.starts.length < 32 ∧ s.inrushSum + inrush ≤ s.inrushLimit urgency
          ∧ s.steadySum + draw ≤ s.group.steadyBudget) := by
  rcases s.admissionTest_cases owner c urgency inrush draw with
    ⟨hdup, hv⟩ | ⟨hdup, hfull, hv⟩ | ⟨hdup, hfull, hin, hv⟩ | ⟨hdup, hfull, hin, hdraw, hv⟩
      | ⟨hdup, hfull, hin, hdraw, hv⟩
  · simp [hv, hdup]
  · simp [hv, hdup, hfull]
  · simp [hv, hdup, hfull, hin]
  · simp [hv, hdup, hfull, hin, hdraw]
  · simp [hv, hdup, hfull, hin, hdraw]

end AdmissionTest

/-! ## CLAIM (R8, R9) -/

/-- What the placing of an admitted own claim leaves of the tables. -/
@[simp] theorem State.startAdmitted_tables (s : State) (c : Chan) (q : Seq) :
    (s.startAdmitted c q).starts = s.starts ∧ (s.startAdmitted c q).draws = s.draws := by
  unfold State.startAdmitted
  dsimp only
  split <;> simp

/-- The verdict at the claimant changes neither table. -/
@[simp] theorem State.claimVerdict_tables (s : State) (t : TxFrame) (p : ClaimPayload) (v : Judgement) :
    (s.claimVerdict t p v).starts = s.starts ∧ (s.claimVerdict t p v).draws = s.draws := by
  unfold State.claimVerdict
  dsimp only
  repeat' split
  all_goals simp

/-- A judged CLAIM leaves the Draw Table, and the Start Table but for the entry an admission appends (R9, R10). -/
theorem applyClaim_tables {p : ClaimPayload} (hin : p.inrush ≠ 0) (hhold : p.hold ≠ 0) (owner : Addr)
    (own : Option TxFrame) (s : State) :
    (applyClaim owner p own s).draws = s.draws
      ∧ (applyClaim owner p own s).starts
        = if s.admissionTest owner p.ch p.urgency p.inrush.val p.draw.val = .admitted then
            s.starts ++ [claimEntry owner p]
          else s.starts := by
  unfold applyClaim
  rw [if_neg (by simp [hin, hhold])]
  cases own with
  | none => dsimp only; split <;> simp
  | some t => dsimp only; split <;> simp

/-- A judged CLAIM of a peer changes nothing local. -/
theorem applyClaim_peer_sameLocal (owner : Addr) (p : ClaimPayload) (s : State) :
    sameLocal s (applyClaim owner p none s) := by
  unfold applyClaim
  dsimp only
  repeat' split
  all_goals exact sameLocal_of_keeps (by simp) (by simp)

/-- The taken CLAIM at every station. -/
theorem execClaim_taken {rx : Rx} {p : ClaimPayload} {s : State} (htakes : s.takes rx (.claim p) = true) :
    exec (.claim rx p) s = .next (applyClaim rx.sender p s.bus.tx (s.heard rx (.claim p))).frameEnds.finish :=
  congrArg Host.Outcome.next (State.receive_of_takes _ htakes rfl)

/-- An entry at the table's tail adds its inrush and its draw to the two sums (R7). -/
theorem sums_append {s t : State} {e : StartEntry} (hs : t.starts = s.starts ++ [e]) (hd : t.draws = s.draws) :
    t.inrushSum = s.inrushSum + e.inrush.val ∧ t.steadySum = s.steadySum + e.draw.val := by
  simp [State.inrushSum, State.steadySum, hs, hd, Nat.add_assoc]

/-- Settles O6: the verdicts are those of the admission test, which the hearing of the frame does not change; an admission
appends the claim's entry, whose inrush and draw the last two checks have already counted. -/
theorem claimIsJudged : Obligations.ClaimIsJudged := by
  intro rx p s htakes hin hhold limit duplicate v
  obtain ⟨hdup, hfull, hinrush, hdraw, hadmit⟩ :=
    s.admissionTest_verdicts rx.sender p.ch p.urgency p.inrush.val p.draw.val
  refine ⟨hdup, hfull, hinrush, hdraw, _, execClaim_taken htakes, ?_⟩
  have hjudge : (s.heard rx (.claim p)).admissionTest rx.sender p.ch p.urgency p.inrush.val p.draw.val = v :=
    State.admissionTest_congr (by simp) (by simp) (by simp) ..
  obtain ⟨hdraws, hstarts⟩ := applyClaim_tables hin hhold rx.sender s.bus.tx (s.heard rx (.claim p))
  rw [hjudge] at hstarts
  simp only [State.heard_keeps] at hdraws hstarts
  generalize ht : (applyClaim rx.sender p s.bus.tx (s.heard rx (.claim p))).frameEnds.finish = t
  have htd : t.draws = s.draws := by simp [← ht, hdraws]
  have hts : t.starts = if v = .admitted then s.starts ++ [claimEntry rx.sender p] else s.starts := by
    simp [← ht, hstarts]
  refine ⟨htd, fun hv => by rw [hts, if_neg hv], fun hv => ?_, fun hother => ?_⟩
  · rw [if_pos hv] at hts
    obtain ⟨hinSum, hdrawSum⟩ := sums_append hts htd
    obtain ⟨-, -, hinLimit, hdrawLimit⟩ := hadmit.1 hv
    exact ⟨hts, hinSum.trans_le hinLimit, hdrawSum.trans_le hdrawLimit⟩
  · rw [← ht, (State.takes_of_takesOther hother).2]
    exact sameLocal_trans (sameLocal_trans (s.heard_sameLocal rx _) (applyClaim_peer_sameLocal ..))
      (State.frameEnds_finish_sameLocal _)

/-! ## RENEW (R21) -/

/-- A RENEW names an entry of the copy and is applied to it (R21). -/
def State.renewIsApplied (s : State) (owner : Addr) (p : RenewPayload) : Bool :=
  match s.namedEntry owner p.ch p.seq with
  | some e => renewApplies e p.count
  | none => false

/-- Whether the channels act is not changed by a rewriting of entries. -/
@[simp] theorem State.live_modStarts (s : State) (pick : StartEntry → Bool) (f : StartEntry → StartEntry) :
    (s.modStarts pick f).live = s.live := rfl

/-- The entry's part and the channel's part of an accepted RENEW. -/
theorem applyRenew_eq (owner : Addr) (p : RenewPayload) (own : Option TxFrame) (s : State) :
    applyRenew owner p own s =
      if own.isSome = true ∧ s.live = true then
        (s.modStarts (fun e => e.isNamed owner p.ch p.seq) (renewEntry p.count)).ownRenewed p.ch p.count
          (s.renewIsApplied owner p)
      else s.modStarts (fun e => e.isNamed owner p.ch p.seq) (renewEntry p.count) := by
  cases own with
  | none => rfl
  | some t =>
    unfold applyRenew
    simp only [State.live_modStarts, Option.isSome_some, true_and]
    rfl

/-- The channel's part of an own RENEW leaves the tables. -/
@[simp] theorem State.ownRenewed_tables (s : State) (c : Chan) (count : Fin 16) (applied : Bool) :
    (s.ownRenewed c count applied).starts = s.starts ∧ (s.ownRenewed c count applied).draws = s.draws := by
  cases applied <;> exact ⟨rfl, rfl⟩

/-- An own RENEW writes its channel's renewal count where it is applied, and no other field of a channel (R61). -/
theorem State.chan_ownRenewed (s : State) (c d : Chan) (count : Fin 16) (applied : Bool) :
    (s.ownRenewed c count applied).chan d =
      if applied = true ∧ d = c then { s.chan c with renewals := Fin.ofNat 4 count.val } else s.chan d := by
  cases applied with
  | false => rfl
  | true => exact (s.chan_modChan c d fun k => { k with renewals := Fin.ofNat 4 count.val }).trans (by simp)

/-- An own RENEW clears the channel's void count, and where it is applied its exhausted mark (R99). -/
theorem State.ownRenewed_engine (s : State) (c : Chan) (count : Fin 16) (applied : Bool) :
    (s.ownRenewed c count applied).engine.renewVoids.get c = 0
      ∧ (applied = true → (s.ownRenewed c count applied).engine.exhausted.get c = false) := by
  cases applied <;> simp [State.ownRenewed, Four.get_set]

/-- What a RENEW does to the tables (R20, R21). -/
theorem applyRenew_tables (owner : Addr) (p : RenewPayload) (own : Option TxFrame) (s : State) :
    (applyRenew owner p own s).draws = s.draws
      ∧ (applyRenew owner p own s).starts
        = s.starts.map fun e => if e.isNamed owner p.ch p.seq then renewEntry p.count e else e := by
  rw [applyRenew_eq]
  split <;> simp [State.modStarts]

/-- Whatever a RENEW does to a channel, it does to the renewal count of the channel it names. -/
theorem chan_applyRenew (owner : Addr) (p : RenewPayload) (own : Option TxFrame) (s : State) (c : Chan) :
    { (applyRenew owner p own s).chan c with renewals := (s.chan c).renewals } = s.chan c
      ∧ (c ≠ p.ch → (applyRenew owner p own s).chan c = s.chan c) := by
  have hkeep : ∀ d, (s.modStarts (fun e => e.isNamed owner p.ch p.seq) (renewEntry p.count)).chan d = s.chan d :=
    State.chan_of_channels (by simp)
  rw [applyRenew_eq]
  split
  · rw [State.chan_ownRenewed, hkeep, hkeep]
    split
    · next h =>
      obtain ⟨-, rfl⟩ := h
      exact ⟨rfl, fun hne => absurd rfl hne⟩
    · exact ⟨rfl, fun _ => rfl⟩
  · rw [hkeep]
    exact ⟨rfl, fun _ => rfl⟩

/-- A peer's RENEW changes nothing local. -/
theorem applyRenew_peer_sameLocal (owner : Addr) (p : RenewPayload) (s : State) :
    sameLocal s (applyRenew owner p none s) :=
  sameLocal_of_keeps rfl (by simp [applyRenew])

/-- What an own RENEW does at its channel while the channels act (R61, R99). -/
theorem applyRenew_own (owner : Addr) (p : RenewPayload) (x : TxFrame) {s : State} (hlive : s.live = true) :
    (applyRenew owner p (some x) s).engine.renewVoids.get p.ch = 0
      ∧ (s.renewIsApplied owner p = true →
        ((applyRenew owner p (some x) s).chan p.ch).renewals = Fin.ofNat 4 p.count.val
          ∧ (applyRenew owner p (some x) s).engine.exhausted.get p.ch = false) := by
  rw [applyRenew_eq, if_pos ⟨rfl, hlive⟩]
  obtain ⟨hvoids, hmark⟩ :=
    State.ownRenewed_engine (s.modStarts (fun e => e.isNamed owner p.ch p.seq) (renewEntry p.count)) p.ch p.count
      (s.renewIsApplied owner p)
  exact ⟨hvoids, fun h => ⟨by rw [State.chan_ownRenewed, if_pos ⟨h, rfl⟩], hmark h⟩⟩

/-- The entry a RENEW meets, as R21 states it. -/
theorem renewed_entry (owner : Addr) (p : RenewPayload) (e : StartEntry) :
    (if e.isNamed owner p.ch p.seq then renewEntry p.count e else e) =
      if e.owner = owner ∧ e.ch = p.ch ∧ e.seq = p.seq then
        if 1 ≤ p.count.val ∧ p.count.val ≤ 3 ∧ e.renewals.val < p.count.val then
          { e with
            renewals := Fin.ofNat 4 p.count.val, remaining := e.holdLimit.val * 20, holdRunning := true,
            expirePending := false, unconfirmed := false }
        else { e with unconfirmed := false }
      else e := by
  simp only [StartEntry.isNamed, renewEntry, renewApplies, StartEntry.limitMs, decide_eq_true_eq]

/-- The taken RENEW at every station. -/
theorem execRenew_taken {rx : Rx} {p : RenewPayload} {s : State} (htakes : s.takes rx (.renew p) = true) :
    exec (.renew rx p) s = .next (applyRenew rx.sender p s.bus.tx (s.heard rx (.renew p))).frameEnds.finish :=
  congrArg Host.Outcome.next (State.receive_of_takes _ htakes rfl)

/-- A voided own RENEW changes no table (R99). -/
theorem State.renewVoided_tables (s : State) (c : Chan) :
    (s.renewVoided c).starts = s.starts ∧ (s.renewVoided c).draws = s.draws := by
  unfold State.renewVoided
  dsimp only
  split <;> simp

/-- The void of an own RENEW changes no table, whether the channels act or not. -/
theorem State.ownVoided_renew_tables (s : State) {x : TxFrame} {p : RenewPayload} (h : x.frame = .renew p) :
    (s.ownVoided x).starts = s.starts ∧ (s.ownVoided x).draws = s.draws := by
  unfold State.ownVoided
  dsimp only
  rw [h]
  dsimp only
  split
  · simp [State.renewVoided_tables]
  · simp

/-- Settles O10: the entry's part is a map over the table, the channel's part writes one renewal count, and the end of the
step moves channels at most between QUEUED and CLAIMING. -/
theorem renewRestartsTheHold : Obligations.RenewRestartsTheHold := by
  refine ⟨fun rx p s htakes => ?_, fun raw s x p hpart htx hx => ?_⟩
  · rw [execRenew_taken htakes]
    generalize hu : s.heard rx (.renew p) = u
    obtain ⟨hustarts, hudraws, huchannels⟩ : u.starts = s.starts ∧ u.draws = s.draws ∧ u.channels = s.channels := by
      simp [← hu]
    have hchan : ∀ c, u.chan c = s.chan c := State.chan_of_channels huchannels
    obtain ⟨hdraws, hstarts⟩ := applyRenew_tables rx.sender p s.bus.tx u
    have hoffer := State.finish_same (applyRenew rx.sender p s.bus.tx u).frameEnds
    refine ⟨_, rfl, ?_, ?_, fun hother => ?_, fun c => ?_, fun c hc => ?_, fun hown hlive => ?_⟩
    · simp only [State.finish_keeps, State.frameEnds_keeps, hstarts, hustarts, renewed_entry]
    · simp only [State.finish_keeps, State.frameEnds_keeps, hdraws, hudraws]
    · rw [(State.takes_of_takesOther hother).2, ← hu]
      exact sameLocal_trans (sameLocal_trans (s.heard_sameLocal rx _) (applyRenew_peer_sameLocal ..))
        (State.frameEnds_finish_sameLocal _)
    · have hsame := (chan_applyRenew rx.sender p s.bus.tx u c).1
      rw [hchan] at hsame
      have h := sameButOffer_withRenewals (s.chan c).renewals (hoffer c)
      rwa [State.chan_of_channels (s := applyRenew rx.sender p s.bus.tx u)
        (t := (applyRenew rx.sender p s.bus.tx u).frameEnds) (by simp) c, hsame] at h
    · rw [sameButOffer_renewals (hoffer c),
        State.chan_of_channels (s := applyRenew rx.sender p s.bus.tx u) (by simp) c,
        (chan_applyRenew rx.sender p s.bus.tx u c).2 hc, hchan]
    · obtain ⟨-, x, htx⟩ := State.takes_of_takesOwn hown
      have hulive : u.live = true := by rw [← hu, State.heard_live_of_own rx _ htx, hlive]
      obtain ⟨hvoids, happlied⟩ := applyRenew_own rx.sender p x hulive
      rw [htx] at hoffer ⊢
      refine ⟨by simpa using hvoids, fun ⟨e, he, hcount⟩ => ?_⟩
      have hnamed : u.renewIsApplied rx.sender p = true := by
        have heu : u.namedEntry rx.sender p.ch p.seq = some e := by
          rw [← he, State.namedEntry, hustarts, State.namedEntry]
        simpa [State.renewIsApplied, heu, renewApplies] using hcount
      obtain ⟨hrenewals, hmark⟩ := happlied hnamed
      exact ⟨(sameButOffer_renewals (hoffer p.ch)).trans hrenewals, by simpa using hmark⟩
  · have hexec : exec (.frameVoided raw) s = .next (s.ownVoided x).frameEnds.finish := by
      simp [exec, execFrameVoided, hpart, htx]
    obtain ⟨hstarts, hdraws⟩ := s.ownVoided_renew_tables hx
    exact ⟨_, hexec, by simp [hstarts], by simp [hdraws]⟩

end Sys2Proof.Machine
end

section
/-!
What a start makes of the retention domain (R117, R119, R120), by Table 7.3.
-/

namespace Sys2Proof.Machine

open Sys2Proof

/-! ## The decision of the start kind -/

/-- Validity asks for the pattern, and of every channel for a fill count in 0-8 (R117). -/
theorem Retention.valid_iff (r : Retention) : r.valid = true ↔ r.pattern = .fixed ∧ ∀ c, r.fill.get c ≤ 8 := by
  rw [Retention.valid, Bool.and_eq_true, decide_eq_true_iff, decide_eq_true_iff]
  refine and_congr_right fun _ => ⟨fun ⟨h0, h1, h2, h3⟩ c => ?_, fun h => ⟨h 0, h 1, h 2, h 3⟩⟩
  fin_cases c
  · exact h0
  · exact h1
  · exact h2
  · exact h3

/-- Contents found invalid make a COLD start (Table 7.3). -/
theorem Retention.kind_of_not_valid {r : Retention} (h : ¬r.valid = true) : r.kind = .cold := by
  simp [Retention.kind, h]

/-- Valid contents with the main-present flag clear make an OUTAGE start (Table 7.3). -/
theorem Retention.kind_of_main_absent {r : Retention} (h : r.valid = true) (hmain : r.mainPresent = false) :
    r.kind = .outage := by
  simp [Retention.kind, h, hmain]

/-- Valid contents with the main-present flag set make a PIN start (Table 7.3). -/
theorem Retention.kind_of_main_present {r : Retention} (h : r.valid = true) (hmain : r.mainPresent = true) :
    r.kind = .pin := by
  simp [Retention.kind, h, hmain]

/-- A start other than a COLD one found the validity pattern at its fixed value. -/
theorem Retention.pattern_of_kind (r : Retention) (h : r.kind ≠ .cold) : r.pattern = .fixed :=
  (r.valid_iff.mp (Classical.not_not.mp fun hv => h (kind_of_not_valid hv))).1

/-! ## The contents after the decision -/

/-- A COLD start writes every retained value afresh (R120). -/
theorem Retention.afterStart_cold {r : Retention} (h : r.kind = .cold) :
    r.afterStart =
      { samples := Four.same 0, fill := Four.same 0, outages := 0, mainPresent := true, pattern := .fixed } := by
  rw [Retention.afterStart, h]

/-- The outage count one outage later: it stays at 255. -/
def outagesRaised (n : Fin 256) : Fin 256 := if n.val < 255 then Fin.ofNat 256 (n.val + 1) else 255

/-- The raised outage count as a number. -/
theorem outagesRaised_val (n : Fin 256) : (outagesRaised n).val = if n.val = 255 then 255 else n.val + 1 := by
  have hn : n.val < 256 := n.isLt
  unfold outagesRaised
  by_cases hlt : n.val < 255
  · simp only [hlt, if_true, show n.val ≠ 255 by omega, if_false, Fin.ofNat]
    omega
  · simp [show n.val = 255 by omega]

/-- An OUTAGE start raises the outage count and sets the main-present flag (R119, R120). -/
theorem Retention.afterStart_outage {r : Retention} (h : r.kind = .outage) :
    r.afterStart = { r with outages := outagesRaised r.outages, mainPresent := true } := by
  rw [Retention.afterStart, h]
  rfl

/-- A PIN start sets the main-present flag alone (R119, R120). -/
theorem Retention.afterStart_pin {r : Retention} (h : r.kind = .pin) : r.afterStart = { r with mainPresent := true } := by
  rw [Retention.afterStart, h]

/-- After every start the contents are marked: the main-present flag is set, the validity pattern stands (R119, R120). -/
theorem Retention.afterStart_marked (r : Retention) :
    r.afterStart.mainPresent = true ∧ r.afterStart.pattern = .fixed := by
  cases h : r.kind with
  | cold => simp [afterStart_cold h]
  | outage => simp [afterStart_outage h, r.pattern_of_kind (by simp [h])]
  | pin => simp [afterStart_pin h, r.pattern_of_kind (by simp [h])]

/-! ## START -/

/-- Entering HALTED leaves the retention domain and the start kind. -/
@[simp] theorem State.enterHalted_retention (s : State) :
    s.enterHalted.retention = s.retention ∧ s.enterHalted.history.startKind = s.history.startKind := ⟨rfl, rfl⟩

/-- The straps' sampling leaves the retention domain and the start kind, whether it begins the image read or halts. -/
theorem State.sampleStraps_retention (s : State) (straps : Addr) :
    (s.sampleStraps straps).retention = s.retention
      ∧ (s.sampleStraps straps).history.startKind = s.history.startKind := by
  unfold State.sampleStraps
  dsimp only
  split
  · simp [State.haltLoading]
  · exact ⟨rfl, rfl⟩

/-- A start keeps the kind it decided, and does to the retention domain what that kind says (R119, R120). -/
theorem State.begin_retention (s : State) (straps : Addr) :
    (s.begin straps).retention = s.retention.afterStart
      ∧ (s.begin straps).history.startKind = s.retention.kind :=
  State.sampleStraps_retention _ straps

/-- A part waits for its start in reset, and in the warning condition, with the start delay running (R118, R122). -/
theorem State.awaitsStart_of {s : State}
    (hphase : s.power.phase = .inReset ∨ s.power.phase = .running ∧ s.power.warning = true)
    (hdelay : s.power.startDelay.isSome = true) : s.awaitsStart = true := by
  simpa [State.awaitsStart, hdelay] using hphase

/-- Where the part waits for its start, START begins it and ends the step (R119). -/
theorem exec_start_of_awaits {s : State} (straps : Addr) (h : s.awaitsStart = true) :
    exec (.start straps) s = .next (s.begin straps).finish := by
  change execStart straps s = _
  rw [execStart, if_pos h]

/-- Settles O51: nothing after the decision of R119 writes the retention domain or the start kind, so the three kinds are
the three cases of Table 7.3. -/
theorem startActsByItsKind : Obligations.StartActsByItsKind := by
  intro straps s hphase hdelay valid
  have hexec := exec_start_of_awaits straps (State.awaitsStart_of hphase hdelay)
  obtain ⟨hret, hkind⟩ : (s.begin straps).finish.retention = s.retention.afterStart
      ∧ (s.begin straps).finish.history.startKind = s.retention.kind := by
    simp [State.begin_retention]
  have hvalid : s.retention.valid = true ↔ valid := s.retention.valid_iff
  obtain ⟨hmain, hpattern⟩ := s.retention.afterStart_marked
  refine ⟨_, hexec, hret ▸ hmain, hret ▸ hpattern, fun hinvalid => ?cold, fun hv habsent => ?outage,
    fun hv hpresent => ?pin⟩
  all_goals rw [hret, hkind]
  case cold =>
    have hcold := Retention.kind_of_not_valid (mt hvalid.mp hinvalid)
    simp [hcold, Retention.afterStart_cold hcold]
  case outage =>
    have houtage := Retention.kind_of_main_absent (hvalid.mpr hv) habsent
    simp [houtage, Retention.afterStart_outage houtage, outagesRaised_val]
  case pin =>
    have hpin := Retention.kind_of_main_present (hvalid.mpr hv) hpresent
    simp [hpin, Retention.afterStart_pin hpin]

end Sys2Proof.Machine
end

section
/-!
What an accepted frame can do to the station (R4, R150-R155, R162), and what the end of a step does where the bus is not free:
the rules that the statements about every command use.
-/

namespace Sys2Proof.Machine

open Sys2Proof

/-! ## The end of a step -/

/-- The selector begins nothing where the bus is not free (R160). -/
theorem State.select_of_not_free {s : State} (h : s.bus.free = false) : s.select = s := by
  simp [State.select, h]

/-- The selector begins nothing while the transmit slot is filled (R160). -/
theorem State.select_of_sending {s : State} (h : s.bus.tx.isSome = true) : s.select = s := by
  rw [Option.isSome_iff_ne_none] at h
  simp [State.select, h]

/-- The selector begins nothing where the channels do not act (R121). -/
theorem State.select_of_not_live {s : State} (h : s.live = false) : s.select = s := by
  simp [State.select, h]

/-- Without a notice there is no evaluation. -/
theorem State.takeNotice_of_none {s : State} (h : s.notice = false) : s.takeNotice = s := by
  simp [State.takeNotice, h]

/-- Where the channels do not act a notice is taken without an evaluation (R49, R82). -/
theorem State.takeNotice_of_not_live {s : State} (h : s.live = false) : s.takeNotice = { s with notice := false } := by
  unfold State.takeNotice
  split
  · simp [h]
  · next hn => simp only [Bool.not_eq_true] at hn; rw [← hn]

/-- Whether the channels act is not changed by taking the notice. -/
@[simp] theorem State.takeNotice_live (s : State) : s.takeNotice.live = s.live := by
  simp [State.live, State.operating]

/-- On a bus that is not free the end of a step takes the notice and refreshes the indicators. -/
theorem State.finish_of_not_free {s : State} (h : s.bus.free = false) : s.finish = s.takeNotice.refresh := by
  rw [State.finish, State.select_of_not_free (by simpa using h)]

/-- Where the channels do not act the end of a step drops the notice and refreshes the indicators. -/
theorem State.finish_of_not_live {s : State} (h : s.live = false) :
    s.finish = ({ s with notice := false } : State).refresh := by
  rw [State.finish, State.select_of_not_live (by simpa using h), State.takeNotice_of_not_live h]

/-- After a frame's end the step ends without the selector: its bus waits for the free-bus instant (R150). -/
theorem State.frameEnds_finish (s : State) : s.frameEnds.finish = s.frameEnds.takeNotice.refresh :=
  State.finish_of_not_free rfl

/-- The end of a frame's step leaves the bus as the frame's end did. -/
@[simp] theorem State.frameEnds_finish_bus (s : State) : s.frameEnds.finish.bus = s.frameEnds.bus := by
  rw [State.frameEnds_finish]
  simp

/-- Without a notice the end of a frame's step leaves queue and channels as they are. -/
theorem State.frameEnds_finish_of_no_notice {s : State} (h : s.notice = false) :
    s.frameEnds.finish.queue = s.queue ∧ s.frameEnds.finish.channels = s.channels := by
  rw [State.frameEnds_finish, State.takeNotice_of_none (by simpa using h)]
  simp

/-- The end of a step leaves a filled transmit slot as it is. -/
theorem State.finish_bus_of_sending {s : State} (h : s.bus.tx.isSome = true) : s.finish.bus = s.bus := by
  rw [State.finish, State.select_of_sending (by simpa using h)]
  simp

/-- Whether the channels act is not changed by the end of a step. -/
@[simp] theorem State.finish_live (s : State) : s.finish.live = s.live := by
  simp [State.live, State.operating]

@[simp] theorem State.frameEnds_live (s : State) : s.frameEnds.live = s.live := rfl

/-! ## An accepted frame -/

/-- The station as a listener of a frame that is not its own: as it stands, or after an own frame lost the line (R152). -/
def State.listens (s u : State) : Prop :=
  s.bus.tx = none ∧ u = s ∨ ∃ t, s.bus.tx = some t ∧ u = s.loseArbitration t

/-- What an accepted frame can leave of the state before the frame's end: nothing done, the own frame's effects, a clash, or
what another station's or the tool's frame does at a listener. -/
inductive State.Receives (s : State) (rx : Rx) (f : Frame) (body : Option TxFrame → State → State) : State → Prop
  | aside (hpart : s.takesPart = false) : State.Receives s rx f body s
  | own (t : TxFrame) (hpart : s.takesPart = true) (htx : s.bus.tx = some t) (hown : rx.sender = s.own) (hf : t.frame = f) :
    State.Receives s rx f body (body (some t) (s.clearTx.ownAccepted rx.acked))
  | clash (t : TxFrame) (hpart : s.takesPart = true) (htx : s.bus.tx = some t) (hown : rx.sender = s.own)
    (hf : t.frame ≠ f) : State.Receives s rx f body s.meetClash
  | ignored (u : State) (hpart : s.takesPart = true) (hu : s.listens u) : State.Receives s rx f body u
  | tool (u : State) (hpart : s.takesPart = true) (hu : s.listens u) (htool : rx.sender = toolAddr)
    (hf : f.isInquire = false) :
    State.Receives s rx f body (u.tally fun k => { k with toolReject := satSucc 65535 k.toolReject })
  | inquiry (u : State) (hpart : s.takesPart = true) (hu : s.listens u) (htool : rx.sender = toolAddr)
    (hf : f.isInquire = true) : State.Receives s rx f body (body none u)
  | peer (u : State) (hpart : s.takesPart = true) (hu : s.listens u) (hown : rx.sender ≠ s.own) (hzero : rx.sender ≠ 0)
    (htool : rx.sender ≠ toolAddr) : State.Receives s rx f body (body none (u.hearPeer rx.sender (isHello f)))

/-- The strapped address is not changed by a lost arbitration. -/
@[simp] theorem State.loseArbitration_own (s : State) (t : TxFrame) : (s.loseArbitration t).own = s.own := by
  simp [State.own]

/-- A listener has the station's address. -/
theorem State.listens_own {s u : State} (h : s.listens u) : u.own = s.own := by
  rcases h with ⟨-, rfl⟩ | ⟨t, -, rfl⟩
  · rfl
  · simp

/-- What a listener does with a frame, by its sender (R153, R154, R162). -/
theorem State.receives_listener {s u : State} {rx : Rx} {f : Frame} (body : Option TxFrame → State → State)
    (hpart : s.takesPart = true) (hu : s.listens u) :
    State.Receives s rx f body
      (if rx.sender = u.own ∨ rx.sender = 0 then u
        else if rx.sender = toolAddr then
          if f.isInquire then body none u else u.tally fun k => { k with toolReject := satSucc 65535 k.toolReject }
        else body none (u.hearPeer rx.sender (isHello f))) := by
  rw [State.listens_own hu]
  split
  · exact .ignored u hpart hu
  · next hsender =>
    obtain ⟨hown, hzero⟩ := not_or.mp hsender
    split
    · next htool =>
      split
      · next hf => exact .inquiry u hpart hu htool hf
      · next hf => exact .tool u hpart hu htool (by simpa using hf)
    · next htool => exact .peer u hpart hu hown hzero htool

/-- Every accepted frame leaves one of the states of `Receives`, then ends on the line, then the step ends. -/
theorem State.receive_cases (s : State) (rx : Rx) (f : Frame) (body : Option TxFrame → State → State) :
    ∃ v, s.Receives rx f body v ∧ s.receive rx f body = v.frameEnds.finish := by
  unfold State.receive
  split
  · next hpart =>
    refine ⟨_, ?_, rfl⟩
    unfold State.applyFrame State.takeLine
    cases htx : s.bus.tx with
    | none => exact State.receives_listener body hpart (Or.inl ⟨htx, rfl⟩)
    | some t =>
      by_cases hown : rx.sender = s.own
      · by_cases hf : t.frame = f
        · simpa [hown, hf] using State.Receives.own t hpart htx hown hf
        · have hkeep : s.meetClash.own = s.own := by
            unfold State.own State.meetClash
            dsimp only
            rw [htx]
            dsimp only
            split <;> simp [State.enterHalted]
          simpa [hown, hf, hkeep] using State.Receives.clash (body := body) t hpart htx hown hf
      · simpa [hown] using State.receives_listener (rx := rx) (f := f) body hpart (Or.inr ⟨t, htx, rfl⟩)
  · next hpart => exact ⟨s, .aside (by simpa using hpart), rfl⟩

end Sys2Proof.Machine
end

section
/-!
The fault list grows at its head (R178, R179): what every operation adds to it.
-/

namespace Sys2Proof.Machine

open Sys2Proof

/-! ## Growth of the fault list -/

/-- Records put in front of a fault list with consecutive numbers, of which eight stay (R179). -/
def FaultList.grownBy (l m : FaultList) (new : List FaultRecord) : Prop :=
  m.records = (new ++ l.records).take 8 ∧ m.counter = l.counter + BitVec.ofNat 16 new.length
    ∧ ∀ i r, new[i]? = some r → r.number = l.counter + BitVec.ofNat 16 (new.length - 1 - i)

/-- A fault list of eight records at most has grown by some records, none among them. -/
def FaultList.grows (l m : FaultList) : Prop := l.records.length ≤ 8 → ∃ new, l.grownBy m new

theorem FaultList.grows_refl (l : FaultList) : l.grows l :=
  fun h => ⟨[], by simpa using (List.take_of_length_le h).symm, by simp, by simp⟩

/-- A grown list holds eight records at most. -/
theorem FaultList.length_of_grows {l m : FaultList} (h : l.grows m) (hl : l.records.length ≤ 8) :
    m.records.length ≤ 8 := by
  obtain ⟨new, hrec, -, -⟩ := h hl
  simp [hrec]

/-- Records in front of records in front of a list are records in front of it. -/
theorem FaultList.grownBy_trans {l m n : FaultList} {new newer : List FaultRecord} (h : l.grownBy m new)
    (k : m.grownBy n newer) : l.grownBy n (newer ++ new) := by
  obtain ⟨hrec, hcount, hnum⟩ := h
  obtain ⟨krec, kcount, knum⟩ := k
  refine ⟨?_, ?_, fun i r hi => ?_⟩
  · rw [krec, hrec, List.append_assoc, List.take_append, List.take_append (l₁ := newer)]
    rw [List.take_take, Nat.min_eq_left (by omega)]
  · rw [kcount, hcount, List.length_append, BitVec.add_assoc, ← BitVec.ofNat_add, Nat.add_comm]
  · rcases Nat.lt_or_ge i newer.length with hlt | hge
    · rw [List.getElem?_append_left hlt] at hi
      rw [knum i r hi, hcount, BitVec.add_assoc, ← BitVec.ofNat_add, List.length_append]
      congr 2
      omega
    · rw [List.getElem?_append_right hge] at hi
      rw [hnum _ r hi, List.length_append]
      congr 2
      omega

theorem FaultList.grows_trans {l m n : FaultList} (h : l.grows m) (k : m.grows n) : l.grows n := by
  intro hl
  obtain ⟨new, hnew⟩ := h hl
  obtain ⟨newer, hnewer⟩ := k (length_of_grows h hl)
  exact ⟨newer ++ new, grownBy_trans hnew hnewer⟩

/-- The fault list of a state has grown into another's. -/
structure State.faultsGrow (s t : State) : Prop where
  grown : s.faults.grows t.faults

namespace State

theorem faultsGrow_of_eq {s t : State} (h : t.faults = s.faults) : s.faultsGrow t := by
  refine ⟨?_⟩
  rw [h]
  exact FaultList.grows_refl _

theorem faultsGrow.trans {s t u : State} (h : s.faultsGrow t) (k : t.faultsGrow u) : s.faultsGrow u :=
  ⟨FaultList.grows_trans h.grown k.grown⟩

/-- Growth goes through a later operation that keeps the fault list. -/
theorem faultsGrow.keep {s t u : State} (h : s.faultsGrow t) (k : u.faults = t.faults) : s.faultsGrow u :=
  h.trans (faultsGrow_of_eq k)

/-- Growth goes through an earlier operation that keeps the fault list. -/
theorem faultsGrow.after {s t u : State} (h : t.faultsGrow u) (k : t.faults = s.faults) : s.faultsGrow u :=
  (faultsGrow_of_eq k).trans h

/-- A record written takes the number the counter gives. -/
theorem faultsGrow_log (s : State) (k : FaultKind) (c : Option Chan) (i : Option Nat) (p : Option Addr) :
    s.faultsGrow (s.log k c i p) := by
  refine ⟨fun _ => ⟨[_], rfl, rfl, fun i r hi => ?_⟩⟩
  rcases i with - | i
  · obtain rfl : _ = r := by simpa using hi
    simp
  · simp at hi

/-! ## What the operations add -/

theorem faultsGrow_failRecipe (s : State) (c : Chan) (i : Nat) : s.faultsGrow (s.failRecipe c i) :=
  ((faultsGrow_log _ _ _ _ _).after (by simp)).keep rfl

@[simp] theorem completeRecipe_faults (s : State) (c : Chan) : (s.completeRecipe c).faults = s.faults := rfl

theorem faultsGrow_takeSteps (s : State) (c : Chan) (i : Nat) : s.faultsGrow (s.takeSteps c i) := by
  unfold takeSteps
  dsimp only
  split
  · exact faultsGrow_of_eq (by simp)
  · exact faultsGrow_of_eq (by simp)
  · exact (faultsGrow_failRecipe _ _ _).after (by simp)

theorem faultsGrow_beginStart (s : State) (c : Chan) : s.faultsGrow (s.beginStart c) :=
  (faultsGrow_takeSteps _ _ _).after rfl

theorem faultsGrow_resume (s : State) (r : Context) : s.faultsGrow (s.resume r) := by
  unfold resume
  dsimp only
  generalize hu : State.enter _ r.ch .starting = u
  have huf : u.faults = s.faults := by
    rw [← hu]
    split <;> simp
  split
  · split
    · exact (faultsGrow_takeSteps _ _ _).after huf
    · exact faultsGrow_of_eq huf
  · split
    · exact (faultsGrow_takeSteps _ _ _).after huf
    · split
      · exact (faultsGrow_failRecipe _ _ _).after huf
      · exact faultsGrow_of_eq huf
  · exact (faultsGrow_takeSteps _ _ _).after huf

theorem faultsGrow_freeLoop (n : Nat) (s : State) : s.faultsGrow (freeLoop n s) := by
  induction n generalizing s with
  | zero => exact faultsGrow_of_eq rfl
  | succ n ih =>
    unfold freeLoop
    split
    · exact faultsGrow_of_eq rfl
    · split
      · exact ((faultsGrow_beginStart _ _).trans (ih _)).after rfl
      · split
        · exact ((faultsGrow_resume _ _).trans (ih _)).after rfl
        · exact faultsGrow_of_eq rfl

theorem faultsGrow_freeEngine (s : State) : s.faultsGrow s.freeEngine := by
  unfold freeEngine
  split
  · exact faultsGrow_of_eq rfl
  · exact (faultsGrow_freeLoop 5 s).keep rfl

theorem faultsGrow_stepCompletes (s : State) (r : RunSlot) : s.faultsGrow (s.stepCompletes r) := by
  unfold stepCompletes
  split
  · split
    · exact (faultsGrow_freeEngine _).after (by simp)
    · exact (faultsGrow_takeSteps _ _ _).trans (faultsGrow_freeEngine _)
  · exact (faultsGrow_freeEngine _).after rfl

theorem faultsGrow_stepFails (s : State) (r : RunSlot) : s.faultsGrow (s.stepFails r) :=
  (faultsGrow_failRecipe _ _ _).trans (faultsGrow_freeEngine _)

theorem faultsGrow_placeStart (s : State) (c : Chan) : s.faultsGrow (s.placeStart c) := by
  have hbegin : ∀ u : State, u.faults = s.faults → s.faultsGrow (u.beginStart c).freeEngine.notify := by
    intro u hu
    have h := (faultsGrow_beginStart u c).trans (faultsGrow_freeEngine _)
    exact (h.after hu).keep rfl
  unfold placeStart
  dsimp only
  split
  · exact hbegin _ rfl
  · split
    · split
      · exact hbegin _ (by simp)
      · exact faultsGrow_of_eq rfl
    · exact faultsGrow_of_eq rfl

theorem faultsGrow_removeStart (s : State) (c : Chan) : s.faultsGrow (s.removeStart c) := by
  unfold removeStart
  dsimp only
  split
  · split
    · exact faultsGrow_of_eq rfl
    · split
      · split
        · exact (faultsGrow_freeEngine _).after rfl
        · exact faultsGrow_of_eq rfl
      · exact faultsGrow_of_eq rfl
  · exact faultsGrow_of_eq rfl

theorem faultsGrow_abortStart (s : State) (c : Chan) (rel : Release) (k : FaultKind) (p : Option Addr) :
    s.faultsGrow (s.abortStart c rel k p) := by
  have hremove := (faultsGrow_removeStart (s.outsOff c) c).after (s := s) rfl
  have hlog := faultsGrow_log (((s.outsOff c).removeStart c).setRelease c rel) k (some c) (s.startStep c) p
  exact (hremove.trans (hlog.after rfl)).keep (by simp [abortStart])

theorem faultsGrow_inhibitStart (s : State) (c : Chan) : s.faultsGrow (s.inhibitStart c) := by
  have hremove := (faultsGrow_removeStart (s.outsOff c) c).after (s := s) rfl
  exact hremove.keep (by simp [inhibitStart])

theorem faultsGrow_ownHoldOut (s : State) (c : Chan) (q : Seq) : s.faultsGrow (s.ownHoldOut c q) := by
  unfold ownHoldOut
  split
  · exact faultsGrow_abortStart ..
  · exact faultsGrow_of_eq rfl

theorem faultsGrow_demandOff (s : State) (c : Chan) : s.faultsGrow (s.demandOff c) := by
  unfold demandOff
  dsimp only
  generalize hu : clearMark _ c = u
  have huf : u.faults = s.faults := by simp [← hu]
  have hremove : s.faultsGrow ((u.outsOff c).removeStart c) := (faultsGrow_removeStart _ _).after huf
  split
  case h_3 => exact hremove.keep rfl
  case h_4 => exact hremove.keep rfl
  case h_5 => exact hremove.keep rfl
  all_goals
    refine faultsGrow_of_eq ?_
    try split
    all_goals simp [huf]

theorem faultsGrow_writeLatch (s : State) (c : Chan) (b : Bool) : s.faultsGrow (s.writeLatch c b) := by
  have hwrite : ∀ new : Bool, s.faultsGrow
      (if (s.chan c).latch = new then s else if new then s.demandOn c else s.demandOff c) := by
    intro new
    split
    · exact faultsGrow_of_eq rfl
    · split
      · exact faultsGrow_of_eq (by simp)
      · exact faultsGrow_demandOff _ _
  exact hwrite _

theorem faultsGrow_judgeIsolated (s : State) : s.faultsGrow s.judgeIsolated := by
  unfold judgeIsolated
  split
  · exact (faultsGrow_log _ _ _ _ _).after (by simp)
  · exact faultsGrow_of_eq rfl

theorem faultsGrow_enterInStep (s : State) : s.faultsGrow s.enterInStep :=
  (faultsGrow_judgeIsolated _).after (by simp)

theorem faultsGrow_judgeExit (s : State) : s.faultsGrow s.judgeExit := by
  unfold judgeExit
  split
  · exact faultsGrow_enterInStep s
  · exact faultsGrow_of_eq rfl

theorem faultsGrow_judgeDiscord (s : State) (a : Addr) : s.faultsGrow (s.judgeDiscord a) := by
  unfold judgeDiscord
  dsimp only
  split
  · exact faultsGrow_of_eq rfl
  · split
    · exact (faultsGrow_log _ _ _ _ _).after (by simp)
    · exact faultsGrow_of_eq (by simp)

theorem faultsGrow_hearPeer (s : State) (a : Addr) (b : Bool) : s.faultsGrow (s.hearPeer a b) := by
  unfold hearPeer
  dsimp only
  generalize hu : modPeer s a _ = u
  have huf : u.faults = s.faults := by simp [← hu]
  generalize hv : (if (s.peer a).state = .present ∨ b = true then u else _) = v
  have hvf : s.faultsGrow v := by
    rw [← hv]
    split
    · exact faultsGrow_of_eq huf
    · exact (faultsGrow_judgeDiscord _ _).after (by simp [huf])
  split
  · exact hvf.keep (by simp)
  · exact hvf

theorem faultsGrow_ownAccepted (s : State) (b : Bool) : s.faultsGrow (s.ownAccepted b) := by
  unfold ownAccepted
  dsimp only
  split
  · exact faultsGrow_of_eq (by simp)
  · exact (faultsGrow_judgeIsolated _).after (by simp)

/-- The station after the own frame, if any, lost the line to a clash (R153). -/
def yieldsLine (s : State) : State :=
  match s.bus.tx with
  | some t => s.ownLost t
  | none => s

@[simp] theorem yieldsLine_faults (s : State) : s.yieldsLine.faults = s.faults := by
  unfold yieldsLine
  split <;> simp

/-- An address clash is counted and recorded, and the second halts the station (R153). -/
theorem meetClash_eq (s : State) :
    s.meetClash =
      let u := (s.yieldsLine.tally fun k => { k with clashes := satSucc 65535 k.clashes }).log .addressClash none none none
      if 2 ≤ u.bus.counters.clashes then u.enterHalted else u := rfl

theorem faultsGrow_meetClash (s : State) : s.faultsGrow s.meetClash := by
  rw [meetClash_eq]
  dsimp only
  split
  · exact ((faultsGrow_log _ _ _ _ _).after (by simp)).keep rfl
  · exact (faultsGrow_log _ _ _ _ _).after (by simp)

/-- A listener's fault list is the station's. -/
theorem listens_faults {s u : State} (h : s.listens u) : u.faults = s.faults := by
  rcases h with ⟨-, rfl⟩ | ⟨t, -, rfl⟩
  · rfl
  · simp

/-- An accepted frame lets the fault list grow where its own effects do. -/
theorem faultsGrow_receive (s : State) (rx : Rx) (f : Frame) (body : Option TxFrame → State → State)
    (hbody : ∀ own (u : State), u.faultsGrow (body own u)) : s.faultsGrow (s.receive rx f body) := by
  obtain ⟨v, hv, heq⟩ := s.receive_cases rx f body
  rw [heq]
  refine faultsGrow.keep ?_ (t := v) (by simp)
  cases hv with
  | aside => exact faultsGrow_of_eq rfl
  | own t _ _ _ _ => exact ((faultsGrow_ownAccepted _ _).trans (hbody _ _)).after rfl
  | clash t _ _ _ _ => exact faultsGrow_meetClash s
  | ignored _ _ hu => exact faultsGrow_of_eq (listens_faults hu)
  | tool u _ hu _ _ => exact (faultsGrow_of_eq (listens_faults hu)).keep (by simp)
  | inquiry u _ hu _ _ => exact (hbody _ _).after (listens_faults hu)
  | peer u _ hu _ _ _ => exact ((faultsGrow_hearPeer _ _ _).trans (hbody _ _)).after (listens_faults hu)

end State

end Sys2Proof.Machine
end

section
/-!
Fault records of every command (R178, R179): a command that is none of supplies, reset and starts only adds records.
-/

namespace Sys2Proof.Machine

open Sys2Proof

namespace State

/-! ## The effects of the frames -/

theorem faultsGrow_countClaimVoid (s : State) (c : Chan) : s.faultsGrow (s.countClaimVoid c) := by
  unfold countClaimVoid
  split
  · split
    · exact (faultsGrow_log _ _ _ _ _).after (by simp)
    · exact faultsGrow_of_eq (by simp)
  · exact faultsGrow_of_eq rfl

theorem faultsGrow_claimVoided (s : State) (t : TxFrame) (c : Chan) : s.faultsGrow (s.claimVoided t c) := by
  unfold claimVoided
  split
  · exact faultsGrow_of_eq (by simp)
  · exact (faultsGrow_countClaimVoid s c).keep (by simp)

theorem faultsGrow_startAdmitted (s : State) (c : Chan) (q : Seq) : s.faultsGrow (s.startAdmitted c q) := by
  have hplace := (faultsGrow_placeStart ((s.writeSeq c q).leave c) c).after (s := s) rfl
  unfold startAdmitted
  dsimp only
  split
  · exact hplace.trans (faultsGrow_inhibitStart _ _)
  · exact hplace

theorem faultsGrow_claimVerdict (s : State) (t : TxFrame) (p : ClaimPayload) (v : Judgement) :
    s.faultsGrow (s.claimVerdict t p v) := by
  unfold claimVerdict
  dsimp only
  generalize hu : (if v = .admitted then _ else _ : State) = u
  have huf : u.faults = s.faults := by
    rw [← hu]
    split <;> rfl
  split
  · split
    · split <;> exact faultsGrow_of_eq (by simp [huf])
    · split
      · exact (faultsGrow_startAdmitted _ _ _).after huf
      · split <;> exact faultsGrow_of_eq (by simp [huf])
  · exact faultsGrow_of_eq huf

theorem faultsGrow_applyClaim (owner : Addr) (p : ClaimPayload) (own : Option TxFrame) (s : State) :
    s.faultsGrow (applyClaim owner p own s) := by
  unfold applyClaim
  split
  · split
    · split
      · exact faultsGrow_claimVoided ..
      · exact faultsGrow_of_eq rfl
    · exact faultsGrow_of_eq rfl
  · dsimp only
    generalize hu : (if s.admissionTest owner p.ch p.urgency p.inrush.val p.draw.val = .admitted then _ else s) = u
    have huf : u.faults = s.faults := by
      rw [← hu]
      split <;> rfl
    split
    · exact (faultsGrow_claimVerdict ..).after huf
    · exact faultsGrow_of_eq huf

theorem faultsGrow_ownEntryExpired (s : State) (c : Chan) (q : Seq) (a : Addr) :
    s.faultsGrow (s.ownEntryExpired c q a) := by
  have habort := faultsGrow_abortStart s c .none .claimExpired (some a)
  have hsettle : s.faultsGrow (s.settleExpired c a) :=
    have hlog := faultsGrow_log ((s.outsOff c).setRelease c .none) .claimExpired (some c) none (some a)
    (hlog.after (s := s) rfl).keep (by simp [settleExpired])
  have hclear : s.faultsGrow (match (s.chan c).release with
      | .abandoned _ => s.clearRelease c
      | .none | .settled | .stopped _ => s) := by
    split
    · exact faultsGrow_of_eq (by simp)
    all_goals exact faultsGrow_of_eq rfl
  unfold ownEntryExpired
  split
  · split
    case h_4 => exact hsettle
    all_goals first
      | exact habort
      | exact hclear
  · exact faultsGrow_of_eq rfl

theorem faultsGrow_applyExpire (a : Addr) (p : ExpirePayload) (own : Option TxFrame) (s : State) :
    s.faultsGrow (applyExpire a p own s) := by
  unfold applyExpire
  split
  · dsimp only
    split
    · exact (faultsGrow_ownEntryExpired _ _ _ _).after rfl
    · exact faultsGrow_of_eq rfl
  · exact faultsGrow_of_eq rfl

/-- What the removal of a station's entries leaves as it was. -/
@[simp] theorem dropOwner_keeps (s : State) (a : Addr) (b : Bool) :
    (s.dropOwner a b).pending = s.pending ∧ (s.dropOwner a b).pins = s.pins ∧ (s.dropOwner a b).power = s.power
      ∧ (s.dropOwner a b).retention = s.retention ∧ (s.dropOwner a b).history = s.history
      ∧ (s.dropOwner a b).queue = s.queue ∧ (s.dropOwner a b).channels = s.channels ∧ (s.dropOwner a b).inh = s.inh
      ∧ (s.dropOwner a b).engine = s.engine ∧ (s.dropOwner a b).member = s.member ∧ (s.dropOwner a b).bus = s.bus
      ∧ (s.dropOwner a b).loader = s.loader ∧ (s.dropOwner a b).faults = s.faults
      ∧ (s.dropOwner a b).answer = s.answer ∧ (s.dropOwner a b).indicators = s.indicators
      ∧ (s.dropOwner a b).freeCount = s.freeCount := by
  unfold dropOwner
  dsimp only
  split <;> simp

theorem faultsGrow_applyHello (a : Addr) (p : HelloPayload) (own : Option TxFrame) (s : State) :
    s.faultsGrow (applyHello a p own s) := by
  unfold applyHello
  dsimp only
  split
  · exact faultsGrow_of_eq (by simp)
  · refine faultsGrow.trans ?_ (faultsGrow_judgeExit _)
    split
    · exact (faultsGrow_judgeDiscord _ _).after (by simp)
    · exact ((faultsGrow_judgeDiscord _ _).after (by simp)).keep rfl

theorem faultsGrow_applyPresence (a : Addr) (p : PresencePayload) (own : Option TxFrame) (s : State) :
    s.faultsGrow (applyPresence a p own s) := by
  unfold applyPresence
  dsimp only
  split
  · exact faultsGrow_of_eq rfl
  · have h := (faultsGrow_judgeDiscord (s.modPeer a (presenceSlot p)) a).after (s := s) (by simp)
    split
    · exact h.keep (by simp)
    · exact h

theorem faultsGrow_applySyncReq (target : Addr) (own : Option TxFrame) (s : State) :
    s.faultsGrow (applySyncReq target own s) := by
  unfold applySyncReq
  dsimp only
  split
  · exact faultsGrow_of_eq rfl
  · refine (faultsGrow_judgeExit _).after ?_
    split <;> split <;> simp

theorem faultsGrow_runOut (s : State) (a : Addr) (c : Chan) (q : Seq) : s.faultsGrow (s.runOut a c q) := by
  unfold runOut
  split
  · exact (faultsGrow_ownHoldOut _ _ _).after rfl
  · exact faultsGrow_of_eq rfl

/-- An accepted RECOUNT counted: by the own round, or as heard of its sender's (R140, R141). -/
def recountCounted (s : State) (owner : Addr) (c : Chan) (own : Option TxFrame) : State :=
  if own.isSome then s.roundSent c else s.countHeard owner

/-- An accepted RECOUNT is counted, and then acts on the tables by its type. -/
theorem applyRecount_eq (owner : Addr) (p : RecountPayload) (own : Option TxFrame) (s : State) :
    applyRecount owner p own s =
      if p.isDraw then (s.recountCounted owner p.ch own).recountDraw owner p
      else (s.recountCounted owner p.ch own).recountStart owner p := by
  cases own <;> rfl

/-- What the counting of a RECOUNT leaves as it was. -/
@[simp] theorem recountCounted_keeps (s : State) (a : Addr) (c : Chan) (own : Option TxFrame) :
    (s.recountCounted a c own).pending = s.pending ∧ (s.recountCounted a c own).pins = s.pins
      ∧ (s.recountCounted a c own).power = s.power ∧ (s.recountCounted a c own).retention = s.retention
      ∧ (s.recountCounted a c own).history = s.history ∧ (s.recountCounted a c own).starts = s.starts
      ∧ (s.recountCounted a c own).draws = s.draws ∧ (s.recountCounted a c own).queue = s.queue
      ∧ (s.recountCounted a c own).channels = s.channels ∧ (s.recountCounted a c own).inh = s.inh
      ∧ (s.recountCounted a c own).engine = s.engine ∧ (s.recountCounted a c own).bus = s.bus
      ∧ (s.recountCounted a c own).loader = s.loader ∧ (s.recountCounted a c own).faults = s.faults
      ∧ (s.recountCounted a c own).answer = s.answer ∧ (s.recountCounted a c own).indicators = s.indicators
      ∧ (s.recountCounted a c own).notice = s.notice
      ∧ (s.recountCounted a c own).member.state = s.member.state := by
  unfold recountCounted countHeard
  repeat' split
  all_goals simp

/-- A RECOUNT of type DRAW takes the pair's entry out and fills its slot, with a notice where it changed anything (R32, R141). -/
theorem recountDraw_cases (s : State) (a : Addr) (p : RecountPayload) :
    s.recountDraw a p = (s.dropStarts fun e => e.isPair a p.ch).fillSlot a p.ch (recountSlot p)
      ∨ s.recountDraw a p = ((s.dropStarts fun e => e.isPair a p.ch).fillSlot a p.ch (recountSlot p)).notify := by
  unfold recountDraw
  exact (Bool.eq_false_or_eq_true _).symm.imp (fun h => if_neg (by rw [h]; decide)) fun h => if_pos h

@[simp] theorem recountDraw_faults (s : State) (a : Addr) (p : RecountPayload) :
    (s.recountDraw a p).faults = s.faults := by
  rcases s.recountDraw_cases a p with h | h <;> simp [h]

theorem faultsGrow_recountStart (s : State) (a : Addr) (p : RecountPayload) : s.faultsGrow (s.recountStart a p) := by
  unfold recountStart
  dsimp only
  split
  · exact faultsGrow_of_eq rfl
  · split
    · split
      · exact (faultsGrow_runOut _ _ _ _).after (by split <;> simp)
      · exact faultsGrow_of_eq (by split <;> simp)
    · split
      · split
        · exact (faultsGrow_runOut _ _ _ _).after rfl
        · exact faultsGrow_of_eq rfl
      · exact faultsGrow_of_eq rfl

theorem faultsGrow_applyRecount (a : Addr) (p : RecountPayload) (own : Option TxFrame) (s : State) :
    s.faultsGrow (applyRecount a p own s) := by
  rw [applyRecount_eq]
  split
  · exact faultsGrow_of_eq (by simp)
  · exact (faultsGrow_recountStart _ a p).after (by simp)

theorem faultsGrow_applyRecountEnd (a : Addr) (n : Fin 8) (own : Option TxFrame) (s : State) :
    s.faultsGrow (applyRecountEnd a n own s) := by
  unfold applyRecountEnd
  refine (faultsGrow_judgeExit _).after ?_
  split <;> simp

/-- The first part of an abort of every start leaves the fault list. -/
theorem foldl_abortChan_faults (rel : Option Release) (l : List Chan) (s : State) :
    (l.foldl (fun s c => s.abortChan rel c) s).faults = s.faults := by
  induction l generalizing s with
  | nil => rfl
  | cons c cs ih =>
    rw [List.foldl_cons, ih]
    unfold abortChan
    dsimp only
    repeat' split
    all_goals rfl

theorem joinAll_faults (l : List Chan) (s : State) : (s.joinAll l).faults = s.faults := by
  induction l generalizing s with
  | nil => rfl
  | cons c cs ih => rw [joinAll, ih]; simp

@[simp] theorem abortAll_faults (s : State) (rel : Option Release) : (s.abortAll rel).faults = s.faults := by
  unfold abortAll
  dsimp only
  simp only [notify_keeps, joinAll_faults, foldl_abortChan_faults]

/-- The station after an ABSENT that names it has removed its entries and aborted its starts in progress (R147). -/
def selfCleared (s : State) : State :=
  let u := s.dropOwner s.own false
  if u.live && !u.startsInProgress.isEmpty then u.abortAll none else u

/-- An ABSENT naming this station clears it, is recorded, and leads to SYNCING outside LISTEN (R147). -/
theorem selfAbsent_eq (s : State) (a : Addr) :
    s.selfAbsent a =
      let u := s.selfCleared.log .absentSelf none none (some a)
      if u.member.state.joinedUp then u.enterSyncing .self else u := rfl

@[simp] theorem selfCleared_faults (s : State) : s.selfCleared.faults = s.faults := by
  unfold selfCleared
  dsimp only
  split <;> simp

theorem faultsGrow_selfAbsent (s : State) (a : Addr) : s.faultsGrow (s.selfAbsent a) := by
  have hlog := (faultsGrow_log s.selfCleared .absentSelf none none (some a)).after (s := s) (by simp)
  rw [selfAbsent_eq]
  dsimp only
  split
  · exact hlog.keep (by simp)
  · exact hlog

theorem faultsGrow_peerAbsent (s : State) (a : Addr) : s.faultsGrow (s.peerAbsent a) := by
  have h := (faultsGrow_judgeDiscord ((s.dropOwner a false).modPeer a absentSlot) a).trans (faultsGrow_judgeExit _)
  unfold peerAbsent
  dsimp only
  split
  · exact faultsGrow_of_eq rfl
  · split
    · exact (h.after (by simp)).keep rfl
    · exact h.after (by simp)

theorem faultsGrow_applyAbsent (a target : Addr) (own : Option TxFrame) (s : State) :
    s.faultsGrow (applyAbsent a target own s) := by
  unfold applyAbsent
  split
  · exact faultsGrow_of_eq rfl
  · split
    · exact faultsGrow_selfAbsent s a
    · exact faultsGrow_peerAbsent s target

theorem foldl_shedChannel_faults (l : List Chan) (s : State) :
    (l.foldl (fun s c => s.shedChannel c) s).faults = s.faults := by
  induction l generalizing s with
  | nil => rfl
  | cons c cs ih => rw [List.foldl_cons, ih]; simp

@[simp] theorem callAnswered_faults (s : State) (t : TxFrame) : (s.callAnswered t).faults = s.faults := by
  unfold callAnswered
  split <;> rfl

@[simp] theorem ownSettled_faults (s : State) (c : Chan) : (s.ownSettled c).faults = s.faults := by
  unfold ownSettled
  repeat' split
  all_goals simp

@[simp] theorem ownRenewed_faults (s : State) (c : Chan) (n : Fin 16) (b : Bool) :
    (s.ownRenewed c n b).faults = s.faults := by
  cases b <;> rfl

theorem applyShedCall_faults (a : Addr) (p : ShedCallPayload) (own : Option TxFrame) (s : State) :
    (applyShedCall a p own s).faults = s.faults := by
  unfold applyShedCall
  dsimp only
  generalize hu : (if own.isSome then s.endCall p.callSeq else s) = u
  have huf : u.faults = s.faults := by
    rw [← hu]
    split <;> rfl
  split
  · exact huf
  · cases own
    all_goals
      dsimp only
      try rw [callAnswered_faults]
      split
      all_goals
        split <;> simp [foldl_shedChannel_faults, huf]

end State

end Sys2Proof.Machine
end

section
/-!
Fault records of every command (R178, R179), and the statement that they are numbered.
-/

namespace Sys2Proof.Machine

open Sys2Proof

namespace State

/-! ## Bus events and loading -/

theorem faultsGrow_renewVoided (s : State) (c : Chan) : s.faultsGrow (s.renewVoided c) := by
  unfold renewVoided
  dsimp only
  split
  · exact (faultsGrow_log _ _ _ _ _).after rfl
  · exact faultsGrow_of_eq rfl

theorem faultsGrow_shedCallVoided (s : State) (q : Seq) : s.faultsGrow (s.shedCallVoided q) := by
  unfold shedCallVoided
  split
  · split
    · split
      · exact (faultsGrow_log _ _ _ _ _).after rfl
      · exact faultsGrow_of_eq rfl
    · exact faultsGrow_of_eq rfl
  · exact faultsGrow_of_eq rfl

theorem faultsGrow_syncReqVoided (s : State) (a : Addr) : s.faultsGrow (s.syncReqVoided a) := by
  unfold syncReqVoided
  split
  · split
    · exact (faultsGrow_log _ _ _ _ _).after rfl
    · exact faultsGrow_of_eq rfl
  · split
    · split
      · exact (faultsGrow_log _ _ _ _ _).after (by simp)
      · exact faultsGrow_of_eq (by simp)
    · exact faultsGrow_of_eq rfl

theorem faultsGrow_helloVoided (s : State) : s.faultsGrow s.helloVoided := by
  unfold helloVoided
  dsimp only
  split
  · exact (faultsGrow_log _ _ _ _ _).after rfl
  · exact faultsGrow_of_eq rfl

@[simp] theorem answerVoided_faults (s : State) : s.answerVoided.faults = s.faults := by
  unfold answerVoided
  repeat' split
  all_goals rfl

@[simp] theorem releaseVoided_faults (s : State) (c : Chan) : (s.releaseVoided c).faults = s.faults := rfl

theorem faultsGrow_ownVoided (s : State) (t : TxFrame) : s.faultsGrow (s.ownVoided t) := by
  unfold ownVoided
  dsimp only
  generalize hu : s.clearTx.tally _ = u
  have huf : u.faults = s.faults := by rw [← hu]; rfl
  refine faultsGrow.after (t := u) ?_ huf
  split
  · split
    · exact faultsGrow_claimVoided ..
    · exact faultsGrow_of_eq rfl
  · split
    · exact faultsGrow_renewVoided ..
    · exact faultsGrow_of_eq rfl
  · split <;> exact faultsGrow_of_eq (by simp)
  · exact faultsGrow_of_eq rfl
  · exact faultsGrow_of_eq rfl
  · exact faultsGrow_shedCallVoided ..
  · exact faultsGrow_syncReqVoided ..
  · exact faultsGrow_helloVoided u
  · exact faultsGrow_of_eq rfl
  · exact faultsGrow_of_eq (by simp)
  all_goals exact faultsGrow_of_eq rfl

/-- What a break seen leaves as it was. -/
@[simp] theorem seeBreak_keeps (s : State) :
    s.seeBreak.pending = s.pending ∧ s.seeBreak.pins = s.pins ∧ s.seeBreak.power = s.power
      ∧ s.seeBreak.retention = s.retention ∧ s.seeBreak.history = s.history ∧ s.seeBreak.starts = s.starts
      ∧ s.seeBreak.draws = s.draws ∧ s.seeBreak.inh = s.inh ∧ s.seeBreak.engine = s.engine
      ∧ s.seeBreak.member = s.member ∧ s.seeBreak.loader = s.loader ∧ s.seeBreak.faults = s.faults
      ∧ s.seeBreak.answer = s.answer ∧ s.seeBreak.freeCount = s.freeCount ∧ s.seeBreak.notice = s.notice := by
  unfold seeBreak
  dsimp only
  repeat' split
  all_goals simp

theorem faultsGrow_debounced (s : State) (c : Chan) : s.faultsGrow (s.debounced c) := by
  unfold debounced
  dsimp only
  split
  · exact faultsGrow_of_eq rfl
  · exact (faultsGrow_writeLatch _ _ _).after rfl

theorem faultsGrow_senseAwait (s : State) (c : Chan) (b : Bool) : s.faultsGrow (s.senseAwait c b) := by
  unfold senseAwait
  split
  · split
    · split
      · split
        · exact faultsGrow_stepCompletes _ _
        · exact faultsGrow_of_eq rfl
      · exact faultsGrow_of_eq rfl
    · exact faultsGrow_of_eq rfl
  · exact faultsGrow_of_eq rfl

/-- What sense supervision leaves as it was. -/
@[simp] theorem senseWatch_keeps (s : State) (c : Chan) (b : Bool) :
    (s.senseWatch c b).pending = s.pending ∧ (s.senseWatch c b).pins = s.pins ∧ (s.senseWatch c b).power = s.power
      ∧ (s.senseWatch c b).retention = s.retention ∧ (s.senseWatch c b).history = s.history
      ∧ (s.senseWatch c b).starts = s.starts ∧ (s.senseWatch c b).draws = s.draws
      ∧ (s.senseWatch c b).queue = s.queue ∧ (s.senseWatch c b).inh = s.inh ∧ (s.senseWatch c b).engine = s.engine
      ∧ (s.senseWatch c b).member = s.member ∧ (s.senseWatch c b).bus = s.bus ∧ (s.senseWatch c b).loader = s.loader
      ∧ (s.senseWatch c b).faults = s.faults ∧ (s.senseWatch c b).answer = s.answer
      ∧ (s.senseWatch c b).indicators = s.indicators ∧ (s.senseWatch c b).notice = s.notice
      ∧ (s.senseWatch c b).freeCount = s.freeCount := by
  unfold senseWatch
  split <;> simp

/-- What the debouncer leaves as it was. -/
@[simp] theorem debounce_keeps (s : State) (c : Chan) (b : Bool) :
    (s.debounce c b).pending = s.pending ∧ (s.debounce c b).pins = s.pins ∧ (s.debounce c b).power = s.power
      ∧ (s.debounce c b).retention = s.retention ∧ (s.debounce c b).history = s.history
      ∧ (s.debounce c b).starts = s.starts ∧ (s.debounce c b).draws = s.draws
      ∧ (s.debounce c b).queue = s.queue ∧ (s.debounce c b).inh = s.inh ∧ (s.debounce c b).engine = s.engine
      ∧ (s.debounce c b).member = s.member ∧ (s.debounce c b).bus = s.bus ∧ (s.debounce c b).loader = s.loader
      ∧ (s.debounce c b).faults = s.faults ∧ (s.debounce c b).answer = s.answer
      ∧ (s.debounce c b).indicators = s.indicators ∧ (s.debounce c b).notice = s.notice
      ∧ (s.debounce c b).freeCount = s.freeCount := by
  unfold debounce
  split <;> simp

theorem faultsGrow_senseLost (s : State) (c : Chan) : s.faultsGrow (s.senseLost c) :=
  (faultsGrow_log _ _ _ _ _).after (by simp)

theorem foldl_withdrawIdleClaim_faults (l : List Chan) (s : State) :
    (l.foldl (fun s c => s.withdrawIdleClaim c) s).faults = s.faults := by
  induction l generalizing s with
  | nil => rfl
  | cons c cs ih =>
    rw [List.foldl_cons, ih]
    unfold withdrawIdleClaim
    split <;> rfl

@[simp] theorem inhibit_faults (s : State) : s.inhibit.faults = s.faults := by
  unfold inhibit
  dsimp only
  split
  · rw [foldl_withdrawIdleClaim_faults]
  · rw [abortAll_faults, foldl_withdrawIdleClaim_faults]

theorem faultsGrow_shedWaitEnds (s : State) (c : Chan) : s.faultsGrow (s.shedWaitEnds c) := by
  unfold shedWaitEnds
  dsimp only
  split
  · exact (faultsGrow_log _ _ _ _ _).after rfl
  · exact faultsGrow_of_eq rfl

@[simp] theorem holdLow_faults (s : State) (c : Chan) : (s.holdLow c).faults = s.faults := by
  unfold holdLow
  split <;> rfl

theorem faultsGrow_windowEnds (s : State) : s.faultsGrow s.windowEnds := by
  unfold windowEnds
  split
  · exact faultsGrow_of_eq (by simp)
  · exact faultsGrow_enterInStep s

theorem faultsGrow_syncEnds (s : State) : s.faultsGrow s.syncEnds := by
  unfold syncEnds
  split
  · exact (faultsGrow_enterInStep _).after rfl
  · exact (faultsGrow_enterInStep _).after rfl

theorem faultsGrow_haltLoading (s : State) (r : LoadResult) : s.faultsGrow (s.haltLoading r) :=
  have hlog := faultsGrow_log { s with loader.result := r } .configBad none none none
  (hlog.after (s := s) rfl).keep rfl

theorem faultsGrow_failAttempt (s : State) : s.faultsGrow s.failAttempt := by
  unfold failAttempt
  dsimp only
  split
  · exact (faultsGrow_haltLoading _ _).after rfl
  · exact faultsGrow_of_eq rfl

theorem faultsGrow_readHeader (s : State) (n : Fin 10) (a b : Byte) : s.faultsGrow (s.readHeader n a b) := by
  unfold readHeader
  dsimp only
  split
  · exact faultsGrow_of_eq rfl
  · exact (faultsGrow_failAttempt _).after rfl

/-! The stages of the end of loading (R62, R171-R173): the image is held, invalid records are recorded, the channel records
are loaded, latched channels join. -/

/-- The accepted image is held (R165, R171). -/
def imageHeld (s : State) (bytes : List Byte) : State :=
  { s with loader :=
      { s.loader with
        image := some (readImage bytes), digest := some (groupDigest bytes), result := .running, bytes := [],
        phase := .idle } }

/-- The invalid channel records are recorded, in channel order (R172). -/
def invalidLogged (s : State) : State := allChans.foldl (fun s c => s.logInvalid c) s

/-- The channel records and the count of marks at the end of loading (R62, R63, R126). -/
def channelsLoaded (s : State) : State :=
  let s := { s with channels := s.channels.mapChan s.loadedChannel }
  { s with history.marks := s.countMarks }

/-- The latched channels join the queue, in channel order (R62). -/
def latchedJoined (s : State) : State := allChans.foldl (fun s c => s.joinLatched c) s

/-- The filtered INH takes the level of its pin (R80). -/
def inhLoaded (s : State) : State := { s with inh := { asserted := s.pins.inh, timer := none } }

theorem endLoading_eq (s : State) (bytes : List Byte) :
    s.endLoading bytes = (s.imageHeld bytes).invalidLogged.channelsLoaded.latchedJoined.inhLoaded.enterListen := rfl

theorem faultsGrow_foldl_logInvalid (l : List Chan) (s : State) :
    s.faultsGrow (l.foldl (fun s c => s.logInvalid c) s) := by
  induction l generalizing s with
  | nil => exact faultsGrow_of_eq rfl
  | cons c cs ih =>
    refine faultsGrow.trans (t := s.logInvalid c) ?_ (ih _)
    unfold logInvalid
    split
    · exact faultsGrow_log _ _ _ _ _
    · exact faultsGrow_of_eq rfl
    · exact faultsGrow_of_eq rfl

theorem foldl_joinLatched_faults (l : List Chan) (s : State) :
    (l.foldl (fun s c => s.joinLatched c) s).faults = s.faults := by
  induction l generalizing s with
  | nil => rfl
  | cons c cs ih =>
    rw [List.foldl_cons, ih]
    unfold joinLatched
    split <;> simp

@[simp] theorem latchedJoined_faults (s : State) : s.latchedJoined.faults = s.faults := foldl_joinLatched_faults _ _

@[simp] theorem enterListen_faults (s : State) : s.enterListen.faults = s.faults := by simp [enterListen]

theorem faultsGrow_endLoading (s : State) (bytes : List Byte) : s.faultsGrow (s.endLoading bytes) := by
  have hlogged : s.faultsGrow (s.imageHeld bytes).invalidLogged := (faultsGrow_foldl_logInvalid allChans _).after rfl
  have hloaded : s.faultsGrow (s.imageHeld bytes).invalidLogged.channelsLoaded := hlogged.keep rfl
  rw [endLoading_eq]
  exact ((hloaded.keep (latchedJoined_faults _)).keep (u := inhLoaded _) rfl).keep (enterListen_faults _)

theorem faultsGrow_judgeImage (s : State) (bytes : List Byte) : s.faultsGrow (s.judgeImage bytes) := by
  unfold judgeImage
  split
  · split
    · exact faultsGrow_endLoading s bytes
    · exact faultsGrow_haltLoading _ _
  · exact faultsGrow_failAttempt s

/-! ## Every command -/

theorem faultsGrow.finish {s u : State} (h : s.faultsGrow u) : s.faultsGrow u.finish := h.keep (by simp)

theorem faultsGrow_driveFail (s : State) (ops : List LinkOp) : s.faultsGrow (s.drive ops).failAttempt :=
  (faultsGrow_failAttempt _).after rfl

/-- A command that ends its step where a guard holds, and else leaves the state. -/
theorem faultsGrow_ite {s u : State} {p : Prop} [Decidable p] (h : p → s.faultsGrow u) :
    s.faultsGrow (if p then u.finish else s) := by
  split
  · next hp => exact (h hp).finish
  · exact faultsGrow_of_eq rfl

end State

open State in
/-- A command that is none of supplies, reset and starts only adds fault records (R179). -/
theorem exec_faultsGrow {c : Instr} {s t : State} (h : exec c s = .next t) (hr : resets c = false) : s.faultsGrow t := by
  cases c with
  | claim rx p => cases h; exact faultsGrow_receive _ _ _ _ (faultsGrow_applyClaim _ _)
  | renew rx p =>
    cases h
    refine faultsGrow_receive _ _ _ _ fun own u => faultsGrow_of_eq ?_
    rw [applyRenew_eq]
    split <;> simp
  | settled rx p =>
    cases h
    refine faultsGrow_receive _ _ _ _ fun own u => faultsGrow_of_eq ?_
    unfold applySettled
    dsimp only
    cases own <;> dsimp only <;> repeat' split
    all_goals simp
  | abandoned rx p =>
    cases h
    refine faultsGrow_receive _ _ _ _ fun own u => faultsGrow_of_eq ?_
    unfold applyAbandoned dropNamed
    dsimp only
    cases own <;> dsimp only <;> repeat' split
    all_goals simp
  | expire rx p => cases h; exact faultsGrow_receive _ _ _ _ (faultsGrow_applyExpire _ _)
  | stopped rx p =>
    cases h
    refine faultsGrow_receive _ _ _ _ fun own u => faultsGrow_of_eq ?_
    unfold applyStopped
    dsimp only
    cases own <;> dsimp only <;> repeat' split
    all_goals simp
  | shedCall rx p => cases h; exact faultsGrow_receive _ _ _ _ fun own u => faultsGrow_of_eq (applyShedCall_faults _ _ _ _)
  | hello rx p => cases h; exact faultsGrow_receive _ _ _ _ (faultsGrow_applyHello _ _)
  | presence rx p => cases h; exact faultsGrow_receive _ _ _ _ (faultsGrow_applyPresence _ _)
  | syncReq rx a => cases h; exact faultsGrow_receive _ _ _ _ (faultsGrow_applySyncReq _)
  | recount rx p => cases h; exact faultsGrow_receive _ _ _ _ (faultsGrow_applyRecount _ _)
  | recountEnd rx n => cases h; exact faultsGrow_receive _ _ _ _ (faultsGrow_applyRecountEnd _ _)
  | absent rx a => cases h; exact faultsGrow_receive _ _ _ _ (faultsGrow_applyAbsent _ _)
  | inquire rx p =>
    cases h
    refine faultsGrow_receive _ _ _ _ fun own u => faultsGrow_of_eq ?_
    unfold applyInquire
    dsimp only
    repeat' split
    all_goals simp
  | answer rx p =>
    cases h
    refine faultsGrow_receive _ _ _ _ fun own u => faultsGrow_of_eq ?_
    cases own <;> rfl
  | toolFrameReject f => cases h; exact faultsGrow_receive _ _ _ _ fun own u => faultsGrow_of_eq rfl
  | frameVoided raw =>
    cases h
    split
    · split
      · exact ((faultsGrow_ownVoided _ _).keep (u := State.frameEnds _) rfl).finish
      · exact faultsGrow_of_eq (by simp)
    · exact faultsGrow_of_eq (by simp)
  | arbitrationLost =>
    cases h
    split
    · exact faultsGrow_ite fun _ => faultsGrow_of_eq (by simp)
    · exact faultsGrow_of_eq rfl
  | addressClash => cases h; exact faultsGrow_ite fun _ => faultsGrow_meetClash s
  | frameIncomplete => cases h; split <;> exact faultsGrow_of_eq (by simp)
  | frameBreak => cases h; exact faultsGrow_of_eq (by simp)
  | busFree => cases h; split <;> exact faultsGrow_of_eq (by simp)
  | holdRunsOutAtPeer a d => cases h; exact faultsGrow_ite fun _ => faultsGrow_of_eq rfl
  | holdRunsOutAtOwner d =>
    cases h
    split
    · split
      · exact faultsGrow_ite fun _ => (faultsGrow_ownHoldOut _ _ _).after rfl
      · exact faultsGrow_of_eq rfl
    · exact faultsGrow_of_eq rfl
  | renewalNeed d => cases h; exact faultsGrow_ite fun _ => faultsGrow_of_eq (by simp)
  | reqLevelChange d b =>
    cases h
    split
    · exact faultsGrow_of_eq rfl
    · dsimp only
      split <;> exact faultsGrow_of_eq (by simp)
  | debounceTimerRunsOut d => cases h; exact faultsGrow_ite fun _ => faultsGrow_debounced s d
  | senseChange d b =>
    cases h
    split
    · exact faultsGrow_of_eq rfl
    · dsimp only
      split
      · exact ((faultsGrow_senseAwait _ _ _).after (by simp)).finish
      · exact faultsGrow_of_eq rfl
  | senseGraceRunsOut d => cases h; exact faultsGrow_ite fun _ => faultsGrow_senseLost s d
  | shedRestRunsOut d => cases h; exact faultsGrow_ite fun _ => faultsGrow_of_eq (by simp)
  | inhPinChange b =>
    cases h
    split
    · exact faultsGrow_of_eq rfl
    · dsimp only
      split <;> exact faultsGrow_of_eq (by simp)
  | inhAsserted => cases h; exact faultsGrow_ite fun _ => faultsGrow_of_eq (by simp)
  | inhReleased => cases h; exact faultsGrow_ite fun _ => faultsGrow_of_eq rfl
  | patienceTimerRunsOut d =>
    cases h
    split
    · exact faultsGrow_ite fun _ => faultsGrow_of_eq rfl
    · exact faultsGrow_of_eq rfl
  | shedWaitRunsOut d =>
    cases h
    split
    · exact faultsGrow_ite fun _ => faultsGrow_shedWaitEnds s d
    · exact faultsGrow_of_eq rfl
  | dwellTimeRunsOut d i =>
    cases h
    split
    · split
      · exact faultsGrow_ite fun _ => faultsGrow_stepCompletes s _
      · exact faultsGrow_of_eq rfl
    · exact faultsGrow_of_eq rfl
  | awaitTimeoutRunsOut d i =>
    cases h
    split
    · split
      · exact faultsGrow_ite fun _ => faultsGrow_stepFails s _
      · exact faultsGrow_of_eq rfl
    · exact faultsGrow_of_eq rfl
  | presenceTimerRunsOut => cases h; exact faultsGrow_ite fun _ => faultsGrow_of_eq rfl
  | listenWindowRunsOut => cases h; exact faultsGrow_ite fun _ => faultsGrow_windowEnds s
  | syncTimeoutRunsOut => cases h; exact faultsGrow_ite fun _ => faultsGrow_syncEnds s
  | absenceTimeReached a => cases h; exact faultsGrow_ite fun _ => faultsGrow_of_eq rfl
  | requestTimerRunsOut a => cases h; exact faultsGrow_ite fun _ => faultsGrow_of_eq rfl
  | sampleTimerRunsOut => cases h; exact faultsGrow_ite fun _ => faultsGrow_of_eq rfl
  | imageHeaderRead a b n => cases h; exact faultsGrow_ite fun _ => faultsGrow_readHeader _ _ _ _
  | imageReadComplete rest => cases h; exact faultsGrow_ite fun _ => (faultsGrow_judgeImage _ _).after rfl
  | imageAttemptFails how =>
    cases h
    split
    · split
      · exact (faultsGrow_driveFail s _).finish
      · exact (faultsGrow_driveFail s _).finish
      all_goals exact faultsGrow_of_eq rfl
    · exact faultsGrow_of_eq rfl
  | clockStretchTimeout n m bytes =>
    cases h
    split
    · split
      · exact (faultsGrow_driveFail s _).finish
      · exact (faultsGrow_driveFail s _).finish
      all_goals exact faultsGrow_of_eq rfl
    · exact faultsGrow_of_eq rfl
  | attemptRetryWaitElapsed => cases h; exact faultsGrow_ite fun _ => faultsGrow_of_eq rfl
  | powerFailWarning | vmainLost | retentionLoss | vmainRise | rstnLow | rstnRelease | start => cases hr

/-- Settles O57: every operation that records a fault puts it in front with the number the counter gives, and such growth
composes. -/
theorem faultRecordsAreNumbered : Obligations.FaultRecordsAreNumbered :=
  fun _ _ _ h hr hlaw => (exec_faultsGrow h hr).grown hlaw

end Sys2Proof.Machine
end

section
/-!
What the remaining operations leave as it was: aborts, own frames' ends, lines, timers, recounts and absences.
-/

namespace Sys2Proof.Machine

open Sys2Proof

namespace State

/-- What the first part of an abort leaves as it was. -/
@[simp] theorem abortChan_keeps (s : State) (rel : Option Release) (c : Chan) :
    (s.abortChan rel c).pending = s.pending ∧ (s.abortChan rel c).pins = s.pins ∧ (s.abortChan rel c).power = s.power
      ∧ (s.abortChan rel c).retention = s.retention ∧ (s.abortChan rel c).starts = s.starts
      ∧ (s.abortChan rel c).draws = s.draws ∧ (s.abortChan rel c).loader = s.loader
      ∧ (s.abortChan rel c).answer = s.answer ∧ (s.abortChan rel c).freeCount = s.freeCount
      ∧ (s.abortChan rel c).inh = s.inh ∧ (s.abortChan rel c).member = s.member
      ∧ (s.abortChan rel c).faults = s.faults ∧ (s.abortChan rel c).engine = s.engine
      ∧ (s.abortChan rel c).history = s.history ∧ (s.abortChan rel c).queue = s.queue
      ∧ (s.abortChan rel c).notice = s.notice := by
  unfold abortChan
  dsimp only
  repeat' split
  all_goals simp


/-- What the first part of an abort of every start leaves as it was. -/
@[simp] theorem foldl_abortChan_keeps (s : State) (rel : Option Release) (l : List Chan) :
    (l.foldl (fun s c => s.abortChan rel c) s).pending = s.pending
      ∧ (l.foldl (fun s c => s.abortChan rel c) s).pins = s.pins
      ∧ (l.foldl (fun s c => s.abortChan rel c) s).power = s.power
      ∧ (l.foldl (fun s c => s.abortChan rel c) s).retention = s.retention
      ∧ (l.foldl (fun s c => s.abortChan rel c) s).starts = s.starts
      ∧ (l.foldl (fun s c => s.abortChan rel c) s).draws = s.draws
      ∧ (l.foldl (fun s c => s.abortChan rel c) s).loader = s.loader
      ∧ (l.foldl (fun s c => s.abortChan rel c) s).answer = s.answer
      ∧ (l.foldl (fun s c => s.abortChan rel c) s).freeCount = s.freeCount
      ∧ (l.foldl (fun s c => s.abortChan rel c) s).inh = s.inh
      ∧ (l.foldl (fun s c => s.abortChan rel c) s).member = s.member
      ∧ (l.foldl (fun s c => s.abortChan rel c) s).engine = s.engine
      ∧ (l.foldl (fun s c => s.abortChan rel c) s).history = s.history
      ∧ (l.foldl (fun s c => s.abortChan rel c) s).queue = s.queue
      ∧ (l.foldl (fun s c => s.abortChan rel c) s).notice = s.notice := by
  induction l generalizing s with
  | nil => simp
  | cons c cs ih => simp [ih]


/-- What the joins of an abort of every start leave as it was. -/
@[simp] theorem joinAll_keeps (s : State) (l : List Chan) :
    (s.joinAll l).pending = s.pending ∧ (s.joinAll l).pins = s.pins ∧ (s.joinAll l).power = s.power
      ∧ (s.joinAll l).retention = s.retention ∧ (s.joinAll l).starts = s.starts ∧ (s.joinAll l).draws = s.draws
      ∧ (s.joinAll l).loader = s.loader ∧ (s.joinAll l).answer = s.answer ∧ (s.joinAll l).freeCount = s.freeCount
      ∧ (s.joinAll l).inh = s.inh ∧ (s.joinAll l).member = s.member ∧ (s.joinAll l).engine = s.engine
      ∧ (s.joinAll l).history = s.history ∧ (s.joinAll l).bus = s.bus := by
  induction l generalizing s with
  | nil => simp [joinAll]
  | cons c cs ih => simp [joinAll, ih]


/-- What an abort of every start leaves as it was. -/
@[simp] theorem abortAll_keeps (s : State) (rel : Option Release) :
    (s.abortAll rel).pending = s.pending ∧ (s.abortAll rel).pins = s.pins ∧ (s.abortAll rel).power = s.power
      ∧ (s.abortAll rel).retention = s.retention ∧ (s.abortAll rel).starts = s.starts
      ∧ (s.abortAll rel).draws = s.draws ∧ (s.abortAll rel).loader = s.loader ∧ (s.abortAll rel).answer = s.answer
      ∧ (s.abortAll rel).freeCount = s.freeCount ∧ (s.abortAll rel).inh = s.inh ∧ (s.abortAll rel).member = s.member
      ∧ (s.abortAll rel).history = s.history := by
  unfold abortAll
  simp


/-- What the placing of an admitted own claim leaves as it was. -/
@[simp] theorem startAdmitted_keeps (s : State) (c : Chan) (q : Seq) :
    (s.startAdmitted c q).pending = s.pending ∧ (s.startAdmitted c q).pins = s.pins
      ∧ (s.startAdmitted c q).power = s.power ∧ (s.startAdmitted c q).retention = s.retention
      ∧ (s.startAdmitted c q).starts = s.starts ∧ (s.startAdmitted c q).draws = s.draws
      ∧ (s.startAdmitted c q).loader = s.loader ∧ (s.startAdmitted c q).answer = s.answer
      ∧ (s.startAdmitted c q).freeCount = s.freeCount ∧ (s.startAdmitted c q).inh = s.inh
      ∧ (s.startAdmitted c q).member = s.member := by
  unfold startAdmitted
  dsimp only
  repeat' split
  all_goals simp


/-- What the verdict at the claimant leaves as it was. -/
@[simp] theorem claimVerdict_keeps (s : State) (t : TxFrame) (p : ClaimPayload) (v : Judgement) :
    (s.claimVerdict t p v).pending = s.pending ∧ (s.claimVerdict t p v).pins = s.pins
      ∧ (s.claimVerdict t p v).power = s.power ∧ (s.claimVerdict t p v).retention = s.retention
      ∧ (s.claimVerdict t p v).starts = s.starts ∧ (s.claimVerdict t p v).draws = s.draws
      ∧ (s.claimVerdict t p v).loader = s.loader ∧ (s.claimVerdict t p v).answer = s.answer
      ∧ (s.claimVerdict t p v).freeCount = s.freeCount ∧ (s.claimVerdict t p v).inh = s.inh
      ∧ (s.claimVerdict t p v).member = s.member := by
  unfold claimVerdict
  dsimp only
  repeat' split
  all_goals simp


/-- What the channel's part of an own RENEW leaves as it was. -/
@[simp] theorem ownRenewed_keeps (s : State) (c : Chan) (n : Fin 16) (b : Bool) :
    (s.ownRenewed c n b).pending = s.pending ∧ (s.ownRenewed c n b).pins = s.pins
      ∧ (s.ownRenewed c n b).power = s.power ∧ (s.ownRenewed c n b).retention = s.retention
      ∧ (s.ownRenewed c n b).starts = s.starts ∧ (s.ownRenewed c n b).draws = s.draws
      ∧ (s.ownRenewed c n b).loader = s.loader ∧ (s.ownRenewed c n b).answer = s.answer
      ∧ (s.ownRenewed c n b).freeCount = s.freeCount ∧ (s.ownRenewed c n b).inh = s.inh
      ∧ (s.ownRenewed c n b).member = s.member ∧ (s.ownRenewed c n b).history = s.history
      ∧ (s.ownRenewed c n b).queue = s.queue ∧ (s.ownRenewed c n b).bus = s.bus
      ∧ (s.ownRenewed c n b).notice = s.notice := by
  unfold ownRenewed
  dsimp only
  repeat' split
  all_goals simp


/-- What an own SETTLED accepted leaves as it was. -/
@[simp] theorem ownSettled_keeps (s : State) (c : Chan) :
    (s.ownSettled c).pending = s.pending ∧ (s.ownSettled c).pins = s.pins ∧ (s.ownSettled c).power = s.power
      ∧ (s.ownSettled c).retention = s.retention ∧ (s.ownSettled c).starts = s.starts
      ∧ (s.ownSettled c).draws = s.draws ∧ (s.ownSettled c).loader = s.loader ∧ (s.ownSettled c).answer = s.answer
      ∧ (s.ownSettled c).freeCount = s.freeCount ∧ (s.ownSettled c).inh = s.inh ∧ (s.ownSettled c).member = s.member
      ∧ (s.ownSettled c).engine = s.engine := by
  unfold ownSettled
  repeat' split
  all_goals simp


/-- What the removal of a named entry leaves as it was. -/
@[simp] theorem dropNamed_keeps (s : State) (a : Addr) (c : Chan) (q : Seq) :
    (s.dropNamed a c q).pending = s.pending ∧ (s.dropNamed a c q).pins = s.pins ∧ (s.dropNamed a c q).power = s.power
      ∧ (s.dropNamed a c q).retention = s.retention ∧ (s.dropNamed a c q).draws = s.draws
      ∧ (s.dropNamed a c q).loader = s.loader ∧ (s.dropNamed a c q).answer = s.answer
      ∧ (s.dropNamed a c q).freeCount = s.freeCount ∧ (s.dropNamed a c q).inh = s.inh
      ∧ (s.dropNamed a c q).member = s.member ∧ (s.dropNamed a c q).engine = s.engine
      ∧ (s.dropNamed a c q).history = s.history ∧ (s.dropNamed a c q).queue = s.queue
      ∧ (s.dropNamed a c q).channels = s.channels ∧ (s.dropNamed a c q).bus = s.bus
      ∧ (s.dropNamed a c q).faults = s.faults := by
  unfold dropNamed
  repeat' split
  all_goals simp


/-- What the expiry of a settling entry leaves as it was. -/
@[simp] theorem settleExpired_keeps (s : State) (c : Chan) (a : Addr) :
    (s.settleExpired c a).pending = s.pending ∧ (s.settleExpired c a).pins = s.pins
      ∧ (s.settleExpired c a).power = s.power ∧ (s.settleExpired c a).retention = s.retention
      ∧ (s.settleExpired c a).starts = s.starts ∧ (s.settleExpired c a).draws = s.draws
      ∧ (s.settleExpired c a).loader = s.loader ∧ (s.settleExpired c a).answer = s.answer
      ∧ (s.settleExpired c a).freeCount = s.freeCount ∧ (s.settleExpired c a).inh = s.inh
      ∧ (s.settleExpired c a).member = s.member ∧ (s.settleExpired c a).engine = s.engine
      ∧ (s.settleExpired c a).history = s.history := by
  unfold settleExpired
  dsimp only
  simp


/-- What the expiry of an own entry leaves as it was. -/
@[simp] theorem ownEntryExpired_keeps (s : State) (c : Chan) (q : Seq) (a : Addr) :
    (s.ownEntryExpired c q a).pending = s.pending ∧ (s.ownEntryExpired c q a).pins = s.pins
      ∧ (s.ownEntryExpired c q a).power = s.power ∧ (s.ownEntryExpired c q a).retention = s.retention
      ∧ (s.ownEntryExpired c q a).starts = s.starts ∧ (s.ownEntryExpired c q a).draws = s.draws
      ∧ (s.ownEntryExpired c q a).loader = s.loader ∧ (s.ownEntryExpired c q a).answer = s.answer
      ∧ (s.ownEntryExpired c q a).freeCount = s.freeCount ∧ (s.ownEntryExpired c q a).inh = s.inh
      ∧ (s.ownEntryExpired c q a).member = s.member := by
  unfold ownEntryExpired
  repeat' split
  all_goals simp


/-- What a voided own RENEW leaves as it was. -/
@[simp] theorem renewVoided_keeps (s : State) (c : Chan) :
    (s.renewVoided c).pending = s.pending ∧ (s.renewVoided c).pins = s.pins ∧ (s.renewVoided c).power = s.power
      ∧ (s.renewVoided c).retention = s.retention ∧ (s.renewVoided c).starts = s.starts
      ∧ (s.renewVoided c).draws = s.draws ∧ (s.renewVoided c).loader = s.loader ∧ (s.renewVoided c).answer = s.answer
      ∧ (s.renewVoided c).freeCount = s.freeCount ∧ (s.renewVoided c).inh = s.inh
      ∧ (s.renewVoided c).member = s.member ∧ (s.renewVoided c).history = s.history
      ∧ (s.renewVoided c).queue = s.queue ∧ (s.renewVoided c).channels = s.channels ∧ (s.renewVoided c).bus = s.bus
      ∧ (s.renewVoided c).notice = s.notice := by
  unfold renewVoided
  dsimp only
  repeat' split
  all_goals simp


/-- What a voided own release leaves as it was. -/
@[simp] theorem releaseVoided_keeps (s : State) (c : Chan) :
    (s.releaseVoided c).pending = s.pending ∧ (s.releaseVoided c).pins = s.pins ∧ (s.releaseVoided c).power = s.power
      ∧ (s.releaseVoided c).retention = s.retention ∧ (s.releaseVoided c).starts = s.starts
      ∧ (s.releaseVoided c).draws = s.draws ∧ (s.releaseVoided c).loader = s.loader
      ∧ (s.releaseVoided c).answer = s.answer ∧ (s.releaseVoided c).freeCount = s.freeCount
      ∧ (s.releaseVoided c).inh = s.inh ∧ (s.releaseVoided c).member = s.member
      ∧ (s.releaseVoided c).history = s.history ∧ (s.releaseVoided c).queue = s.queue
      ∧ (s.releaseVoided c).channels = s.channels ∧ (s.releaseVoided c).engine = s.engine
      ∧ (s.releaseVoided c).notice = s.notice := by
  simp [releaseVoided]


/-- What a voided own SHED_CALL leaves as it was. -/
@[simp] theorem shedCallVoided_keeps (s : State) (q : Seq) :
    (s.shedCallVoided q).pending = s.pending ∧ (s.shedCallVoided q).pins = s.pins
      ∧ (s.shedCallVoided q).power = s.power ∧ (s.shedCallVoided q).retention = s.retention
      ∧ (s.shedCallVoided q).starts = s.starts ∧ (s.shedCallVoided q).draws = s.draws
      ∧ (s.shedCallVoided q).loader = s.loader ∧ (s.shedCallVoided q).answer = s.answer
      ∧ (s.shedCallVoided q).freeCount = s.freeCount ∧ (s.shedCallVoided q).inh = s.inh
      ∧ (s.shedCallVoided q).member = s.member ∧ (s.shedCallVoided q).history = s.history
      ∧ (s.shedCallVoided q).channels = s.channels ∧ (s.shedCallVoided q).engine = s.engine
      ∧ (s.shedCallVoided q).bus = s.bus ∧ (s.shedCallVoided q).notice = s.notice := by
  unfold shedCallVoided
  dsimp only
  repeat' split
  all_goals simp


/-- What a voided own SYNC_REQ leaves as it was. -/
@[simp] theorem syncReqVoided_keeps (s : State) (a : Addr) :
    (s.syncReqVoided a).pending = s.pending ∧ (s.syncReqVoided a).pins = s.pins ∧ (s.syncReqVoided a).power = s.power
      ∧ (s.syncReqVoided a).retention = s.retention ∧ (s.syncReqVoided a).starts = s.starts
      ∧ (s.syncReqVoided a).draws = s.draws ∧ (s.syncReqVoided a).loader = s.loader
      ∧ (s.syncReqVoided a).answer = s.answer ∧ (s.syncReqVoided a).freeCount = s.freeCount
      ∧ (s.syncReqVoided a).inh = s.inh ∧ (s.syncReqVoided a).history = s.history
      ∧ (s.syncReqVoided a).queue = s.queue ∧ (s.syncReqVoided a).channels = s.channels
      ∧ (s.syncReqVoided a).engine = s.engine ∧ (s.syncReqVoided a).bus = s.bus
      ∧ (s.syncReqVoided a).notice = s.notice := by
  unfold syncReqVoided
  dsimp only
  repeat' split
  all_goals simp


/-- What a voided own HELLO leaves as it was. -/
@[simp] theorem helloVoided_keeps (s : State) :
    (s.helloVoided).pending = s.pending ∧ (s.helloVoided).pins = s.pins ∧ (s.helloVoided).power = s.power
      ∧ (s.helloVoided).retention = s.retention ∧ (s.helloVoided).starts = s.starts ∧ (s.helloVoided).draws = s.draws
      ∧ (s.helloVoided).loader = s.loader ∧ (s.helloVoided).answer = s.answer
      ∧ (s.helloVoided).freeCount = s.freeCount ∧ (s.helloVoided).inh = s.inh ∧ (s.helloVoided).history = s.history
      ∧ (s.helloVoided).queue = s.queue ∧ (s.helloVoided).channels = s.channels ∧ (s.helloVoided).engine = s.engine
      ∧ (s.helloVoided).bus = s.bus ∧ (s.helloVoided).notice = s.notice := by
  unfold helloVoided
  dsimp only
  repeat' split
  all_goals simp


/-- What a voided own ANSWER leaves as it was. -/
@[simp] theorem answerVoided_keeps (s : State) :
    (s.answerVoided).pending = s.pending ∧ (s.answerVoided).pins = s.pins ∧ (s.answerVoided).power = s.power
      ∧ (s.answerVoided).retention = s.retention ∧ (s.answerVoided).starts = s.starts
      ∧ (s.answerVoided).draws = s.draws ∧ (s.answerVoided).loader = s.loader
      ∧ (s.answerVoided).freeCount = s.freeCount ∧ (s.answerVoided).inh = s.inh ∧ (s.answerVoided).member = s.member
      ∧ (s.answerVoided).history = s.history ∧ (s.answerVoided).queue = s.queue
      ∧ (s.answerVoided).channels = s.channels ∧ (s.answerVoided).engine = s.engine ∧ (s.answerVoided).bus = s.bus
      ∧ (s.answerVoided).notice = s.notice := by
  unfold answerVoided
  repeat' split
  all_goals simp


/-- What a voided own frame leaves as it was. -/
@[simp] theorem ownVoided_keeps (s : State) (t : TxFrame) :
    (s.ownVoided t).pending = s.pending ∧ (s.ownVoided t).pins = s.pins ∧ (s.ownVoided t).power = s.power
      ∧ (s.ownVoided t).retention = s.retention ∧ (s.ownVoided t).starts = s.starts ∧ (s.ownVoided t).draws = s.draws
      ∧ (s.ownVoided t).loader = s.loader ∧ (s.ownVoided t).freeCount = s.freeCount ∧ (s.ownVoided t).inh = s.inh := by
  unfold ownVoided
  dsimp only
  repeat' split
  all_goals simp


/-- What the own frame's loss of the line leaves as it was. -/
@[simp] theorem yieldsLine_keeps (s : State) :
    (s.yieldsLine).pending = s.pending ∧ (s.yieldsLine).pins = s.pins ∧ (s.yieldsLine).power = s.power
      ∧ (s.yieldsLine).retention = s.retention ∧ (s.yieldsLine).starts = s.starts ∧ (s.yieldsLine).draws = s.draws
      ∧ (s.yieldsLine).loader = s.loader ∧ (s.yieldsLine).answer = s.answer ∧ (s.yieldsLine).freeCount = s.freeCount
      ∧ (s.yieldsLine).inh = s.inh ∧ (s.yieldsLine).member = s.member ∧ (s.yieldsLine).engine = s.engine
      ∧ (s.yieldsLine).history = s.history := by
  unfold yieldsLine
  repeat' split
  all_goals simp


/-- What the acceptance of the own SHED_CALL leaves as it was. -/
@[simp] theorem callAnswered_keeps (s : State) (t : TxFrame) :
    (s.callAnswered t).pending = s.pending ∧ (s.callAnswered t).pins = s.pins ∧ (s.callAnswered t).power = s.power
      ∧ (s.callAnswered t).retention = s.retention ∧ (s.callAnswered t).starts = s.starts
      ∧ (s.callAnswered t).draws = s.draws ∧ (s.callAnswered t).loader = s.loader
      ∧ (s.callAnswered t).answer = s.answer ∧ (s.callAnswered t).freeCount = s.freeCount
      ∧ (s.callAnswered t).inh = s.inh ∧ (s.callAnswered t).member = s.member ∧ (s.callAnswered t).engine = s.engine
      ∧ (s.callAnswered t).history = s.history ∧ (s.callAnswered t).channels = s.channels
      ∧ (s.callAnswered t).bus = s.bus ∧ (s.callAnswered t).notice = s.notice := by
  unfold callAnswered
  repeat' split
  all_goals simp


/-- What the end of an outstanding call leaves as it was. -/
@[simp] theorem endCall_keeps (s : State) (q : Seq) :
    (s.endCall q).pending = s.pending ∧ (s.endCall q).pins = s.pins ∧ (s.endCall q).power = s.power
      ∧ (s.endCall q).retention = s.retention ∧ (s.endCall q).starts = s.starts ∧ (s.endCall q).draws = s.draws
      ∧ (s.endCall q).loader = s.loader ∧ (s.endCall q).answer = s.answer ∧ (s.endCall q).freeCount = s.freeCount
      ∧ (s.endCall q).inh = s.inh ∧ (s.endCall q).member = s.member ∧ (s.endCall q).engine = s.engine
      ∧ (s.endCall q).history = s.history ∧ (s.endCall q).channels = s.channels ∧ (s.endCall q).bus = s.bus
      ∧ (s.endCall q).faults = s.faults ∧ (s.endCall q).notice = s.notice := by
  simp [endCall]


/-- What the shedding of channels leaves as it was. -/
@[simp] theorem foldl_shedChannel_keeps (s : State) (l : List Chan) :
    (l.foldl (fun s c => s.shedChannel c) s).pending = s.pending
      ∧ (l.foldl (fun s c => s.shedChannel c) s).pins = s.pins
      ∧ (l.foldl (fun s c => s.shedChannel c) s).power = s.power
      ∧ (l.foldl (fun s c => s.shedChannel c) s).retention = s.retention
      ∧ (l.foldl (fun s c => s.shedChannel c) s).starts = s.starts
      ∧ (l.foldl (fun s c => s.shedChannel c) s).draws = s.draws
      ∧ (l.foldl (fun s c => s.shedChannel c) s).loader = s.loader
      ∧ (l.foldl (fun s c => s.shedChannel c) s).answer = s.answer
      ∧ (l.foldl (fun s c => s.shedChannel c) s).freeCount = s.freeCount
      ∧ (l.foldl (fun s c => s.shedChannel c) s).inh = s.inh
      ∧ (l.foldl (fun s c => s.shedChannel c) s).member = s.member
      ∧ (l.foldl (fun s c => s.shedChannel c) s).engine = s.engine
      ∧ (l.foldl (fun s c => s.shedChannel c) s).history = s.history := by
  induction l generalizing s with
  | nil => simp
  | cons c cs ih => simp [ih]


/-- What the debounced request leaves as it was. -/
@[simp] theorem debounced_keeps (s : State) (c : Chan) :
    (s.debounced c).pending = s.pending ∧ (s.debounced c).pins = s.pins ∧ (s.debounced c).power = s.power
      ∧ (s.debounced c).retention = s.retention ∧ (s.debounced c).starts = s.starts ∧ (s.debounced c).draws = s.draws
      ∧ (s.debounced c).loader = s.loader ∧ (s.debounced c).answer = s.answer
      ∧ (s.debounced c).freeCount = s.freeCount ∧ (s.debounced c).inh = s.inh ∧ (s.debounced c).member = s.member := by
  unfold debounced
  dsimp only
  repeat' split
  all_goals simp


/-- What a running AWAIT that sees its level leaves as it was. -/
@[simp] theorem senseAwait_keeps (s : State) (c : Chan) (b : Bool) :
    (s.senseAwait c b).pending = s.pending ∧ (s.senseAwait c b).pins = s.pins ∧ (s.senseAwait c b).power = s.power
      ∧ (s.senseAwait c b).retention = s.retention ∧ (s.senseAwait c b).starts = s.starts
      ∧ (s.senseAwait c b).draws = s.draws ∧ (s.senseAwait c b).loader = s.loader
      ∧ (s.senseAwait c b).answer = s.answer ∧ (s.senseAwait c b).freeCount = s.freeCount
      ∧ (s.senseAwait c b).inh = s.inh ∧ (s.senseAwait c b).member = s.member := by
  unfold senseAwait
  repeat' split
  all_goals simp


/-- What a lost sense leaves as it was. -/
@[simp] theorem senseLost_keeps (s : State) (c : Chan) :
    (s.senseLost c).pending = s.pending ∧ (s.senseLost c).pins = s.pins ∧ (s.senseLost c).power = s.power
      ∧ (s.senseLost c).retention = s.retention ∧ (s.senseLost c).starts = s.starts ∧ (s.senseLost c).draws = s.draws
      ∧ (s.senseLost c).loader = s.loader ∧ (s.senseLost c).answer = s.answer
      ∧ (s.senseLost c).freeCount = s.freeCount ∧ (s.senseLost c).inh = s.inh ∧ (s.senseLost c).member = s.member
      ∧ (s.senseLost c).engine = s.engine := by
  simp [senseLost]


/-- What the withdrawal of a claim that is not on the bus leaves as it was. -/
@[simp] theorem withdrawIdleClaim_keeps (s : State) (c : Chan) :
    (s.withdrawIdleClaim c).pending = s.pending ∧ (s.withdrawIdleClaim c).pins = s.pins
      ∧ (s.withdrawIdleClaim c).power = s.power ∧ (s.withdrawIdleClaim c).retention = s.retention
      ∧ (s.withdrawIdleClaim c).starts = s.starts ∧ (s.withdrawIdleClaim c).draws = s.draws
      ∧ (s.withdrawIdleClaim c).loader = s.loader ∧ (s.withdrawIdleClaim c).answer = s.answer
      ∧ (s.withdrawIdleClaim c).freeCount = s.freeCount ∧ (s.withdrawIdleClaim c).inh = s.inh
      ∧ (s.withdrawIdleClaim c).member = s.member ∧ (s.withdrawIdleClaim c).engine = s.engine
      ∧ (s.withdrawIdleClaim c).history = s.history ∧ (s.withdrawIdleClaim c).bus = s.bus
      ∧ (s.withdrawIdleClaim c).faults = s.faults ∧ (s.withdrawIdleClaim c).notice = s.notice := by
  unfold withdrawIdleClaim
  repeat' split
  all_goals simp


/-- What the withdrawal of claims that are not on the bus leaves as it was. -/
@[simp] theorem foldl_withdrawIdleClaim_keeps (s : State) (l : List Chan) :
    (l.foldl (fun s c => s.withdrawIdleClaim c) s).pending = s.pending
      ∧ (l.foldl (fun s c => s.withdrawIdleClaim c) s).pins = s.pins
      ∧ (l.foldl (fun s c => s.withdrawIdleClaim c) s).power = s.power
      ∧ (l.foldl (fun s c => s.withdrawIdleClaim c) s).retention = s.retention
      ∧ (l.foldl (fun s c => s.withdrawIdleClaim c) s).starts = s.starts
      ∧ (l.foldl (fun s c => s.withdrawIdleClaim c) s).draws = s.draws
      ∧ (l.foldl (fun s c => s.withdrawIdleClaim c) s).loader = s.loader
      ∧ (l.foldl (fun s c => s.withdrawIdleClaim c) s).answer = s.answer
      ∧ (l.foldl (fun s c => s.withdrawIdleClaim c) s).freeCount = s.freeCount
      ∧ (l.foldl (fun s c => s.withdrawIdleClaim c) s).inh = s.inh
      ∧ (l.foldl (fun s c => s.withdrawIdleClaim c) s).member = s.member
      ∧ (l.foldl (fun s c => s.withdrawIdleClaim c) s).engine = s.engine
      ∧ (l.foldl (fun s c => s.withdrawIdleClaim c) s).history = s.history
      ∧ (l.foldl (fun s c => s.withdrawIdleClaim c) s).bus = s.bus
      ∧ (l.foldl (fun s c => s.withdrawIdleClaim c) s).notice = s.notice := by
  induction l generalizing s with
  | nil => simp
  | cons c cs ih => simp [ih]


/-- What the assertion of INH leaves as it was. -/
@[simp] theorem inhibit_keeps (s : State) :
    (s.inhibit).pending = s.pending ∧ (s.inhibit).pins = s.pins ∧ (s.inhibit).power = s.power
      ∧ (s.inhibit).retention = s.retention ∧ (s.inhibit).starts = s.starts ∧ (s.inhibit).draws = s.draws
      ∧ (s.inhibit).loader = s.loader ∧ (s.inhibit).answer = s.answer ∧ (s.inhibit).freeCount = s.freeCount
      ∧ (s.inhibit).member = s.member ∧ (s.inhibit).history = s.history := by
  unfold inhibit
  dsimp only
  repeat' split
  all_goals simp


/-- What a hold set to 0 leaves as it was. -/
@[simp] theorem runOut_keeps (s : State) (a : Addr) (c : Chan) (q : Seq) :
    (s.runOut a c q).pending = s.pending ∧ (s.runOut a c q).pins = s.pins ∧ (s.runOut a c q).power = s.power
      ∧ (s.runOut a c q).retention = s.retention ∧ (s.runOut a c q).draws = s.draws
      ∧ (s.runOut a c q).loader = s.loader ∧ (s.runOut a c q).answer = s.answer
      ∧ (s.runOut a c q).freeCount = s.freeCount ∧ (s.runOut a c q).inh = s.inh ∧ (s.runOut a c q).member = s.member := by
  unfold runOut
  repeat' split
  all_goals simp


/-- What the end of a hold leaves as it was. -/
@[simp] theorem holdEnds_keeps (s : State) (a : Addr) (c : Chan) (b : Bool) :
    (s.holdEnds a c b).pending = s.pending ∧ (s.holdEnds a c b).pins = s.pins ∧ (s.holdEnds a c b).power = s.power
      ∧ (s.holdEnds a c b).retention = s.retention ∧ (s.holdEnds a c b).draws = s.draws
      ∧ (s.holdEnds a c b).loader = s.loader ∧ (s.holdEnds a c b).answer = s.answer
      ∧ (s.holdEnds a c b).freeCount = s.freeCount ∧ (s.holdEnds a c b).inh = s.inh
      ∧ (s.holdEnds a c b).member = s.member ∧ (s.holdEnds a c b).engine = s.engine
      ∧ (s.holdEnds a c b).history = s.history ∧ (s.holdEnds a c b).queue = s.queue
      ∧ (s.holdEnds a c b).channels = s.channels ∧ (s.holdEnds a c b).bus = s.bus
      ∧ (s.holdEnds a c b).faults = s.faults ∧ (s.holdEnds a c b).notice = s.notice := by
  simp [holdEnds]


/-- What a renewal need leaves as it was. -/
@[simp] theorem holdLow_keeps (s : State) (c : Chan) :
    (s.holdLow c).pending = s.pending ∧ (s.holdLow c).pins = s.pins ∧ (s.holdLow c).power = s.power
      ∧ (s.holdLow c).retention = s.retention ∧ (s.holdLow c).draws = s.draws ∧ (s.holdLow c).loader = s.loader
      ∧ (s.holdLow c).answer = s.answer ∧ (s.holdLow c).freeCount = s.freeCount ∧ (s.holdLow c).inh = s.inh
      ∧ (s.holdLow c).member = s.member ∧ (s.holdLow c).engine = s.engine ∧ (s.holdLow c).history = s.history
      ∧ (s.holdLow c).queue = s.queue ∧ (s.holdLow c).channels = s.channels ∧ (s.holdLow c).bus = s.bus
      ∧ (s.holdLow c).notice = s.notice := by
  unfold holdLow
  repeat' split
  all_goals simp


/-- What an ageing step leaves as it was. -/
@[simp] theorem age_keeps (s : State) (c : Chan) :
    (s.age c).pending = s.pending ∧ (s.age c).pins = s.pins ∧ (s.age c).power = s.power
      ∧ (s.age c).retention = s.retention ∧ (s.age c).starts = s.starts ∧ (s.age c).draws = s.draws
      ∧ (s.age c).loader = s.loader ∧ (s.age c).answer = s.answer ∧ (s.age c).freeCount = s.freeCount
      ∧ (s.age c).inh = s.inh ∧ (s.age c).member = s.member ∧ (s.age c).engine = s.engine
      ∧ (s.age c).history = s.history ∧ (s.age c).channels = s.channels ∧ (s.age c).bus = s.bus
      ∧ (s.age c).faults = s.faults := by
  simp [age]


/-- What the end of a shed wait leaves as it was. -/
@[simp] theorem shedWaitEnds_keeps (s : State) (c : Chan) :
    (s.shedWaitEnds c).pending = s.pending ∧ (s.shedWaitEnds c).pins = s.pins ∧ (s.shedWaitEnds c).power = s.power
      ∧ (s.shedWaitEnds c).retention = s.retention ∧ (s.shedWaitEnds c).starts = s.starts
      ∧ (s.shedWaitEnds c).draws = s.draws ∧ (s.shedWaitEnds c).loader = s.loader
      ∧ (s.shedWaitEnds c).answer = s.answer ∧ (s.shedWaitEnds c).freeCount = s.freeCount
      ∧ (s.shedWaitEnds c).inh = s.inh ∧ (s.shedWaitEnds c).member = s.member ∧ (s.shedWaitEnds c).engine = s.engine
      ∧ (s.shedWaitEnds c).history = s.history ∧ (s.shedWaitEnds c).channels = s.channels
      ∧ (s.shedWaitEnds c).bus = s.bus ∧ (s.shedWaitEnds c).notice = s.notice := by
  unfold shedWaitEnds
  dsimp only
  repeat' split
  all_goals simp


/-- What the end of the LISTEN window leaves as it was. -/
@[simp] theorem windowEnds_keeps (s : State) :
    (s.windowEnds).pending = s.pending ∧ (s.windowEnds).pins = s.pins ∧ (s.windowEnds).power = s.power
      ∧ (s.windowEnds).retention = s.retention ∧ (s.windowEnds).starts = s.starts ∧ (s.windowEnds).draws = s.draws
      ∧ (s.windowEnds).loader = s.loader ∧ (s.windowEnds).answer = s.answer ∧ (s.windowEnds).freeCount = s.freeCount
      ∧ (s.windowEnds).inh = s.inh ∧ (s.windowEnds).engine = s.engine ∧ (s.windowEnds).channels = s.channels
      ∧ (s.windowEnds).queue = s.queue ∧ (s.windowEnds).bus = s.bus := by
  unfold windowEnds
  repeat' split
  all_goals simp


/-- What the end of the sync timeout leaves as it was. -/
@[simp] theorem syncEnds_keeps (s : State) :
    (s.syncEnds).pending = s.pending ∧ (s.syncEnds).pins = s.pins ∧ (s.syncEnds).power = s.power
      ∧ (s.syncEnds).retention = s.retention ∧ (s.syncEnds).starts = s.starts ∧ (s.syncEnds).draws = s.draws
      ∧ (s.syncEnds).loader = s.loader ∧ (s.syncEnds).answer = s.answer ∧ (s.syncEnds).freeCount = s.freeCount
      ∧ (s.syncEnds).inh = s.inh ∧ (s.syncEnds).engine = s.engine ∧ (s.syncEnds).channels = s.channels
      ∧ (s.syncEnds).queue = s.queue ∧ (s.syncEnds).bus = s.bus := by
  unfold syncEnds suspectAwaited suspectPresent
  split <;> simp


/-- What a peer's silence leaves as it was. -/
@[simp] theorem peerSilent_keeps (s : State) (a : Addr) :
    (s.peerSilent a).pending = s.pending ∧ (s.peerSilent a).pins = s.pins ∧ (s.peerSilent a).power = s.power
      ∧ (s.peerSilent a).retention = s.retention ∧ (s.peerSilent a).starts = s.starts
      ∧ (s.peerSilent a).draws = s.draws ∧ (s.peerSilent a).loader = s.loader ∧ (s.peerSilent a).answer = s.answer
      ∧ (s.peerSilent a).freeCount = s.freeCount ∧ (s.peerSilent a).inh = s.inh ∧ (s.peerSilent a).engine = s.engine
      ∧ (s.peerSilent a).history = s.history ∧ (s.peerSilent a).channels = s.channels
      ∧ (s.peerSilent a).queue = s.queue ∧ (s.peerSilent a).bus = s.bus ∧ (s.peerSilent a).faults = s.faults
      ∧ (s.peerSilent a).notice = s.notice := by
  simp [peerSilent]


/-- What a RECOUNT of type START leaves as it was. -/
@[simp] theorem recountStart_keeps (s : State) (a : Addr) (p : RecountPayload) :
    (s.recountStart a p).pending = s.pending ∧ (s.recountStart a p).pins = s.pins
      ∧ (s.recountStart a p).power = s.power ∧ (s.recountStart a p).retention = s.retention
      ∧ (s.recountStart a p).loader = s.loader ∧ (s.recountStart a p).answer = s.answer
      ∧ (s.recountStart a p).freeCount = s.freeCount ∧ (s.recountStart a p).inh = s.inh
      ∧ (s.recountStart a p).member = s.member := by
  unfold recountStart
  dsimp only
  repeat' split
  all_goals simp


/-- What a RECOUNT of type DRAW leaves as it was. -/
@[simp] theorem recountDraw_keeps (s : State) (a : Addr) (p : RecountPayload) :
    (s.recountDraw a p).pending = s.pending ∧ (s.recountDraw a p).pins = s.pins ∧ (s.recountDraw a p).power = s.power
      ∧ (s.recountDraw a p).retention = s.retention ∧ (s.recountDraw a p).loader = s.loader
      ∧ (s.recountDraw a p).answer = s.answer ∧ (s.recountDraw a p).freeCount = s.freeCount
      ∧ (s.recountDraw a p).inh = s.inh ∧ (s.recountDraw a p).member = s.member
      ∧ (s.recountDraw a p).engine = s.engine ∧ (s.recountDraw a p).history = s.history
      ∧ (s.recountDraw a p).queue = s.queue ∧ (s.recountDraw a p).channels = s.channels
      ∧ (s.recountDraw a p).bus = s.bus := by
  rcases s.recountDraw_cases a p with h | h <;> simp [h]


/-- What the clearing of the own station leaves as it was. -/
@[simp] theorem selfCleared_keeps (s : State) :
    (s.selfCleared).pending = s.pending ∧ (s.selfCleared).pins = s.pins ∧ (s.selfCleared).power = s.power
      ∧ (s.selfCleared).retention = s.retention ∧ (s.selfCleared).loader = s.loader
      ∧ (s.selfCleared).answer = s.answer ∧ (s.selfCleared).freeCount = s.freeCount ∧ (s.selfCleared).inh = s.inh
      ∧ (s.selfCleared).member = s.member ∧ (s.selfCleared).history = s.history := by
  unfold selfCleared
  dsimp only
  repeat' split
  all_goals simp


/-- What an ABSENT naming this station leaves as it was. -/
@[simp] theorem selfAbsent_keeps (s : State) (a : Addr) :
    (s.selfAbsent a).pending = s.pending ∧ (s.selfAbsent a).pins = s.pins ∧ (s.selfAbsent a).power = s.power
      ∧ (s.selfAbsent a).retention = s.retention ∧ (s.selfAbsent a).loader = s.loader
      ∧ (s.selfAbsent a).answer = s.answer ∧ (s.selfAbsent a).freeCount = s.freeCount ∧ (s.selfAbsent a).inh = s.inh := by
  rw [selfAbsent_eq]
  dsimp only
  split <;> simp


/-- What an ABSENT naming a peer leaves as it was. -/
@[simp] theorem peerAbsent_keeps (s : State) (a : Addr) :
    (s.peerAbsent a).pending = s.pending ∧ (s.peerAbsent a).pins = s.pins ∧ (s.peerAbsent a).power = s.power
      ∧ (s.peerAbsent a).retention = s.retention ∧ (s.peerAbsent a).loader = s.loader
      ∧ (s.peerAbsent a).answer = s.answer ∧ (s.peerAbsent a).freeCount = s.freeCount ∧ (s.peerAbsent a).inh = s.inh
      ∧ (s.peerAbsent a).engine = s.engine ∧ (s.peerAbsent a).queue = s.queue ∧ (s.peerAbsent a).channels = s.channels
      ∧ (s.peerAbsent a).bus = s.bus := by
  unfold peerAbsent
  dsimp only
  repeat' split
  all_goals simp


end State

end Sys2Proof.Machine
end

section
/-!
What a command of other kinds than supplies, reset and starts can do: it leaves the state as it is, records the level of a
pin while the channels do not act, or does what one of the cases of `Acts` says and then ends the step.
-/

namespace Sys2Proof.Machine

open Sys2Proof

/-- The sender, the frame and the effects of an accepted frame of another kind than the tool's rejected ones. -/
def frameBody : Instr → Option (Rx × Frame × (Option TxFrame → State → State))
  | .claim rx p => some (rx, .claim p, applyClaim rx.sender p)
  | .renew rx p => some (rx, .renew p, applyRenew rx.sender p)
  | .settled rx p => some (rx, .settled p, applySettled rx.sender p)
  | .abandoned rx p => some (rx, .abandoned p, applyAbandoned rx.sender p)
  | .expire rx p => some (rx, .expire p, applyExpire rx.sender p)
  | .stopped rx p => some (rx, .stopped p, applyStopped rx.sender p)
  | .shedCall rx p => some (rx, .shedCall p, applyShedCall rx.sender p)
  | .hello rx p => some (rx, .hello p, applyHello rx.sender p)
  | .presence rx p => some (rx, .presence p, applyPresence rx.sender p)
  | .syncReq rx a => some (rx, .syncReq a, applySyncReq a)
  | .recount rx p => some (rx, .recount p, applyRecount rx.sender p)
  | .recountEnd rx n => some (rx, .recountEnd n, applyRecountEnd rx.sender n)
  | .absent rx a => some (rx, .absent a, applyAbsent rx.sender a)
  | .inquire rx p => some (rx, .inquire p, applyInquire p)
  | .answer rx p => some (rx, .answer p, applyAnswer)
  | .toolFrameReject f => some ({ sender := toolAddr, acked := true }, f, fun _ s => s)
  | _ => none

namespace State

/-- The bus at its free-bus instant (R160). -/
def freed (s : State) : State :=
  { s with bus := { s.bus with lineBusy := false, receiving := false, free := s.operating } }

/-- REQn has taken a level. -/
def reqTaken (s : State) (c : Chan) (active : Bool) : State := { s with pins.req := s.pins.req.set c active }

/-- SENSEn has taken a level. -/
def senseTaken (s : State) (c : Chan) (active : Bool) : State := { s with pins.sense := s.pins.sense.set c active }

/-- INH has taken a level. -/
def inhTaken (s : State) (active : Bool) : State := { s with pins.inh := active }

/-- The filter of INH after its pin took a level (R80). -/
def filterInh (s : State) (active : Bool) : State :=
  { s with inh.timer := if active = s.inh.asserted then none else some 20 }

/-- INH is released: the queue's head is evaluated (R80). -/
def inhReleased (s : State) : State := ({ s with inh := { asserted := false, timer := none } } : State).notify

/-- A PRESENCE becomes a candidate (R134). -/
def presenceDue (s : State) : State := { s with member.presenceTimer := none, member.presenceDue := true }

/-- What a command can do before its step ends, with the conditions it does it under. -/
inductive Acts (s : State) : Instr → State → Prop
  | frame {c rx f body v} (hc : frameBody c = some (rx, f, body)) (hv : s.Receives rx f body v) : Acts s c v.frameEnds
  | voidedAside (raw) (hpart : s.takesPart = false) : Acts s (.frameVoided raw) s.frameEnds
  | voidedOwn (raw) (t) (hpart : s.takesPart = true) (htx : s.bus.tx = some t) :
    Acts s (.frameVoided raw) (s.ownVoided t).frameEnds
  | voidedOther (raw) (hpart : s.takesPart = true) (htx : s.bus.tx = none) :
    Acts s (.frameVoided raw) (s.otherVoided raw).frameEnds
  | arbitrationLost (t) (hop : s.operating = true) (htx : s.bus.tx = some t) : Acts s .arbitrationLost (s.loseArbitration t)
  | addressClash (hpart : s.takesPart = true) : Acts s .addressClash s.meetClash
  | incompleteAside (hpart : s.takesPart = false) : Acts s .frameIncomplete s.frameEnds
  | incomplete (hpart : s.takesPart = true) : Acts s .frameIncomplete s.foundIncomplete.frameEnds
  | frameBreak : Acts s .frameBreak s.seeBreak
  | busFree (htx : s.bus.tx = none) : Acts s .busFree s.freed
  | holdAtPeer (a c) (hop : s.operating = true) (ha : a ≠ s.own) : Acts s (.holdRunsOutAtPeer a c) (s.holdEnds a c true)
  | holdAtOwner (c e) (hop : s.operating = true) (he : s.pairEntry s.own c = some e) (hrun : e.holdRunning = true) :
    Acts s (.holdRunsOutAtOwner c) ((s.holdEnds s.own c false).ownHoldOut c e.seq)
  | renewalNeed (c) (hlive : s.live = true) (ht : s.tracked c = true) : Acts s (.renewalNeed c) (s.holdLow c)
  | reqLevel (c b) (hlive : s.live = true) (hne : s.pins.req.get c ≠ b) :
    Acts s (.reqLevelChange c b) ((s.reqTaken c b).debounce c b)
  | debounceOut (c) (hlive : s.live = true) (ht : (s.chan c).debounceTimer.isSome = true) :
    Acts s (.debounceTimerRunsOut c) (s.debounced c)
  | senseLevel (c b) (hlive : s.live = true) (hne : s.pins.sense.get c ≠ b) :
    Acts s (.senseChange c b) (((s.senseTaken c b).senseWatch c b).senseAwait c b)
  | senseGraceOut (c) (hlive : s.live = true) (hon : (s.chan c).state = .on) (ht : (s.chan c).senseGrace.isSome = true) :
    Acts s (.senseGraceRunsOut c) (s.senseLost c)
  | shedRestOut (c) (hlive : s.live = true) (hst : (s.chan c).state = .shed) (ht : (s.chan c).shedRest.isSome = true) :
    Acts s (.shedRestRunsOut c) ((s.modChan c fun k => { k with shedRest := none }).join c)
  | inhLevel (b) (hlive : s.live = true) (hne : s.pins.inh ≠ b) : Acts s (.inhPinChange b) ((s.inhTaken b).filterInh b)
  | inhAsserted (hlive : s.live = true) (hpin : s.pins.inh = true) (hinh : s.inh.asserted = false) :
    Acts s .inhAsserted s.inhibit
  | inhReleased (hlive : s.live = true) (hpin : s.pins.inh = false) (hinh : s.inh.asserted = true) :
    Acts s .inhReleased s.inhReleased
  | patienceOut (c e) (hop : s.operating = true) (he : s.queueEntry c = some e) (ht : e.patience.isSome = true) :
    Acts s (.patienceTimerRunsOut c) (s.age c)
  | shedWaitOut (c e) (hop : s.operating = true) (he : s.queueEntry c = some e) (ht : e.shedWait.isSome = true) :
    Acts s (.shedWaitRunsOut c) (s.shedWaitEnds c)
  | dwellOut (c i r time y) (hlive : s.live = true) (hr : s.engine.running = some r)
    (hst : s.stepOf r = some (.dwell time y)) : Acts s (.dwellTimeRunsOut c i) (s.stepCompletes r)
  | awaitOut (c i r level time y) (hlive : s.live = true) (hr : s.engine.running = some r)
    (hst : s.stepOf r = some (.await level time y)) (hsense : s.pins.sense.get r.ch ≠ level) :
    Acts s (.awaitTimeoutRunsOut c i) (s.stepFails r)
  | presenceOut (hop : s.operating = true) : Acts s .presenceTimerRunsOut s.presenceDue
  | windowOut (hop : s.operating = true) (hst : s.member.state = .listen) : Acts s .listenWindowRunsOut s.windowEnds
  | syncOut (hop : s.operating = true) (hst : s.member.state = .syncing) : Acts s .syncTimeoutRunsOut s.syncEnds
  | absenceReached (a) (hop : s.operating = true) (hst : (s.peer a).state = .present) :
    Acts s (.absenceTimeReached a) (s.peerSilent a)
  | requestOut (a) (hop : s.operating = true) :
    Acts s (.requestTimerRunsOut a) (s.modPeer a fun x => { x with requestTimer := none })
  | sampleOut (hlive : s.live = true) (hrel : s.history.released = true) : Acts s .sampleTimerRunsOut s.takeSamples
  | headerRead (a b n) (hl : s.loading = true) : Acts s (.imageHeaderRead a b n) (s.readHeader n a b)
  | readComplete (rest) (hl : s.loading = true) :
    Acts s (.imageReadComplete rest) ((s.drive (readRest rest ++ [.stop, .release])).judgeImage (s.loader.bytes ++ rest))
  | attemptFails (how ops) (hl : s.loading = true) : Acts s (.imageAttemptFails how) (s.drive ops).failAttempt
  | clockStretch (n m bytes ops) (hl : s.loading = true) : Acts s (.clockStretchTimeout n m bytes) (s.drive ops).failAttempt
  | retryElapsed (hl : s.loading = true) : Acts s .attemptRetryWaitElapsed s.beginAttempt

/-- What a command of another kind than supplies, reset and starts can leave. -/
inductive Runs (s : State) (c : Instr) : State → Prop
  | nothing (hf : isFrame c = false) : Runs s c s
  | pinTaken (p : Pins) (hf : isFrame c = false) (hlive : s.live = false) : Runs s c { s with pins := p }
  | acts {u : State} (h : s.Acts c u) : Runs s c u.finish

/-- A frame acts. -/
theorem runs_receive {s : State} {c : Instr} {rx : Rx} {f : Frame} {body : Option TxFrame → State → State}
    (hc : frameBody c = some (rx, f, body)) : s.Runs c (s.receive rx f body) := by
  obtain ⟨v, hv, heq⟩ := s.receive_cases rx f body
  rw [heq]
  exact .acts (.frame hc hv)

/-- A command that acts under a condition. -/
theorem runs_ite {s u : State} {c : Instr} {p : Prop} [Decidable p] (hf : isFrame c = false) (h : p → s.Acts c u) :
    s.Runs c (if p then u.finish else s) := by
  split
  · next hp => exact .acts (h hp)
  · exact .nothing hf

/-- A command of another kind than supplies, reset and starts runs as `Runs` says. -/
theorem runs_of_exec {c : Instr} {s t : State} (h : exec c s = .next t) (hr : resets c = false) : s.Runs c t := by
  cases c with
  | claim | renew | settled | abandoned | expire | stopped | shedCall | hello | presence | syncReq | recount | recountEnd
  | absent | inquire | answer | toolFrameReject => cases h; exact runs_receive rfl
  | frameVoided raw =>
    cases h
    split
    · next hpart =>
      split
      · next t htx => exact .acts (.voidedOwn raw t hpart htx)
      · next htx => exact .acts (.voidedOther raw hpart htx)
    · next hpart => exact .acts (.voidedAside raw (by simpa using hpart))
  | arbitrationLost =>
    cases h
    split
    · next t htx => exact runs_ite rfl fun hop => .arbitrationLost t hop htx
    · exact .nothing rfl
  | addressClash => cases h; exact runs_ite rfl .addressClash
  | frameIncomplete =>
    cases h
    split
    · next hpart => exact .acts (.incomplete hpart)
    · next hpart => exact .acts (.incompleteAside (by simpa using hpart))
  | frameBreak => cases h; exact .acts .frameBreak
  | busFree =>
    cases h
    split
    · exact .nothing rfl
    · next htx => exact .acts (.busFree htx)
  | holdRunsOutAtPeer a d =>
    cases h
    refine runs_ite rfl fun hp => ?_
    rw [Bool.and_eq_true, decide_eq_true_eq] at hp
    exact .holdAtPeer a d hp.1 hp.2
  | holdRunsOutAtOwner d =>
    cases h
    split
    · next hop =>
      split
      · next e he => exact runs_ite rfl fun hrun => .holdAtOwner d e hop he hrun
      · exact .nothing rfl
    · exact .nothing rfl
  | renewalNeed d =>
    cases h
    refine runs_ite rfl fun hp => ?_
    rw [Bool.and_eq_true] at hp
    exact .renewalNeed d hp.1 hp.2
  | reqLevelChange d b =>
    cases h
    split
    · exact .nothing rfl
    · next hne =>
      dsimp only
      split
      · next hlive => exact .acts (.reqLevel d b hlive hne)
      · next hlive => exact .pinTaken _ rfl (by simpa using hlive)
  | debounceTimerRunsOut d =>
    cases h
    refine runs_ite rfl fun hp => ?_
    rw [Bool.and_eq_true] at hp
    exact .debounceOut d hp.1 hp.2
  | senseChange d b =>
    cases h
    split
    · exact .nothing rfl
    · next hne =>
      dsimp only
      split
      · next hlive => exact .acts (.senseLevel d b hlive hne)
      · next hlive => exact .pinTaken _ rfl (by simpa using hlive)
  | senseGraceRunsOut d =>
    cases h
    refine runs_ite rfl fun hp => ?_
    simp only [Bool.and_eq_true, decide_eq_true_eq] at hp
    exact .senseGraceOut d hp.1.1 hp.1.2 hp.2
  | shedRestRunsOut d =>
    cases h
    refine runs_ite rfl fun hp => ?_
    simp only [Bool.and_eq_true, decide_eq_true_eq] at hp
    exact .shedRestOut d hp.1.1 hp.1.2 hp.2
  | inhPinChange b =>
    cases h
    split
    · exact .nothing rfl
    · next hne =>
      dsimp only
      split
      · next hlive => exact .acts (.inhLevel b hlive hne)
      · next hlive => exact .pinTaken _ rfl (by simpa using hlive)
  | inhAsserted =>
    cases h
    refine runs_ite rfl fun hp => ?_
    simp only [Bool.and_eq_true, Bool.not_eq_true'] at hp
    exact .inhAsserted hp.1.1.1 hp.1.2 hp.2
  | inhReleased =>
    cases h
    refine runs_ite rfl fun hp => ?_
    simp only [Bool.and_eq_true, Bool.not_eq_true'] at hp
    exact .inhReleased hp.1.1.1 hp.1.2 hp.2
  | patienceTimerRunsOut d =>
    cases h
    split
    · next e he =>
      refine runs_ite rfl fun hp => ?_
      rw [Bool.and_eq_true] at hp
      exact .patienceOut d e hp.1 he hp.2
    · exact .nothing rfl
  | shedWaitRunsOut d =>
    cases h
    split
    · next e he =>
      refine runs_ite rfl fun hp => ?_
      rw [Bool.and_eq_true] at hp
      exact .shedWaitOut d e hp.1 he hp.2
    · exact .nothing rfl
  | dwellTimeRunsOut d i =>
    cases h
    split
    · next r hr =>
      split
      · next time y hst =>
        exact runs_ite rfl fun hlive => .dwellOut d i r time y hlive (Option.filter_eq_some_iff.mp hr).1 hst
      · exact .nothing rfl
    · exact .nothing rfl
  | awaitTimeoutRunsOut d i =>
    cases h
    split
    · next r hr =>
      split
      · next level time y hst =>
        refine runs_ite rfl fun hp => ?_
        rw [Bool.and_eq_true, decide_eq_true_eq] at hp
        exact .awaitOut d i r level time y hp.1 (Option.filter_eq_some_iff.mp hr).1 hst hp.2
      · exact .nothing rfl
    · exact .nothing rfl
  | presenceTimerRunsOut =>
    cases h
    refine runs_ite rfl fun hp => ?_
    rw [Bool.and_eq_true] at hp
    exact .presenceOut hp.1
  | listenWindowRunsOut =>
    cases h
    refine runs_ite rfl fun hp => ?_
    simp only [Bool.and_eq_true, decide_eq_true_eq] at hp
    exact .windowOut hp.1.1 hp.1.2
  | syncTimeoutRunsOut =>
    cases h
    refine runs_ite rfl fun hp => ?_
    simp only [Bool.and_eq_true, decide_eq_true_eq] at hp
    exact .syncOut hp.1.1 hp.1.2
  | absenceTimeReached a =>
    cases h
    refine runs_ite rfl fun hp => ?_
    simp only [Bool.and_eq_true, decide_eq_true_eq] at hp
    exact .absenceReached a hp.1.1 hp.1.2
  | requestTimerRunsOut a =>
    cases h
    refine runs_ite rfl fun hp => ?_
    rw [Bool.and_eq_true] at hp
    exact .requestOut a hp.1
  | sampleTimerRunsOut =>
    cases h
    refine runs_ite rfl fun hp => ?_
    simp only [Bool.and_eq_true] at hp
    exact .sampleOut hp.1.1 hp.1.2
  | imageHeaderRead a b n =>
    cases h
    refine runs_ite rfl fun hp => ?_
    rw [Bool.and_eq_true] at hp
    exact .headerRead a b n hp.1
  | imageReadComplete rest =>
    cases h
    refine runs_ite rfl fun hp => ?_
    rw [Bool.and_eq_true] at hp
    exact .readComplete rest hp.1
  | imageAttemptFails how =>
    cases h
    split
    · next hl =>
      split
      · exact .acts (.attemptFails how _ hl)
      · exact .acts (.attemptFails how _ hl)
      all_goals exact .nothing rfl
    · exact .nothing rfl
  | clockStretchTimeout n m bytes =>
    cases h
    split
    · next hl =>
      split
      · exact .acts (.clockStretch n m bytes _ hl)
      · exact .acts (.clockStretch n m bytes _ hl)
      all_goals exact .nothing rfl
    · exact .nothing rfl
  | attemptRetryWaitElapsed =>
    cases h
    refine runs_ite rfl fun hp => ?_
    rw [Bool.and_eq_true] at hp
    exact .retryElapsed hp.1
  | powerFailWarning | vmainLost | retentionLoss | vmainRise | rstnLow | rstnRelease | start => cases hr

end State

end Sys2Proof.Machine
end

section
/-!
What an accepted frame leaves as it was at the station that receives it (R4): queue of commands, pins, supplies, retention
domain, image and the filtered INH; and what the other commands leave.
-/

namespace Sys2Proof.Machine

open Sys2Proof

namespace State

/-- What an accepted frame never changes. -/
def settings (s : State) :
    List Instr × Pins × Power × Retention × (Option Addr × Option Image × Option (BitVec 16)) × Bool :=
  (s.pending, s.pins, s.power, s.retention, (s.loader.addr, s.loader.image, s.loader.digest), s.inh.asserted)

theorem settings_of_eq {s t : State} (hpe : t.pending = s.pending) (hpi : t.pins = s.pins) (hpo : t.power = s.power)
    (hre : t.retention = s.retention) (hlo : t.loader = s.loader) (hi : t.inh = s.inh) : t.settings = s.settings := by
  simp [settings, *]

@[simp] theorem clearRelease_settings (s : State) (c : Chan) : (s.clearRelease c).settings = s.settings := by
  simp [settings]

theorem applyClaim_settings (a : Addr) (p : ClaimPayload) (own : Option TxFrame) (s : State) :
    (applyClaim a p own s).settings = s.settings := by
  unfold applyClaim
  dsimp only
  cases own <;> dsimp only <;> repeat' split
  all_goals simp [settings]

theorem applyRenew_settings (a : Addr) (p : RenewPayload) (own : Option TxFrame) (s : State) :
    (applyRenew a p own s).settings = s.settings := by
  unfold applyRenew
  dsimp only
  cases own <;> dsimp only <;> repeat' split
  all_goals simp [settings]

theorem applySettled_settings (a : Addr) (p : SettledPayload) (own : Option TxFrame) (s : State) :
    (applySettled a p own s).settings = s.settings := by
  unfold applySettled
  dsimp only
  cases own <;> dsimp only <;> repeat' split
  all_goals simp [settings]

theorem applyAbandoned_settings (a : Addr) (p : AbandonedPayload) (own : Option TxFrame) (s : State) :
    (applyAbandoned a p own s).settings = s.settings := by
  unfold applyAbandoned
  dsimp only
  cases own <;> dsimp only <;> repeat' split
  all_goals simp [settings]

theorem applyExpire_settings (a : Addr) (p : ExpirePayload) (own : Option TxFrame) (s : State) :
    (applyExpire a p own s).settings = s.settings := by
  unfold applyExpire
  dsimp only
  repeat' split
  all_goals simp [settings]

theorem applyStopped_settings (a : Addr) (p : StoppedPayload) (own : Option TxFrame) (s : State) :
    (applyStopped a p own s).settings = s.settings := by
  unfold applyStopped
  dsimp only
  cases own <;> dsimp only <;> repeat' split
  all_goals simp [settings]

theorem applyShedCall_settings (a : Addr) (p : ShedCallPayload) (own : Option TxFrame) (s : State) :
    (applyShedCall a p own s).settings = s.settings := by
  unfold applyShedCall
  dsimp only
  cases own <;> dsimp only <;> repeat' split
  all_goals simp [settings]

theorem applyHello_settings (a : Addr) (p : HelloPayload) (own : Option TxFrame) (s : State) :
    (applyHello a p own s).settings = s.settings := by
  unfold applyHello
  dsimp only
  cases own <;> dsimp only <;> repeat' split
  all_goals simp [settings]

theorem applyPresence_settings (a : Addr) (p : PresencePayload) (own : Option TxFrame) (s : State) :
    (applyPresence a p own s).settings = s.settings := by
  unfold applyPresence
  cases own with
  | some => rfl
  | none =>
    dsimp only
    split <;> simp [settings]

theorem applySyncReq_settings (target : Addr) (own : Option TxFrame) (s : State) :
    (applySyncReq target own s).settings = s.settings := by
  unfold applySyncReq
  dsimp only
  repeat' split
  all_goals simp [settings]

theorem applyRecount_settings (a : Addr) (p : RecountPayload) (own : Option TxFrame) (s : State) :
    (applyRecount a p own s).settings = s.settings := by
  rw [applyRecount_eq]
  split <;> simp [settings]

theorem applyRecountEnd_settings (a : Addr) (n : Fin 8) (own : Option TxFrame) (s : State) :
    (applyRecountEnd a n own s).settings = s.settings := by
  unfold applyRecountEnd
  cases own <;> simp [settings]

theorem applyAbsent_settings (a target : Addr) (own : Option TxFrame) (s : State) :
    (applyAbsent a target own s).settings = s.settings := by
  unfold applyAbsent
  repeat' split
  all_goals simp [settings]

theorem applyInquire_settings (p : InquirePayload) (own : Option TxFrame) (s : State) :
    (applyInquire p own s).settings = s.settings := by
  unfold applyInquire
  dsimp only
  repeat' split
  all_goals simp [settings]

theorem applyAnswer_settings (own : Option TxFrame) (s : State) : (applyAnswer own s).settings = s.settings := by
  cases own <;> rfl

/-- The effects of an accepted frame leave the settings. -/
theorem frameBody_settings {c : Instr} {rx : Rx} {f : Frame} {body : Option TxFrame → State → State}
    (h : frameBody c = some (rx, f, body)) (own : Option TxFrame) (u : State) : (body own u).settings = u.settings := by
  cases c with
  | claim => cases h; exact applyClaim_settings _ _ _ _
  | renew => cases h; exact applyRenew_settings _ _ _ _
  | settled => cases h; exact applySettled_settings _ _ _ _
  | abandoned => cases h; exact applyAbandoned_settings _ _ _ _
  | expire => cases h; exact applyExpire_settings _ _ _ _
  | stopped => cases h; exact applyStopped_settings _ _ _ _
  | shedCall => cases h; exact applyShedCall_settings _ _ _ _
  | hello => cases h; exact applyHello_settings _ _ _ _
  | presence => cases h; exact applyPresence_settings _ _ _ _
  | syncReq => cases h; exact applySyncReq_settings _ _ _
  | recount => cases h; exact applyRecount_settings _ _ _ _
  | recountEnd => cases h; exact applyRecountEnd_settings _ _ _ _
  | absent => cases h; exact applyAbsent_settings _ _ _ _
  | inquire => cases h; exact applyInquire_settings _ _ _
  | answer => cases h; exact applyAnswer_settings _ _
  | toolFrameReject => cases h; rfl
  | _ => cases h

theorem meetClash_settings (s : State) : s.meetClash.settings = s.settings := by
  rw [meetClash_eq]
  dsimp only
  split <;> simp [settings, enterHalted]

theorem listens_settings {s u : State} (h : s.listens u) : u.settings = s.settings := by
  rcases h with ⟨-, rfl⟩ | ⟨t, -, rfl⟩
  · rfl
  · simp [settings]

/-- An accepted frame leaves the settings. -/
theorem Receives.settings_eq {s v : State} {rx : Rx} {f : Frame} {body : Option TxFrame → State → State}
    (hv : s.Receives rx f body v) (hbody : ∀ own (u : State), (body own u).settings = u.settings) :
    v.settings = s.settings := by
  cases hv with
  | aside => rfl
  | own => rw [hbody]; simp [settings]
  | clash => exact meetClash_settings s
  | ignored _ _ hu => exact listens_settings hu
  | tool u _ hu => exact (show (u.tally _).settings = u.settings by simp [settings]).trans (listens_settings hu)
  | inquiry _ _ hu => rw [hbody]; exact listens_settings hu
  | peer u _ hu => rw [hbody]; exact (show (u.hearPeer _ _).settings = u.settings by simp [settings]).trans (listens_settings hu)

end State

/-- A command with effects on a frame's copies is an accepted frame. -/
theorem isFrame_of_frameBody {c : Instr} {x} (h : frameBody c = some x) : isFrame c = true := by
  cases c <;> simp_all [frameBody, isFrame]

namespace State

@[simp] theorem joinLatched_keeps (s : State) (c : Chan) :
    (s.joinLatched c).pending = s.pending ∧ (s.joinLatched c).pins = s.pins ∧ (s.joinLatched c).power = s.power
      ∧ (s.joinLatched c).retention = s.retention ∧ (s.joinLatched c).loader = s.loader
      ∧ (s.joinLatched c).starts = s.starts ∧ (s.joinLatched c).draws = s.draws ∧ (s.joinLatched c).inh = s.inh
      ∧ (s.joinLatched c).member = s.member ∧ (s.joinLatched c).engine = s.engine
      ∧ (s.joinLatched c).history = s.history ∧ (s.joinLatched c).bus = s.bus := by
  unfold joinLatched
  split <;> simp

@[simp] theorem logInvalid_keeps (s : State) (c : Chan) :
    (s.logInvalid c).pending = s.pending ∧ (s.logInvalid c).pins = s.pins ∧ (s.logInvalid c).power = s.power
      ∧ (s.logInvalid c).retention = s.retention ∧ (s.logInvalid c).loader = s.loader
      ∧ (s.logInvalid c).starts = s.starts ∧ (s.logInvalid c).draws = s.draws ∧ (s.logInvalid c).inh = s.inh
      ∧ (s.logInvalid c).member = s.member ∧ (s.logInvalid c).engine = s.engine
      ∧ (s.logInvalid c).history = s.history ∧ (s.logInvalid c).bus = s.bus
      ∧ (s.logInvalid c).channels = s.channels ∧ (s.logInvalid c).queue = s.queue := by
  unfold logInvalid
  split <;> simp

/-- The end of loading in LISTEN leaves pins, supplies, retention domain, tables and straps as they were. -/
@[simp] theorem endLoading_keeps (s : State) (bytes : List Byte) :
    (s.endLoading bytes).pending = s.pending ∧ (s.endLoading bytes).pins = s.pins
      ∧ (s.endLoading bytes).power = s.power ∧ (s.endLoading bytes).retention = s.retention
      ∧ (s.endLoading bytes).loader.addr = s.loader.addr ∧ (s.endLoading bytes).starts = s.starts
      ∧ (s.endLoading bytes).draws = s.draws := by
  rw [endLoading_eq]
  simp [enterListen, inhLoaded, latchedJoined, channelsLoaded, invalidLogged, imageHeld, allChans]

/-- The end of loading in HALTED leaves all this as it was, the holds' timers aside. -/
theorem haltLoading_keeps (s : State) (r : LoadResult) :
    (s.haltLoading r).pending = s.pending ∧ (s.haltLoading r).pins = s.pins ∧ (s.haltLoading r).power = s.power
      ∧ (s.haltLoading r).retention = s.retention ∧ (s.haltLoading r).loader.addr = s.loader.addr
      ∧ (s.haltLoading r).loader.image = s.loader.image ∧ (s.haltLoading r).loader.digest = s.loader.digest
      ∧ (s.haltLoading r).draws = s.draws
      ∧ (s.haltLoading r).starts = s.starts.map fun e => { e with holdRunning := false } :=
  ⟨rfl, rfl, rfl, rfl, rfl, rfl, rfl, rfl, rfl⟩

/-- A stopped hold timer aside, the entries are the same. -/
theorem map_withoutHold_stopped (l : List StartEntry) :
    (l.map fun e => { e with holdRunning := false }).map withoutHold = l.map withoutHold := by
  simp [withoutHold, Function.comp_def]

/-- A failed attempt leaves pins, supplies, retention domain, tables and image as they were. -/
theorem failAttempt_keeps (s : State) :
    s.failAttempt.pending = s.pending ∧ s.failAttempt.pins = s.pins ∧ s.failAttempt.power = s.power
      ∧ s.failAttempt.retention = s.retention ∧ s.failAttempt.loader.addr = s.loader.addr
      ∧ s.failAttempt.loader.image = s.loader.image ∧ s.failAttempt.loader.digest = s.loader.digest
      ∧ s.failAttempt.draws = s.draws ∧ s.failAttempt.starts.map withoutHold = s.starts.map withoutHold := by
  unfold failAttempt
  dsimp only
  split
  · simp [haltLoading_keeps, withoutHold]
  · simp

@[simp] theorem driveFail_keeps (s : State) (ops : List LinkOp) :
    (s.drive ops).failAttempt.pending = s.pending ∧ (s.drive ops).failAttempt.pins = s.pins
      ∧ (s.drive ops).failAttempt.power = s.power ∧ (s.drive ops).failAttempt.retention = s.retention
      ∧ (s.drive ops).failAttempt.loader.addr = s.loader.addr ∧ (s.drive ops).failAttempt.loader.image = s.loader.image
      ∧ (s.drive ops).failAttempt.loader.digest = s.loader.digest ∧ (s.drive ops).failAttempt.draws = s.draws
      ∧ (s.drive ops).failAttempt.starts.map withoutHold = s.starts.map withoutHold :=
  failAttempt_keeps (s.drive ops)

end State

end Sys2Proof.Machine
end

section
/-!
What a command of another kind than supplies, reset and starts leaves as it was: the queue of commands, supplies, straps,
and all but a few the tables, the retention domain and the image.
-/

namespace Sys2Proof.Machine

open Sys2Proof

namespace State

@[simp] theorem readHeader_keeps (s : State) (n : Fin 10) (a b : Byte) :
    (s.readHeader n a b).pending = s.pending ∧ (s.readHeader n a b).pins = s.pins
      ∧ (s.readHeader n a b).power = s.power ∧ (s.readHeader n a b).retention = s.retention
      ∧ (s.readHeader n a b).loader.addr = s.loader.addr ∧ (s.readHeader n a b).loader.image = s.loader.image
      ∧ (s.readHeader n a b).loader.digest = s.loader.digest ∧ (s.readHeader n a b).draws = s.draws
      ∧ (s.readHeader n a b).starts.map withoutHold = s.starts.map withoutHold := by
  unfold readHeader
  dsimp only
  split
  · simp
  · simp

@[simp] theorem judgeImage_keeps (s : State) (bytes : List Byte) :
    (s.judgeImage bytes).pending = s.pending ∧ (s.judgeImage bytes).pins = s.pins
      ∧ (s.judgeImage bytes).power = s.power ∧ (s.judgeImage bytes).retention = s.retention
      ∧ (s.judgeImage bytes).loader.addr = s.loader.addr ∧ (s.judgeImage bytes).draws = s.draws
      ∧ (s.judgeImage bytes).starts.map withoutHold = s.starts.map withoutHold := by
  unfold judgeImage
  split
  · split
    · simp
    · simp [haltLoading_keeps, withoutHold]
  · simp [failAttempt_keeps]

theorem meetClash_starts (s : State) :
    s.meetClash.starts.map withoutHold = s.starts.map withoutHold ∧ s.meetClash.draws = s.draws := by
  rw [meetClash_eq]
  dsimp only
  split <;> simp [enterHalted, withoutHold]

/-- Entries that are the same but for their hold (R4). -/
theorem map_withoutHold_modStarts (s : State) (pick : StartEntry → Bool) (f : StartEntry → StartEntry)
    (h : ∀ e, withoutHold (f e) = withoutHold e) :
    (s.modStarts pick f).starts.map withoutHold = s.starts.map withoutHold := by
  unfold modStarts
  rw [List.map_map]
  refine List.map_congr_left fun e _ => ?_
  simp only [Function.comp_apply]
  split
  · exact h e
  · rfl

theorem holdEnds_starts (s : State) (a : Addr) (c : Chan) (b : Bool) :
    (s.holdEnds a c b).starts.map withoutHold = s.starts.map withoutHold :=
  map_withoutHold_modStarts s _ _ fun _ => rfl

theorem holdLow_starts (s : State) (c : Chan) :
    (s.holdLow c).starts.map withoutHold = s.starts.map withoutHold := by
  unfold holdLow
  split
  · exact map_withoutHold_modStarts s _ _ fun _ => rfl
  · rfl

@[simp] theorem takeSamples_keeps (s : State) :
    s.takeSamples.pending = s.pending ∧ s.takeSamples.pins = s.pins ∧ s.takeSamples.power = s.power
      ∧ s.takeSamples.starts = s.starts ∧ s.takeSamples.draws = s.draws ∧ s.takeSamples.loader = s.loader
      ∧ s.takeSamples.inh = s.inh ∧ s.takeSamples.engine = s.engine ∧ s.takeSamples.channels = s.channels
      ∧ s.takeSamples.queue = s.queue ∧ s.takeSamples.member = s.member ∧ s.takeSamples.bus = s.bus
      ∧ s.takeSamples.faults = s.faults ∧ s.takeSamples.notice = s.notice :=
  ⟨rfl, rfl, rfl, rfl, rfl, rfl, rfl, rfl, rfl, rfl, rfl, rfl, rfl, rfl⟩

@[simp] theorem beginAttempt_keeps (s : State) :
    s.beginAttempt.pending = s.pending ∧ s.beginAttempt.pins = s.pins ∧ s.beginAttempt.power = s.power
      ∧ s.beginAttempt.retention = s.retention ∧ s.beginAttempt.starts = s.starts ∧ s.beginAttempt.draws = s.draws
      ∧ s.beginAttempt.loader.addr = s.loader.addr ∧ s.beginAttempt.loader.image = s.loader.image
      ∧ s.beginAttempt.loader.digest = s.loader.digest ∧ s.beginAttempt.member = s.member
      ∧ s.beginAttempt.channels = s.channels :=
  ⟨rfl, rfl, rfl, rfl, rfl, rfl, rfl, rfl, rfl, rfl, rfl⟩

/-- What no command but supplies, reset and starts changes, and what only some change. -/
structure keepsFor (s : State) (c : Instr) (t : State) : Prop where
  pending : t.pending = s.pending
  power : t.power = s.power
  addr : t.loader.addr = s.loader.addr
  retention : c ≠ .sampleTimerRunsOut → t.retention = s.retention
  image : (∀ rest, c ≠ .imageReadComplete rest) → t.loader.image = s.loader.image ∧ t.loader.digest = s.loader.digest
  tables : isFrame c = false → t.starts.map withoutHold = s.starts.map withoutHold ∧ t.draws = s.draws
  pins : isFrame c = true → t.pins = s.pins ∧ t.inh.asserted = s.inh.asserted

theorem keepsFor_refl (s : State) (c : Instr) : s.keepsFor c s := by
  constructor <;> simp

theorem keepsFor.finish {s u : State} {c : Instr} (h : s.keepsFor c u) : s.keepsFor c u.finish := by
  obtain ⟨hpe, hpo, ha, hre, him, ht, hpi⟩ := h
  constructor <;> simpa

/-- What an accepted frame does leaves its settings. -/
theorem keepsFor_of_settings {s v : State} {c : Instr} (hf : isFrame c = true) (h : v.settings = s.settings) :
    s.keepsFor c v := by
  simp only [settings, Prod.mk.injEq] at h
  obtain ⟨hpe, hpi, hpo, hre, ⟨ha, him, hd⟩, hi⟩ := h
  exact ⟨hpe, hpo, ha, fun _ => hre, fun _ => ⟨him, hd⟩, fun h => by simp [hf] at h, fun _ => ⟨hpi, hi⟩⟩

/-- A command of another kind that leaves the settings of a frame but pins and the filtered INH. -/
theorem keepsFor_of_event {s v : State} {c : Instr} (hf : isFrame c = false) (hpe : v.pending = s.pending)
    (hpo : v.power = s.power) (hre : v.retention = s.retention) (hlo : v.loader = s.loader)
    (hst : v.starts.map withoutHold = s.starts.map withoutHold) (hdr : v.draws = s.draws) : s.keepsFor c v := by
  constructor <;> simp [*]

theorem keepsFor_of_acts {s u : State} {c : Instr} (h : s.Acts c u) : s.keepsFor c u := by
  cases h with
  | @frame _ rx f body v hc hv =>
    have hset := hv.settings_eq (frameBody_settings hc)
    exact keepsFor_of_settings (isFrame_of_frameBody hc) hset
  | addressClash =>
    have hset := meetClash_settings s
    simp only [settings, Prod.mk.injEq] at hset
    obtain ⟨hpe, hpi, hpo, hre, ⟨ha, him, hd⟩, hi⟩ := hset
    obtain ⟨hst, hdr⟩ := meetClash_starts s
    exact ⟨hpe, hpo, ha, fun _ => hre, fun _ => ⟨him, hd⟩, fun _ => ⟨hst, hdr⟩, fun _ => ⟨hpi, hi⟩⟩
  | sampleOut => constructor <;> simp [isFrame]
  | readComplete rest hl => constructor <;> simp [isFrame]
  | headerRead | attemptFails | clockStretch | retryElapsed => constructor <;> simp [isFrame]
  | holdAtPeer a d => exact keepsFor_of_event rfl rfl rfl rfl rfl (holdEnds_starts _ _ _ _) rfl
  | holdAtOwner d e =>
    exact keepsFor_of_event rfl (by simp) (by simp) (by simp) (by simp) (by simp [holdEnds_starts]) (by simp)
  | renewalNeed d =>
    exact keepsFor_of_event rfl (by simp) (by simp) (by simp) (by simp) (by simp [holdLow_starts]) (by simp)
  | requestOut | voidedAside | incompleteAside | busFree | inhLevel | inhReleased | presenceOut =>
    exact keepsFor_of_event rfl rfl rfl rfl rfl rfl rfl
  | reqLevel d b =>
    have h : s.reqTaken d b = { s with pins.req := s.pins.req.set d b } := rfl
    exact keepsFor_of_event rfl (by simp [h]) (by simp [h]) (by simp [h]) (by simp [h]) (by simp [h]) (by simp [h])
  | senseLevel d b =>
    have h : s.senseTaken d b = { s with pins.sense := s.pins.sense.set d b } := rfl
    exact keepsFor_of_event rfl (by simp [h]) (by simp [h]) (by simp [h]) (by simp [h]) (by simp [h]) (by simp [h])
  | _ => exact keepsFor_of_event rfl (by simp) (by simp) (by simp) (by simp) (by simp) (by simp)

theorem keepsFor_of_exec {c : Instr} {s t : State} (h : exec c s = .next t) (hr : resets c = false) : s.keepsFor c t := by
  cases runs_of_exec h hr with
  | nothing => exact keepsFor_refl s c
  | pinTaken p hf => exact keepsFor_of_event hf rfl rfl rfl rfl rfl rfl
  | acts ha => exact (keepsFor_of_acts ha).finish

/-- The reset line goes low in a part with power (R118). -/
def held (s : State) : State :=
  ({ s with pins.rstn := false, power.startDelay := none, power.phase := .inReset, power.warning := false } : State).discard

/-- The reset line goes low in a part without power (R118, R83). -/
def heldUnpowered (s : State) : State :=
  { s with pins.rstn := false, power.startDelay := none, indicators.flt := false }

/-- The reset line is released (R118). -/
def rstnReleased (s : State) : State :=
  { s with pins.rstn := true, power.startDelay := if s.power.vmain = Vmain.good then some 50 else s.power.startDelay }

/-- What a command of supplies, reset and starts can do before its step ends, with the conditions it does it under. -/
inductive Resets (s : State) : Instr → State → Prop
  | powerFail (hgood : s.power.vmain = .good) : Resets s .powerFailWarning s.failPower
  | vmainLost (h : s.power.vmain ≠ .absent) : Resets s .vmainLost s.losePower
  | retentionLost (h : s.power.vmain = .absent) : Resets s .retentionLoss s.loseRetention
  | suppliesLost (h : s.power.vmain ≠ .absent) : Resets s .retentionLoss s.losePower.loseRetention
  | recover (h : s.power.vmain ≠ .good) (hrun : s.power.phase = .running) : Resets s .vmainRise s.recover
  | powerUp (h : s.power.vmain ≠ .good) (hrun : s.power.phase ≠ .running) : Resets s .vmainRise s.powerUp
  | rstnLow (h : s.pins.rstn = true) (hpow : s.power.phase ≠ .unpowered) : Resets s .rstnLow s.held
  | rstnRelease (h : s.pins.rstn = false) : Resets s .rstnRelease s.rstnReleased
  | start (straps) (h : s.awaitsStart = true) : Resets s (.start straps) (s.begin straps)

/-- What a command of supplies, reset and starts can leave. -/
inductive ResetRuns (s : State) (c : Instr) : State → Prop
  | nothing : ResetRuns s c s
  | unpowered (hc : c = .rstnLow) (h : s.pins.rstn = true) (hpow : s.power.phase = .unpowered) : ResetRuns s c s.heldUnpowered
  | acts {u : State} (h : s.Resets c u) : ResetRuns s c u.finish

/-- A command of supplies, reset and starts runs as `ResetRuns` says. -/
theorem resetRuns_of_exec {c : Instr} {s t : State} (h : exec c s = .next t) (hr : resets c = true) : s.ResetRuns c t := by
  cases c with
  | powerFailWarning =>
    cases h
    split
    · next hgood => exact .acts (.powerFail hgood)
    · exact .nothing
  | vmainLost =>
    cases h
    split
    · exact .nothing
    · next habs => exact .acts (.vmainLost habs)
  | retentionLoss =>
    cases h
    split
    · next habs => exact .acts (.retentionLost habs)
    · next habs => exact .acts (.suppliesLost habs)
  | vmainRise =>
    cases h
    split
    · exact .nothing
    · next hgood =>
      split
      · next hrun => exact .acts (.recover hgood hrun)
      · next hrun => exact .acts (.powerUp hgood hrun)
  | rstnLow =>
    cases h
    split
    · next hrst =>
      dsimp only
      split
      · next hpow => exact .unpowered rfl hrst hpow
      · next hpow => exact .acts (.rstnLow hrst hpow)
    · exact .nothing
  | rstnRelease =>
    cases h
    split
    · exact .nothing
    · next hrst => exact .acts (.rstnRelease (by simpa using hrst))
  | start straps =>
    cases h
    split
    · next haw => exact .acts (.start straps haw)
    · exact .nothing
  | _ => cases hr

@[simp] theorem failPower_keeps (s : State) :
    s.failPower.pending = s.pending ∧ s.failPower.pins = s.pins ∧ s.failPower.starts = s.starts
      ∧ s.failPower.draws = s.draws ∧ s.failPower.queue = s.queue ∧ s.failPower.engine = s.engine
      ∧ s.failPower.member = s.member ∧ s.failPower.faults = s.faults ∧ s.failPower.bus = s.bus
      ∧ s.failPower.answer = s.answer ∧ s.failPower.indicators = s.indicators
      ∧ s.failPower.notice = s.notice ∧ s.failPower.freeCount = s.freeCount
      ∧ s.failPower.power.phase = s.power.phase ∧ s.failPower.power.vmain = .low
      ∧ s.failPower.power.domain = s.power.domain ∧ s.failPower.power.startDelay = none
      ∧ s.failPower.retention = { s.retention with mainPresent := false }
      ∧ s.failPower.loader.addr = s.loader.addr ∧ s.failPower.loader.image = s.loader.image := by
  unfold failPower
  dsimp only
  split <;> simp [enterWarning]

@[simp] theorem losePower_pending (s : State) : s.losePower.pending = s.pending := by
  unfold losePower
  dsimp only
  split <;> simp [discard]

@[simp] theorem sampleStraps_pending (s : State) (straps : Addr) : (s.sampleStraps straps).pending = s.pending := by
  unfold sampleStraps
  dsimp only
  split
  · exact (haltLoading_keeps _ _).1
  · rfl

/-- The commands of supplies, reset and starts leave the queue of commands. -/
theorem pending_of_resets {c : Instr} {s t : State} (h : exec c s = .next t) (hr : resets c = true) :
    t.pending = s.pending := by
  cases resetRuns_of_exec h hr with
  | nothing | unpowered => rfl
  | acts hu =>
    rw [(finish_keeps _).1]
    cases hu with
    | powerFail => simp
    | vmainLost => simp
    | suppliesLost => exact losePower_pending s
    | start straps => simp [begin, discard]
    | retentionLost | recover | powerUp | rstnLow | rstnRelease => rfl

end State

/-- Settles O56: by cases on what a command can do, with what each operation leaves as it was. -/
theorem tablesChangeOnlyByFrames : Obligations.TablesChangeOnlyByFrames := by
  refine ⟨fun c s t h => ?_, fun c s t h hr => ?_⟩
  · cases hr : resets c with
    | false => exact (State.keepsFor_of_exec h hr).pending
    | true => exact State.pending_of_resets h hr
  · obtain ⟨-, hpo, ha, hre, him, ht, hpi⟩ := State.keepsFor_of_exec h hr
    exact ⟨ht, hre, hpo, ha, him, hpi⟩

end Sys2Proof.Machine
end

section
/-!
A HALTED station holds everything but its pins and its view of the line; in the power-fail warning channels, engine and
retention domain are held (R4, R82, R121).
-/

namespace Sys2Proof.Machine

open Sys2Proof

namespace State

/-! ## Indicators that stand as the laws say -/

theorem statPattern_of_law {s : State} (h : StatLaw s) : s.statPattern = s.indicators.stat := by
  obtain ⟨hoff, hrun⟩ := h
  unfold statPattern
  split
  · next hp =>
    rw [hoff]
    simpa using hp
  · next hp =>
    simp only [ne_eq, decide_not, Bool.or_eq_true, Bool.not_eq_eq_eq_not, Bool.not_true, decide_eq_false_iff_not, not_or,
      not_not, Bool.not_eq_true] at hp
    obtain ⟨hload, hhalt, hlis, hsyn, hin, hiso, hlis', hsyn', hin'⟩ := hrun hp.1 hp.2
    cases hm : s.member.state <;> cases hd : s.member.discord <;> simp_all

theorem fltLevel_of_law {s : State} (h : FltLaw s) : s.fltLevel = s.indicators.flt := by
  obtain ⟨hreset, hrec, hrun⟩ := h
  unfold fltLevel
  cases hp : s.power.phase with
  | unpowered => rfl
  | inReset => exact (hreset hp).symm
  | running =>
    dsimp only
    cases hw : s.power.warning with
    | false =>
      rw [if_neg Bool.false_ne_true, Bool.eq_iff_iff, s.faulted_iff]
      exact (hrun hp hw).symm
    | true =>
      by_cases hv : s.power.vmain = .good
      · simp [hv, hrec hp hw hv]
      · simp [hv]

/-- Indicators that stand as the state calls for stay. -/
theorem refresh_of_law {s : State} (h : IndicatorLaw s) : s.refresh = s := by
  have hstat := statPattern_of_law h.1
  have hflt := fltLevel_of_law h.2
  simp [refresh, judgeStat, hstat, hflt]

/-! ## A station that does not operate and does not load -/

/-- Another view of the line. -/
def lineSeen (s : State) (busy receiving free : Bool) : State :=
  { s with bus := { s.bus with lineBusy := busy, receiving := receiving, free := free } }

theorem live_of_not_operating {s : State} (h : s.operating = false) : s.live = false := by
  simp [live, h]

theorem takesPart_operating {s : State} (h : s.takesPart = true) : s.operating = true := by
  simp only [takesPart, Bool.and_eq_true] at h
  exact h.1

theorem live_operating {s : State} (h : s.live = true) : s.operating = true := by
  simp only [live, Bool.and_eq_true] at h
  exact h.1

theorem live_warning {s : State} (h : s.live = true) : s.power.warning = false := by
  simp only [live, Bool.and_eq_true, Bool.not_eq_true'] at h
  exact h.2

/-- A station that neither operates nor loads only sees the line. -/
theorem lineSeen_of_acts {s u : State} {c : Instr} (hop : s.operating = false) (hload : s.loading = false)
    (h : s.Acts c u) : ∃ busy receiving free, u = s.lineSeen busy receiving free := by
  have hpart : ¬s.takesPart = true := fun h => by simp [takesPart_operating h] at hop
  have hlive : ¬s.live = true := fun h => by simp [live_operating h] at hop
  cases h with
  | frame hc hv =>
    cases hv with
    | aside => exact ⟨false, false, false, rfl⟩
    | own _ hp | clash _ hp | ignored _ hp | tool _ hp | inquiry _ hp | peer _ hp => exact absurd hp hpart
  | voidedAside | incompleteAside => exact ⟨false, false, false, rfl⟩
  | frameBreak => exact ⟨true, s.bus.receiving, false, by simp [seeBreak, hop, lineSeen]⟩
  | busFree => exact ⟨false, false, s.operating, rfl⟩
  | voidedOwn _ _ hp | voidedOther _ hp | addressClash hp | incomplete hp => exact absurd hp hpart
  | arbitrationLost _ ho | holdAtPeer _ _ ho | holdAtOwner _ _ ho | patienceOut _ _ ho | shedWaitOut _ _ ho | presenceOut ho
  | windowOut ho | syncOut ho | absenceReached _ ho | requestOut _ ho => simp [hop] at ho
  | renewalNeed _ hl | reqLevel _ _ hl | debounceOut _ hl | senseLevel _ _ hl | senseGraceOut _ hl | shedRestOut _ hl
  | inhLevel _ hl | inhAsserted hl | inhReleased hl | dwellOut _ _ _ _ _ hl | awaitOut _ _ _ _ _ _ hl | sampleOut hl =>
    exact absurd hl hlive
  | headerRead _ _ _ hl | readComplete _ hl | attemptFails _ _ hl | clockStretch _ _ _ _ hl | retryElapsed hl =>
    simp [hload] at hl

theorem not_operating_of_halted {s : State} (h : s.member.state = .halted) :
    s.operating = false ∧ s.loading = false := by
  simp [operating, loading, h, MState.applies]

/-- What a HALTED station holds. -/
structure heldHalted (s t : State) : Prop where
  member : t.member = s.member
  channels : t.channels = s.channels
  starts : t.starts = s.starts
  draws : t.draws = s.draws
  queue : t.queue = s.queue
  engine : t.engine = s.engine
  retention : t.retention = s.retention
  history : t.history = s.history
  faults : t.faults = s.faults
  answer : t.answer = s.answer
  loader : t.loader = s.loader
  inh : t.inh = s.inh
  power : t.power = s.power
  bus : ∃ busy receiving free, t.bus = { s.bus with lineBusy := busy, receiving := receiving, free := free }
  indicators : IndicatorLaw s → t.indicators = s.indicators

theorem heldHalted_refl (s : State) : s.heldHalted s :=
  ⟨rfl, rfl, rfl, rfl, rfl, rfl, rfl, rfl, rfl, rfl, rfl, rfl, rfl, ⟨_, _, _, rfl⟩, fun _ => rfl⟩

theorem heldHalted_lineSeen {s : State} (hop : s.operating = false) (a b c : Bool) :
    s.heldHalted (s.lineSeen a b c).finish := by
  have hlive : (s.lineSeen a b c).live = false := live_of_not_operating hop
  rw [finish_of_not_live hlive]
  let v : State := { s.lineSeen a b c with notice := false }
  have hlaw (h : IndicatorLaw s) : v.refresh.indicators = s.indicators :=
    congrArg (·.indicators) (refresh_of_law (s := v) h)
  constructor
  case indicators => exact hlaw
  all_goals simp [lineSeen]

theorem heldHalted_of_exec {c : Instr} {s t : State} (h : exec c s = .next t) (hr : resets c = false)
    (hhalt : s.member.state = .halted) : s.heldHalted t := by
  obtain ⟨hop, hload⟩ := not_operating_of_halted hhalt
  cases runs_of_exec h hr with
  | nothing => exact heldHalted_refl s
  | pinTaken p => exact { heldHalted_refl s with }
  | acts ha =>
    obtain ⟨a, b, c, rfl⟩ := lineSeen_of_acts hop hload ha
    exact heldHalted_lineSeen hop a b c

end State

end Sys2Proof.Machine
end

section
/-!
In the power-fail warning the channels, the engine and the retention domain are held, and no frame is begun (R82, R121).
-/

namespace Sys2Proof.Machine

open Sys2Proof

namespace State

theorem live_of_warning {s : State} (h : s.power.warning = true) : s.live = false := by
  simp [live, h]

theorem loading_of_warning {s : State} (h : s.power.warning = true) : s.loading = false := by
  simp [loading, h]

/-- In the power-fail warning channels and engine are held, and no frame is begun. -/
structure warnHolds (s t : State) : Prop where
  power : t.power = s.power
  held : s.power.warning = true → t.channels = s.channels ∧ t.engine = s.engine ∧ (t.bus.tx = s.bus.tx ∨ t.bus.tx = none)

theorem warnHolds.trans {s t u : State} (h : s.warnHolds t) (k : t.warnHolds u) : s.warnHolds u := by
  obtain ⟨hp, h⟩ := h
  obtain ⟨kp, k⟩ := k
  refine ⟨kp.trans hp, fun hw => ?_⟩
  obtain ⟨hc, he, ht⟩ := h hw
  obtain ⟨kc, ke, kt⟩ := k (by rw [hp]; exact hw)
  refine ⟨kc.trans hc, ke.trans he, ?_⟩
  rcases kt with kt | kt
  · rw [kt]; exact ht
  · exact .inr kt

theorem warnHolds_of_eq {s t : State} (hp : t.power = s.power) (hc : t.channels = s.channels) (he : t.engine = s.engine)
    (hb : t.bus.tx = s.bus.tx) : s.warnHolds t := ⟨hp, fun _ => ⟨hc, he, .inl hb⟩⟩

/-- What is done only while the channels act is not done in the warning. -/
theorem warnHolds_ite {s t u v : State} {p : Prop} [Decidable p] (hl : p → v.live = true) (hv : v.power = s.power)
    (ht : t.power = s.power) (hu : s.warnHolds u) : s.warnHolds (if p then t else u) := by
  split
  · next hp =>
    refine ⟨ht, fun hw => ?_⟩
    have hlive := hl hp
    rw [live_of_warning (hv ▸ hw)] at hlive
    cases hlive
  · exact hu

theorem warnHolds_ownHoldOut (s : State) (c : Chan) (q : Seq) : s.warnHolds (s.ownHoldOut c q) := by
  unfold ownHoldOut
  refine warnHolds_ite (v := s) (fun h => ?_) rfl (by simp) (warnHolds_of_eq rfl rfl rfl rfl)
  simp only [Bool.and_eq_true] at h
  exact h.1.1

theorem warnHolds_runOut (s : State) (a : Addr) (c : Chan) (q : Seq) : s.warnHolds (s.runOut a c q) := by
  unfold runOut
  split
  · exact warnHolds.trans (t := s.modStarts _ _) (warnHolds_of_eq rfl rfl rfl rfl) (warnHolds_ownHoldOut _ _ _)
  · exact warnHolds_of_eq rfl rfl rfl rfl

theorem warnHolds_claimVerdict (s : State) (t : TxFrame) (p : ClaimPayload) (v : Judgement) :
    s.warnHolds (s.claimVerdict t p v) := by
  refine ⟨by simp, fun hw => ?_⟩
  unfold claimVerdict
  dsimp only
  split <;> rw [if_neg (by rw [live_of_warning (by exact hw)]; exact Bool.false_ne_true)] <;>
    exact ⟨rfl, rfl, .inl rfl⟩

theorem warnHolds_recountStart (s : State) (a : Addr) (p : RecountPayload) : s.warnHolds (s.recountStart a p) := by
  have hrun (t : State) (ht : s.warnHolds t) : s.warnHolds (if p.hold = 0 then t.runOut a p.ch p.seq else t) := by
    split
    · exact ht.trans (warnHolds_runOut _ _ _ _)
    · exact ht
  unfold recountStart
  split
  · exact warnHolds_of_eq rfl rfl rfl rfl
  · split
    · refine hrun _ ?_
      split <;> exact warnHolds_of_eq rfl rfl rfl rfl
    · split
      · exact hrun _ (warnHolds_of_eq rfl rfl rfl rfl)
      · exact warnHolds_of_eq rfl rfl rfl rfl

theorem warnHolds_selfCleared (s : State) : s.warnHolds s.selfCleared := by
  unfold selfCleared
  refine warnHolds_ite (v := s.dropOwner s.own false) (fun h => ?_) (by simp) (by simp)
    (warnHolds_of_eq (by simp) (by simp) (by simp) (by simp))
  simp only [Bool.and_eq_true] at h
  exact h.1

theorem warnHolds_selfAbsent (s : State) (a : Addr) : s.warnHolds (s.selfAbsent a) := by
  rw [selfAbsent_eq]
  refine (warnHolds_selfCleared s).trans ?_
  dsimp only
  split <;> exact warnHolds_of_eq (by simp) (by simp) (by simp) (by simp)

/-- The Start Table after the judgement of a CLAIM: an admitted one is entered at its tail (R9). -/
def claimTabled (s : State) (a : Addr) (p : ClaimPayload) : State :=
  if s.admissionTest a p.ch p.urgency p.inrush.val p.draw.val = .admitted then
    ({ s with starts := s.starts ++ [claimEntry a p] } : State).notify
  else s

theorem applyClaim_eq (a : Addr) (p : ClaimPayload) (own : Option TxFrame) (s : State) :
    applyClaim a p own s =
      if p.inrush = 0 ∨ p.hold = 0 then
        match own with
        | some t => if s.live then s.claimVoided t p.ch else s
        | none => s
      else
        match own with
        | some t =>
          (s.claimTabled a p).claimVerdict t p (s.admissionTest a p.ch p.urgency p.inrush.val p.draw.val)
        | none => s.claimTabled a p := by
  cases own <;> rfl

@[simp] theorem claimTabled_keeps (s : State) (a : Addr) (p : ClaimPayload) :
    (s.claimTabled a p).pending = s.pending ∧ (s.claimTabled a p).pins = s.pins ∧ (s.claimTabled a p).power = s.power
      ∧ (s.claimTabled a p).retention = s.retention ∧ (s.claimTabled a p).history = s.history
      ∧ (s.claimTabled a p).draws = s.draws ∧ (s.claimTabled a p).queue = s.queue
      ∧ (s.claimTabled a p).channels = s.channels ∧ (s.claimTabled a p).inh = s.inh
      ∧ (s.claimTabled a p).engine = s.engine ∧ (s.claimTabled a p).member = s.member
      ∧ (s.claimTabled a p).bus = s.bus ∧ (s.claimTabled a p).loader = s.loader
      ∧ (s.claimTabled a p).faults = s.faults ∧ (s.claimTabled a p).answer = s.answer := by
  unfold claimTabled
  split <;> simp

theorem warnHolds_applyClaim (a : Addr) (p : ClaimPayload) (own : Option TxFrame) (s : State) :
    s.warnHolds (applyClaim a p own s) := by
  have htab : s.warnHolds (s.claimTabled a p) := warnHolds_of_eq (by simp) (by simp) (by simp) (by simp)
  rw [applyClaim_eq]
  cases own with
  | none => dsimp only; split <;> simp only [htab, warnHolds_of_eq]
  | some t =>
    dsimp only
    split
    · exact warnHolds_ite (v := s) id rfl (by simp) (warnHolds_of_eq rfl rfl rfl rfl)
    · exact htab.trans (warnHolds_claimVerdict _ _ _ _)

/-! ## The parts of a SHED_CALL -/

/-- At the caller the outstanding call ends (R34). -/
def callEnded (s : State) (p : ShedCallPayload) (own : Option TxFrame) : State :=
  if own.isSome then s.endCall p.callSeq else s

/-- The numbers of the slots in the shed set of a call (R36). -/
def shedNumbers (s : State) (p : ShedCallPayload) : List Nat :=
  (shedSet s.draws p.callerUrgency p.shortfall.val).map (·.1)

/-- The slots of the shed set marked (R37). -/
def slotsMarked (s : State) (a : Addr) (p : ShedCallPayload) : State :=
  s.markSlots (s.shedNumbers p) { caller := a, callSeq := p.callSeq }

/-- The station's own ON channels in the shed set are shed (R38). -/
def ownShed (s : State) (numbers : List Nat) : State :=
  if s.live then (allChans.filter fun c => decide (slotNo s.own c ∈ numbers)).foldl (fun s c => s.shedChannel c) s else s

/-- The notice that new marks give (R42). -/
def marksNoticed (s : State) (numbers : List Nat) : State := if numbers.isEmpty then s else s.notify

/-- At the caller the queue entry is told (R39). -/
def callerTold (s : State) (own : Option TxFrame) : State :=
  match own with
  | some t => s.callAnswered t
  | none => s

/-- The effects of a SHED_CALL that sheds, in their order. -/
def shedCalled (s : State) (a : Addr) (p : ShedCallPayload) (own : Option TxFrame) : State :=
  (((s.slotsMarked a p).ownShed (s.shedNumbers p)).marksNoticed (s.shedNumbers p)).callerTold own

theorem applyShedCall_eq (a : Addr) (p : ShedCallPayload) (own : Option TxFrame) (s : State) :
    applyShedCall a p own s =
      if p.callerUrgency ≠ 0 ∨ p.shortfall = 0 then s.callEnded p own else (s.callEnded p own).shedCalled a p own := by
  cases own <;> rfl

@[simp] theorem callEnded_keeps (s : State) (p : ShedCallPayload) (own : Option TxFrame) :
    (s.callEnded p own).pending = s.pending ∧ (s.callEnded p own).pins = s.pins ∧ (s.callEnded p own).power = s.power
      ∧ (s.callEnded p own).retention = s.retention ∧ (s.callEnded p own).history = s.history
      ∧ (s.callEnded p own).starts = s.starts ∧ (s.callEnded p own).draws = s.draws
      ∧ (s.callEnded p own).channels = s.channels ∧ (s.callEnded p own).inh = s.inh
      ∧ (s.callEnded p own).engine = s.engine ∧ (s.callEnded p own).member = s.member
      ∧ (s.callEnded p own).bus = s.bus ∧ (s.callEnded p own).loader = s.loader
      ∧ (s.callEnded p own).faults = s.faults ∧ (s.callEnded p own).notice = s.notice
      ∧ (s.callEnded p own).queue.entries = s.queue.entries := by
  unfold callEnded
  split <;> simp [endCall]

@[simp] theorem ownShed_keeps (s : State) (l : List Nat) :
    (s.ownShed l).pending = s.pending ∧ (s.ownShed l).pins = s.pins ∧ (s.ownShed l).power = s.power
      ∧ (s.ownShed l).retention = s.retention ∧ (s.ownShed l).history = s.history
      ∧ (s.ownShed l).starts = s.starts ∧ (s.ownShed l).draws = s.draws ∧ (s.ownShed l).inh = s.inh
      ∧ (s.ownShed l).engine = s.engine ∧ (s.ownShed l).member = s.member ∧ (s.ownShed l).loader = s.loader := by
  unfold ownShed
  split <;> simp

@[simp] theorem marksNoticed_keeps (s : State) (l : List Nat) :
    (s.marksNoticed l).pending = s.pending ∧ (s.marksNoticed l).pins = s.pins ∧ (s.marksNoticed l).power = s.power
      ∧ (s.marksNoticed l).retention = s.retention ∧ (s.marksNoticed l).history = s.history
      ∧ (s.marksNoticed l).starts = s.starts ∧ (s.marksNoticed l).draws = s.draws
      ∧ (s.marksNoticed l).channels = s.channels ∧ (s.marksNoticed l).inh = s.inh
      ∧ (s.marksNoticed l).engine = s.engine ∧ (s.marksNoticed l).member = s.member
      ∧ (s.marksNoticed l).bus = s.bus ∧ (s.marksNoticed l).loader = s.loader
      ∧ (s.marksNoticed l).faults = s.faults ∧ (s.marksNoticed l).queue = s.queue := by
  unfold marksNoticed
  split <;> simp

@[simp] theorem callerTold_keeps (s : State) (own : Option TxFrame) :
    (s.callerTold own).pending = s.pending ∧ (s.callerTold own).pins = s.pins ∧ (s.callerTold own).power = s.power
      ∧ (s.callerTold own).retention = s.retention ∧ (s.callerTold own).history = s.history
      ∧ (s.callerTold own).starts = s.starts ∧ (s.callerTold own).draws = s.draws
      ∧ (s.callerTold own).channels = s.channels ∧ (s.callerTold own).inh = s.inh
      ∧ (s.callerTold own).engine = s.engine ∧ (s.callerTold own).member = s.member
      ∧ (s.callerTold own).bus = s.bus ∧ (s.callerTold own).loader = s.loader
      ∧ (s.callerTold own).faults = s.faults ∧ (s.callerTold own).notice = s.notice := by
  cases own <;> simp [callerTold]

theorem warnHolds_ownShed (s : State) (l : List Nat) : s.warnHolds (s.ownShed l) :=
  warnHolds_ite (v := s) id rfl (by simp) (warnHolds_of_eq rfl rfl rfl rfl)

theorem warnHolds_applyShedCall (a : Addr) (p : ShedCallPayload) (own : Option TxFrame) (s : State) :
    s.warnHolds (applyShedCall a p own s) := by
  have hend : s.warnHolds (s.callEnded p own) := warnHolds_of_eq (by simp) (by simp) (by simp) (by simp)
  rw [applyShedCall_eq]
  split
  · exact hend
  · have hmark (u : State) : u.warnHolds (u.slotsMarked a p) := warnHolds_of_eq rfl rfl rfl rfl
    have hnote (u : State) (l : List Nat) : u.warnHolds ((u.marksNoticed l).callerTold own) :=
      warnHolds_of_eq (by simp) (by simp) (by simp) (by simp)
    exact ((hend.trans (hmark _)).trans (warnHolds_ownShed _ _)).trans (hnote _ _)

/-! ## The parts of the other Start Table and Draw Table frames -/

/-- What an accepted own frame does at its channel, while the channels act. -/
def atOwner (s : State) (own : Option TxFrame) (f : State → State) : State :=
  match own with
  | some _ => if s.live then f s else s
  | none => s

/-- The tables after a SETTLED: its entry moves to the slot of its pair (R22). -/
def settledMoved (s : State) (a : Addr) (p : SettledPayload) : State :=
  match s.namedEntry a p.ch p.seq with
  | some e => ((s.dropStarts fun e => e.isNamed a p.ch p.seq).fillSlot a p.ch (settledSlot e)).notify
  | none => s

/-- The Draw Table after a STOPPED: its slot empties (R31). -/
def slotStopped (s : State) (a : Addr) (c : Chan) : State :=
  match s.drawSlot a c with
  | some _ => (s.emptySlot a c).notify
  | none => s

theorem applyRenew_atOwner (a : Addr) (p : RenewPayload) (own : Option TxFrame) (s : State) :
    applyRenew a p own s = (s.modStarts (fun e => e.isNamed a p.ch p.seq) (renewEntry p.count)).atOwner own
      fun u => u.ownRenewed p.ch p.count (s.renewIsApplied a p) := by
  cases own <;> rfl

theorem applySettled_atOwner (a : Addr) (p : SettledPayload) (own : Option TxFrame) (s : State) :
    applySettled a p own s = (s.settledMoved a p).atOwner own fun u => u.ownSettled p.ch := by
  cases own <;> rfl

theorem applyAbandoned_atOwner (a : Addr) (p : AbandonedPayload) (own : Option TxFrame) (s : State) :
    applyAbandoned a p own s = (s.dropNamed a p.ch p.seq).atOwner own fun u => u.clearRelease p.ch := by
  cases own <;> rfl

theorem applyStopped_atOwner (a : Addr) (p : StoppedPayload) (own : Option TxFrame) (s : State) :
    applyStopped a p own s = (s.slotStopped a p.ch).atOwner own fun u => u.clearRelease p.ch := by
  cases own <;> rfl

@[simp] theorem settledMoved_keeps (s : State) (a : Addr) (p : SettledPayload) :
    (s.settledMoved a p).pending = s.pending ∧ (s.settledMoved a p).pins = s.pins
      ∧ (s.settledMoved a p).power = s.power ∧ (s.settledMoved a p).retention = s.retention
      ∧ (s.settledMoved a p).history = s.history ∧ (s.settledMoved a p).queue = s.queue
      ∧ (s.settledMoved a p).channels = s.channels ∧ (s.settledMoved a p).inh = s.inh
      ∧ (s.settledMoved a p).engine = s.engine ∧ (s.settledMoved a p).member = s.member
      ∧ (s.settledMoved a p).bus = s.bus ∧ (s.settledMoved a p).loader = s.loader
      ∧ (s.settledMoved a p).faults = s.faults ∧ (s.settledMoved a p).answer = s.answer := by
  unfold settledMoved
  split <;> simp

@[simp] theorem slotStopped_keeps (s : State) (a : Addr) (c : Chan) :
    (s.slotStopped a c).pending = s.pending ∧ (s.slotStopped a c).pins = s.pins
      ∧ (s.slotStopped a c).power = s.power ∧ (s.slotStopped a c).retention = s.retention
      ∧ (s.slotStopped a c).history = s.history ∧ (s.slotStopped a c).queue = s.queue
      ∧ (s.slotStopped a c).channels = s.channels ∧ (s.slotStopped a c).inh = s.inh
      ∧ (s.slotStopped a c).engine = s.engine ∧ (s.slotStopped a c).member = s.member
      ∧ (s.slotStopped a c).bus = s.bus ∧ (s.slotStopped a c).loader = s.loader
      ∧ (s.slotStopped a c).faults = s.faults ∧ (s.slotStopped a c).answer = s.answer
      ∧ (s.slotStopped a c).starts = s.starts := by
  unfold slotStopped
  split <;> simp

theorem warnHolds_atOwner {s u : State} (own : Option TxFrame) (f : State → State) (h : s.warnHolds u)
    (hf : (f u).power = u.power) : s.warnHolds (u.atOwner own f) := by
  cases own with
  | none => exact h
  | some => exact h.trans (warnHolds_ite (v := u) id rfl hf (warnHolds_of_eq rfl rfl rfl rfl))

/-- An EXPIRE removes the entry it names; the owner then acts at its channel (R24, R25). -/
theorem applyExpire_eq (a : Addr) (p : ExpirePayload) (own : Option TxFrame) (s : State) :
    applyExpire a p own s =
      if (s.namedEntry p.owner p.ch p.seq).isSome = true ∧ p.owner = s.own ∧ s.live = true then
        (s.dropNamed p.owner p.ch p.seq).ownEntryExpired p.ch p.seq a
      else s.dropNamed p.owner p.ch p.seq := by
  have hown : (s.dropNamed p.owner p.ch p.seq).own = s.own := by simp [State.own]
  have hlive : (s.dropNamed p.owner p.ch p.seq).live = s.live := by simp [live, operating]
  unfold applyExpire
  split
  · next e he =>
    have hdrop : s.dropNamed p.owner p.ch p.seq = (s.dropStarts fun e => e.isNamed p.owner p.ch p.seq).notify := by
      simp [dropNamed, he]
    rw [← hown, ← hlive, hdrop]
    simp [he]
  · next he => simp [dropNamed, he]

theorem warnHolds_applyExpire (a : Addr) (p : ExpirePayload) (own : Option TxFrame) (s : State) :
    s.warnHolds (applyExpire a p own s) := by
  rw [applyExpire_eq]
  exact warnHolds_ite (v := s) (fun h => h.2.2) rfl (by simp) (warnHolds_of_eq (by simp) (by simp) (by simp) (by simp))

/-- The effects of an accepted frame hold channels and engine in the warning. -/
theorem warnHolds_frameBody {c : Instr} {rx : Rx} {f : Frame} {body : Option TxFrame → State → State}
    (h : frameBody c = some (rx, f, body)) (own : Option TxFrame) (u : State) : u.warnHolds (body own u) := by
  cases c with
  | claim rx p => cases h; exact warnHolds_applyClaim _ _ _ _
  | renew rx p =>
    cases h
    rw [applyRenew_atOwner]
    exact warnHolds_atOwner _ _ (warnHolds_of_eq rfl rfl rfl rfl) (by simp)
  | settled rx p =>
    cases h
    rw [applySettled_atOwner]
    exact warnHolds_atOwner _ _ (warnHolds_of_eq (by simp) (by simp) (by simp) (by simp)) (by simp)
  | abandoned rx p =>
    cases h
    rw [applyAbandoned_atOwner]
    exact warnHolds_atOwner _ _ (warnHolds_of_eq (by simp) (by simp) (by simp) (by simp)) (by simp)
  | expire rx p => cases h; exact warnHolds_applyExpire _ _ _ _
  | stopped rx p =>
    cases h
    rw [applyStopped_atOwner]
    exact warnHolds_atOwner _ _ (warnHolds_of_eq (by simp) (by simp) (by simp) (by simp)) (by simp)
  | shedCall rx p => cases h; exact warnHolds_applyShedCall _ _ _ _
  | hello rx p =>
    cases h
    unfold applyHello
    dsimp only
    cases own <;> dsimp only <;> repeat' split
    all_goals exact warnHolds_of_eq (by simp) (by simp) (by simp) (by simp)
  | presence rx p =>
    cases h
    unfold applyPresence
    cases own with
    | some => exact warnHolds_of_eq rfl rfl rfl rfl
    | none =>
      dsimp only
      split <;> exact warnHolds_of_eq (by simp) (by simp) (by simp) (by simp)
  | syncReq rx a =>
    cases h
    unfold applySyncReq
    dsimp only
    repeat' split
    all_goals exact warnHolds_of_eq (by simp) (by simp) (by simp) (by simp)
  | recount rx p =>
    cases h
    rw [applyRecount_eq]
    have hcount : u.warnHolds (u.recountCounted rx.sender p.ch own) :=
      warnHolds_of_eq (by simp) (by simp) (by simp) (by simp)
    split
    · exact hcount.trans (warnHolds_of_eq (by simp) (by simp) (by simp) (by simp))
    · exact hcount.trans (warnHolds_recountStart _ _ _)
  | recountEnd rx n =>
    cases h
    unfold applyRecountEnd
    cases own <;> exact warnHolds_of_eq (by simp) (by simp) (by simp) (by simp)
  | absent rx a =>
    cases h
    unfold applyAbsent
    split
    · exact warnHolds_of_eq rfl rfl rfl rfl
    · split
      · exact warnHolds_selfAbsent _ _
      · exact warnHolds_of_eq (by simp) (by simp) (by simp) (by simp)
  | inquire rx p =>
    cases h
    unfold applyInquire
    dsimp only
    repeat' split
    all_goals exact warnHolds_of_eq rfl rfl rfl rfl
  | answer => cases h; cases own <;> exact warnHolds_of_eq rfl rfl rfl rfl
  | toolFrameReject => cases h; exact warnHolds_of_eq rfl rfl rfl rfl
  | _ => cases h

end State

end Sys2Proof.Machine
end

section
/-!
What a HALTED station and one in the power-fail warning hold (R4, R82, R121).
-/

namespace Sys2Proof.Machine

open Sys2Proof

/-- A channel record without its timers, its outputs at off level. -/
def Channel.stopped (k : Channel) : Channel :=
  { k with debounceTimer := none, senseGrace := none, shedRest := none, pre := false, main := false }

namespace State

/-- What an accepted own frame does leaves the transmit slot. -/
@[simp] theorem ownAccepted_tx (s : State) (acked : Bool) : (s.ownAccepted acked).bus.tx = s.bus.tx := by
  unfold ownAccepted
  dsimp only
  split <;> simp [tally]

/-- What the power-fail warning holds: channels but for their timers and outputs, engine, retention domain, line. -/
structure warned (s t : State) : Prop where
  engine : t.engine = s.engine
  tx : s.bus.tx = none → t.bus.tx = none
  chans : ∀ d, (outsAreOff (s.chan d) → outsAreOff (t.chan d)) ∧ (t.chan d).stopped = (s.chan d).stopped

theorem warned_refl (s : State) : s.warned s := ⟨rfl, id, fun _ => ⟨id, rfl⟩⟩

theorem warned_of_warnHolds {s t : State} (h : s.warnHolds t) (hw : s.power.warning = true) : s.warned t := by
  obtain ⟨hc, he, ht⟩ := h.held hw
  refine ⟨he, fun hn => ?_, fun d => ?_⟩
  · rcases ht with ht | ht
    · rw [ht, hn]
    · exact ht
  · rw [chan_of_channels hc d]
    exact ⟨id, rfl⟩

theorem warned.after {s t u : State} (h : t.warned u) (hc : t.channels = s.channels) (he : t.engine = s.engine)
    (hb : t.bus.tx = s.bus.tx ∨ t.bus.tx = none) : s.warned u := by
  obtain ⟨ke, kt, kc⟩ := h
  refine ⟨ke.trans he, fun hn => kt ?_, fun d => ?_⟩
  · rcases hb with hb | hb
    · rw [hb, hn]
    · exact hb
  · rw [← chan_of_channels hc d]
    exact kc d

theorem warned_enterHalted (s : State) : s.warned s.enterHalted := by
  refine ⟨rfl, fun _ => rfl, fun d => ?_⟩
  simp [enterHalted, chan, outsAreOff, Channel.stopped]

theorem warnHolds_yieldsLine (s : State) : s.warnHolds s.yieldsLine := by
  refine ⟨by simp, fun hw => ?_⟩
  unfold yieldsLine
  split
  · unfold ownLost
    dsimp only
    rw [if_pos (by exact hw)]
    exact ⟨rfl, rfl, .inr rfl⟩
  · exact ⟨rfl, rfl, .inl rfl⟩

theorem warnHolds_loseArbitration (s : State) (t : TxFrame) : s.warnHolds (s.loseArbitration t) := by
  refine ⟨by simp, fun hw => ?_⟩
  unfold loseArbitration ownLost
  dsimp only
  rw [if_pos (by exact hw)]
  exact ⟨rfl, rfl, .inr rfl⟩

theorem warned_meetClash {s : State} (hw : s.power.warning = true) : s.warned s.meetClash := by
  have hy := warned_of_warnHolds (warnHolds_yieldsLine s) hw
  rw [meetClash_eq]
  dsimp only
  split
  · obtain ⟨hc, he, ht⟩ := (warnHolds_yieldsLine s).held hw
    exact (warned_enterHalted _).after (by simpa using hc) (by simp) (by simpa using ht)
  · exact { hy with }

theorem warnHolds_listens {s u : State} (h : s.listens u) : s.warnHolds u := by
  rcases h with ⟨-, rfl⟩ | ⟨t, -, rfl⟩
  · exact warnHolds_of_eq rfl rfl rfl rfl
  · exact warnHolds_loseArbitration s t

theorem Receives.warned {s v : State} {rx : Rx} {f : Frame} {body : Option TxFrame → State → State}
    (hv : s.Receives rx f body v) (hbody : ∀ own (u : State), u.warnHolds (body own u)) (hw : s.power.warning = true) :
    s.warned v := by
  cases hv with
  | aside => exact warned_refl s
  | own t =>
    have hacc : s.warnHolds (s.clearTx.ownAccepted rx.acked) :=
      ⟨by simp, fun _ => ⟨by simp, by simp, .inr (by rw [ownAccepted_tx]; rfl)⟩⟩
    exact warned_of_warnHolds (hacc.trans (hbody _ _)) hw
  | clash => exact warned_meetClash hw
  | ignored _ _ hu => exact warned_of_warnHolds (warnHolds_listens hu) hw
  | tool u _ hu =>
    exact warned_of_warnHolds ((warnHolds_listens hu).trans (warnHolds_of_eq rfl rfl rfl rfl)) hw
  | inquiry u _ hu => exact warned_of_warnHolds ((warnHolds_listens hu).trans (hbody _ _)) hw
  | peer u _ hu =>
    have hhear : u.warnHolds (u.hearPeer rx.sender (isHello f)) := warnHolds_of_eq (by simp) (by simp) (by simp) (by simp)
    exact warned_of_warnHolds (((warnHolds_listens hu).trans hhear).trans (hbody _ _)) hw

theorem warnHolds_ownVoided (s : State) (t : TxFrame) : s.warnHolds (s.ownVoided t) := by
  refine ⟨by simp, fun hw => ?_⟩
  unfold ownVoided
  dsimp only
  generalize hu : tally s.clearTx _ = u
  have hpow : u.power = s.power := by rw [← hu]; rfl
  have hlive : u.live = false := live_of_warning (hpow ▸ hw)
  have hold : u.channels = s.channels ∧ u.engine = s.engine ∧ u.bus.tx = none := by rw [← hu]; exact ⟨rfl, rfl, rfl⟩
  obtain ⟨hc, he, ht⟩ := hold
  cases t.frame with
  | claim | renew => simp [hlive, hc, he, ht]
  | settled => simp [hlive, hc, he, ht, releaseVoided]
  | abandoned | stopped => simp [hc, he, ht, releaseVoided]
  | shedCall | syncReq | hello | answer => simp [hc, he, ht]
  | _ => exact ⟨hc, he, .inr ht⟩

theorem warnHolds_foundIncomplete (s : State) : s.warnHolds s.foundIncomplete := by
  have hy := warnHolds_yieldsLine s
  have heq : s.foundIncomplete =
      if s.yieldsLine.countObjection.member.state.joinedUp then s.yieldsLine.countObjection.enterSyncing .all
      else s.yieldsLine.countObjection := rfl
  rw [heq]
  split <;> exact hy.trans (warnHolds_of_eq (by simp) (by simp) (by simp) (by simp))

theorem warnHolds_otherVoided (s : State) (raw : RawFrame) : s.warnHolds (s.otherVoided raw) := by
  unfold otherVoided
  split
  · exact warnHolds_foundIncomplete s
  · split <;> exact warnHolds_of_eq (by simp) (by simp) (by simp) (by simp)

theorem warnHolds_seeBreak (s : State) : s.warnHolds s.seeBreak := by
  refine ⟨by simp, fun hw => ?_⟩
  have hsel : s.select = s := select_of_not_live (live_of_warning hw)
  unfold seeBreak
  rw [hsel, ite_self]
  dsimp only
  split
  · split <;> exact ⟨rfl, rfl, .inl rfl⟩
  · exact ⟨rfl, rfl, .inl rfl⟩

theorem warned_of_acts {s u : State} {c : Instr} (h : s.Acts c u) (hw : s.power.warning = true) : s.warned u := by
  have hlive : ¬s.live = true := by simp [live_of_warning hw]
  have hload : ¬s.loading = true := by simp [loading_of_warning hw]
  have hends {v : State} (hv : s.warned v) : s.warned v.frameEnds := { hv with }
  have hholds {v : State} (hv : s.warnHolds v) : s.warned v := warned_of_warnHolds hv hw
  cases h with
  | frame hc hv => exact hends (hv.warned (warnHolds_frameBody hc) hw)
  | voidedAside | incompleteAside => exact hends (warned_refl s)
  | voidedOwn _ t => exact hends (hholds (warnHolds_ownVoided s t))
  | voidedOther raw => exact hends (hholds (warnHolds_otherVoided s raw))
  | arbitrationLost t => exact hholds (warnHolds_loseArbitration s t)
  | addressClash => exact warned_meetClash hw
  | incomplete => exact hends (hholds (warnHolds_foundIncomplete s))
  | frameBreak => exact hholds (warnHolds_seeBreak s)
  | busFree => exact { warned_refl s with }
  | holdAtOwner c e =>
    have hend : s.warnHolds (s.holdEnds s.own c false) := warnHolds_of_eq rfl rfl rfl rfl
    exact hholds (hend.trans (warnHolds_ownHoldOut _ _ _))
  | presenceOut => exact hholds (warnHolds_of_eq rfl rfl rfl rfl)
  | holdAtPeer | patienceOut | shedWaitOut | windowOut | syncOut | absenceReached | requestOut =>
    exact hholds (warnHolds_of_eq (by simp) (by simp) (by simp) (by simp))
  | renewalNeed _ hl | reqLevel _ _ hl | debounceOut _ hl | senseLevel _ _ hl | senseGraceOut _ hl | shedRestOut _ hl
  | inhLevel _ hl | inhAsserted hl | inhReleased hl | dwellOut _ _ _ _ _ hl | awaitOut _ _ _ _ _ _ hl | sampleOut hl =>
    exact absurd hl hlive
  | headerRead _ _ _ hl | readComplete _ hl | attemptFails _ _ hl | clockStretch _ _ _ _ hl | retryElapsed hl =>
    exact absurd hl hload

theorem warned_of_exec {c : Instr} {s t : State} (h : exec c s = .next t) (hr : resets c = false)
    (hw : s.power.warning = true) : s.warned t := by
  cases runs_of_exec h hr with
  | nothing => exact warned_refl s
  | pinTaken => exact { warned_refl s with }
  | @acts u ha =>
    have hu := warned_of_acts ha hw
    have hpow := (keepsFor_of_acts ha).power
    rw [finish_of_not_live (live_of_warning (hpow ▸ hw))]
    have hchan (d : Chan) : (({ u with notice := false } : State).refresh).chan d = u.chan d := chan_of_channels (by simp) d
    obtain ⟨he, ht, hc⟩ := hu
    refine ⟨by simpa using he, by simpa using ht, fun d => ?_⟩
    rw [hchan]
    exact hc d

end State

/-- Settles O55: a station that neither operates nor loads only sees the line, and in the warning each operation on channels
and engine asks whether they act. -/
theorem haltedAndWarnedStationsHold : Obligations.HaltedAndWarnedStationsHold := by
  intro c s t h hr hrun
  refine ⟨fun hhalt => ?_, fun hw => ?_⟩
  · obtain ⟨hm, hc, hst, hdr, hq, he, hre, hhi, hfa, han, hlo, hinh, hp, ⟨_, _, _, hb⟩, hind⟩ :=
      State.heldHalted_of_exec h hr hhalt
    exact ⟨hm, hc, hst, hdr, hq, he, hre, hhi, hfa, han, hlo, hinh, hp, by rw [hb], by rw [hb], by rw [hb], by rw [hb],
      by rw [hb], hind⟩
  · obtain ⟨he, ht, hc⟩ := State.warned_of_exec h hr hw
    have hkeep := State.keepsFor_of_exec h hr
    have hsample : t.retention = s.retention := by
      by_cases hsam : c = .sampleTimerRunsOut
      · subst hsam
        cases h
        simp [State.live_of_warning hw]
      · exact hkeep.retention hsam
    exact ⟨hkeep.power, he, hsample, ht, hc⟩

end Sys2Proof.Machine
end

section
/-!
Every operation keeps the canonical form of the tables held as lists.
-/

namespace Sys2Proof.Machine

open Sys2Proof

/-- Where a record is listed after a record was put into a table. -/
theorem mem_of_mem_slotPut {α : Type} (t : List (Nat × α)) (n : Nat) (x : α) (kv : Nat × α) (h : kv ∈ slotPut t n x) :
    kv = (n, x) ∨ kv ∈ t := by
  induction t with
  | nil => exact .inl (by simpa [slotPut] using h)
  | cons hd tl ih =>
    obtain ⟨k, v⟩ := hd
    unfold slotPut at h
    split at h
    · rcases List.mem_cons.mp h with h | h
      · exact .inl h
      · exact .inr (List.mem_cons_of_mem _ h)
    · split at h
      · rcases List.mem_cons.mp h with h | h
        · exact .inl h
        · exact .inr h
      · rcases List.mem_cons.mp h with h | h
        · exact .inr (h ▸ List.mem_cons_self)
        · exact (ih h).imp_right (List.mem_cons_of_mem _)

namespace State

theorem canonical_of_eq {s t : State} (h : TablesCanonical s) (hd : t.draws = s.draws)
    (hr : t.member.roster = s.member.roster) : TablesCanonical t := by
  unfold TablesCanonical
  rw [hd, hr]
  exact h

theorem canonical_modPeer {s : State} (h : TablesCanonical s) (a : Addr) (f : RosterSlot → RosterSlot) :
    TablesCanonical (s.modPeer a f) := by
  obtain ⟨hdraws, hroster, hlisted⟩ := h
  refine ⟨by simpa using hdraws, rosterRises_modPeer s a f hroster, fun kv hkv => ?_⟩
  rw [roster_modPeer] at hkv
  split at hkv
  · exact hlisted kv (List.mem_of_mem_filter hkv)
  · next hne =>
    rcases mem_of_mem_slotPut _ _ _ _ hkv with rfl | hkv
    · exact hne
    · exact hlisted kv hkv

theorem canonical_mapPeers {s : State} (h : TablesCanonical s) (f : Nat → RosterSlot → RosterSlot) :
    TablesCanonical (s.mapPeers f) :=
  ⟨by simpa using h.1, rosterRises_mapPeers s f h.2.1, rosterListed_mapPeers s f⟩

/-! ## What leaves the roster as it was -/

@[simp] theorem setMState_roster (s : State) (m : MState) : (s.setMState m).member.roster = s.member.roster := by
  simp [setMState]

@[simp] theorem judgeIsolated_roster (s : State) : s.judgeIsolated.member.roster = s.member.roster := by
  unfold judgeIsolated
  split <;> simp

@[simp] theorem judgeDiscord_roster (s : State) (a : Addr) : (s.judgeDiscord a).member.roster = s.member.roster := by
  unfold judgeDiscord
  dsimp only
  repeat' split
  all_goals simp

@[simp] theorem ownAccepted_roster (s : State) (acked : Bool) :
    (s.ownAccepted acked).member.roster = s.member.roster := by
  unfold ownAccepted
  dsimp only
  split <;> simp

@[simp] theorem beginRound_roster (s : State) : s.beginRound.member.roster = s.member.roster := rfl

@[simp] theorem requestAccepted_roster (s : State) (a : Addr) :
    (s.requestAccepted a).member.roster = s.member.roster := rfl

@[simp] theorem roundSent_roster (s : State) (c : Chan) : (s.roundSent c).member.roster = s.member.roster := rfl

@[simp] theorem helloVoided_roster (s : State) : s.helloVoided.member.roster = s.member.roster := by
  unfold helloVoided
  dsimp only
  split <;> simp

@[simp] theorem enterListen_roster (s : State) : s.enterListen.member.roster = s.member.roster := by
  simp [enterListen]

/-! ## Membership -/

/-- IN_STEP is entered and the sync bookkeeping ends (R132). -/
def steppedIn (s : State) : State :=
  { s.setMState .inStep with
    member.syncTimeout := none, member.listenWindow := none, member.ownAccepted := false, member.awaited := []
    history.joined := true }

theorem enterInStep_eq (s : State) : s.enterInStep = s.steppedIn.judgeSampling.markAbsentees.judgeIsolated := rfl

/-- SYNCING is entered with an own request (R143). -/
def syncEntered (s : State) (req : OwnRequest) : State :=
  { s.setMState .syncing with
    member.listenWindow := none
    member.ownRequest := some (if s.member.ownRequest = some .all then .all else req)
    member.ownVoids := 0, member.ownAccepted := false, member.awaited := []
    member.syncTimeout := some (2 * (s.setMState .syncing).presenceMs) }

theorem enterSyncing_eq (s : State) (req : OwnRequest) : s.enterSyncing req = (s.syncEntered req).markAbsentees := rfl

@[simp] theorem steppedIn_roster (s : State) : s.steppedIn.member.roster = s.member.roster := by
  simp [steppedIn]

@[simp] theorem syncEntered_roster (s : State) (req : OwnRequest) :
    (s.syncEntered req).member.roster = s.member.roster := by
  simp [syncEntered]

theorem canonical_enterInStep {s : State} (h : TablesCanonical s) : TablesCanonical s.enterInStep := by
  have hin : TablesCanonical s.steppedIn.judgeSampling := canonical_of_eq h (by simp [steppedIn]) (by simp)
  exact canonical_of_eq (canonical_mapPeers hin _) (by simp [enterInStep_eq]) (by simp [enterInStep_eq]; rfl)

theorem canonical_enterSyncing {s : State} (h : TablesCanonical s) (req : OwnRequest) :
    TablesCanonical (s.enterSyncing req) := by
  have hin : TablesCanonical (s.syncEntered req) := canonical_of_eq h (by simp [syncEntered]) (by simp)
  exact canonical_mapPeers hin _

theorem canonical_judgeExit {s : State} (h : TablesCanonical s) : TablesCanonical s.judgeExit := by
  unfold judgeExit
  split
  · exact canonical_enterInStep h
  · exact h

theorem canonical_judgeDiscord {s : State} (h : TablesCanonical s) (a : Addr) : TablesCanonical (s.judgeDiscord a) :=
  canonical_of_eq h (by simp) (by simp)

theorem canonical_notify {s : State} (h : TablesCanonical s) : TablesCanonical s.notify := h

/-- The slot of a peer just heard (R131). -/
def peerHeard (s : State) (a : Addr) : State := s.modPeer a fun x => { x with lastHeard := some 0, absentPending := false }

/-- A peer just heard becomes PRESENT, with a doubt or none (R131). -/
def peerJoins (s : State) (a : Addr) (doubt : Bool) : State :=
  ((s.modPeer a fun x => { x with state := .present, suspect := x.suspect || doubt }).notify).judgeDiscord a

theorem hearPeer_eq (s : State) (a : Addr) (hello : Bool) :
    s.hearPeer a hello =
      let u :=
        if (s.peer a).state = .present ∨ hello = true then s.peerHeard a
        else (s.peerHeard a).peerJoins a
          (decide ((s.peer a).state = .absent ∨ (s.peerHeard a).member.state.joinedUp = true))
      if u.member.state = .isolated then u.enterSyncing .all else u := rfl

theorem canonical_peerJoins {s : State} (h : TablesCanonical s) (a : Addr) (doubt : Bool) :
    TablesCanonical (s.peerJoins a doubt) :=
  canonical_judgeDiscord (canonical_notify (canonical_modPeer h _ _)) _

theorem canonical_hearPeer {s : State} (h : TablesCanonical s) (a : Addr) (hello : Bool) :
    TablesCanonical (s.hearPeer a hello) := by
  have hheard : TablesCanonical (s.peerHeard a) := canonical_modPeer h _ _
  rw [hearPeer_eq]
  dsimp only
  split <;> split
  · exact canonical_enterSyncing hheard _
  · exact hheard
  · exact canonical_enterSyncing (canonical_peerJoins hheard _ _) _
  · exact canonical_peerJoins hheard _ _

theorem canonical_ownAccepted {s : State} (h : TablesCanonical s) (acked : Bool) :
    TablesCanonical (s.ownAccepted acked) :=
  canonical_of_eq h (by simp) (by simp)

/-- A part of the draws and the roster with the timers of its slots stopped are in canonical form. -/
theorem canonical_enterHalted {s : State} (h : TablesCanonical s) : TablesCanonical s.enterHalted := by
  refine ⟨h.1, slotsRise_filter _ _ (slotsRise_slotMap _ _ h.2.1), fun kv hkv => ?_⟩
  simpa using (List.mem_filter.mp hkv).2

theorem canonical_meetClash {s : State} (h : TablesCanonical s) : TablesCanonical s.meetClash := by
  rw [meetClash_eq]
  dsimp only
  split
  · exact canonical_enterHalted (canonical_of_eq h (by simp) (by simp))
  · exact canonical_of_eq h (by simp) (by simp)

theorem canonical_listens {s u : State} (hu : s.listens u) (h : TablesCanonical s) : TablesCanonical u := by
  rcases hu with ⟨-, rfl⟩ | ⟨t, -, rfl⟩
  · exact h
  · exact canonical_of_eq h (by simp) (by simp)

theorem Receives.canonical {s v : State} {rx : Rx} {f : Frame} {body : Option TxFrame → State → State}
    (hv : s.Receives rx f body v) (hbody : ∀ own (u : State), TablesCanonical u → TablesCanonical (body own u))
    (h : TablesCanonical s) : TablesCanonical v := by
  cases hv with
  | aside => exact h
  | own => exact hbody _ _ (canonical_ownAccepted (s := s.clearTx) h _)
  | clash => exact canonical_meetClash h
  | ignored _ _ hu => exact canonical_listens hu h
  | tool u _ hu => exact canonical_of_eq (canonical_listens hu h) rfl rfl
  | inquiry u _ hu => exact hbody _ _ (canonical_listens hu h)
  | peer u _ hu => exact hbody _ _ (canonical_hearPeer (canonical_listens hu h) _ _)

/-! ## The tables -/

theorem canonical_filterDraws {s t : State} (h : TablesCanonical s) (p : Nat × DrawSlot → Bool)
    (hd : t.draws = s.draws.filter p) (hr : t.member.roster = s.member.roster) : TablesCanonical t := by
  unfold TablesCanonical
  rw [hd, hr]
  exact ⟨slotsRise_filter _ _ h.1, h.2⟩

theorem canonical_putDraws {s t : State} (h : TablesCanonical s) (n : Nat) (d : DrawSlot)
    (hd : t.draws = slotPut s.draws n d) (hr : t.member.roster = s.member.roster) : TablesCanonical t := by
  unfold TablesCanonical
  rw [hd, hr]
  exact ⟨slotsRise_slotPut _ _ _ h.1, h.2⟩

theorem dropOwner_draws (s : State) (a : Addr) (b : Bool) :
    (s.dropOwner a b).draws = s.draws.filter fun kv => !(ownedSlot a kv.1 && (!b || kv.2.unconfirmed)) := by
  unfold dropOwner
  dsimp only
  split <;> rfl

theorem dropOwner_starts (s : State) (a : Addr) (b : Bool) :
    (s.dropOwner a b).starts = s.starts.filter fun e => !(decide (e.owner = a) && (!b || e.unconfirmed)) := by
  unfold dropOwner
  dsimp only
  split <;> rfl

theorem canonical_dropOwner {s : State} (h : TablesCanonical s) (a : Addr) (b : Bool) :
    TablesCanonical (s.dropOwner a b) :=
  canonical_filterDraws h _ (dropOwner_draws s a b) (by simp)

theorem canonical_settledMoved {s : State} (h : TablesCanonical s) (a : Addr) (p : SettledPayload) :
    TablesCanonical (s.settledMoved a p) := by
  unfold settledMoved
  split
  · exact canonical_putDraws h _ _ rfl rfl
  · exact h

theorem canonical_slotStopped {s : State} (h : TablesCanonical s) (a : Addr) (c : Chan) :
    TablesCanonical (s.slotStopped a c) := by
  unfold slotStopped
  split
  · exact canonical_filterDraws h _ rfl rfl
  · exact h

theorem canonical_atOwner {s : State} (own : Option TxFrame) (f : State → State) (h : TablesCanonical s)
    (hd : (f s).draws = s.draws) (hm : (f s).member = s.member) : TablesCanonical (s.atOwner own f) := by
  unfold atOwner
  split
  · split
    · exact canonical_of_eq h hd (by rw [hm])
    · exact h
  · exact h

theorem canonical_ownHoldOut {s : State} (h : TablesCanonical s) (c : Chan) (q : Seq) :
    TablesCanonical (s.ownHoldOut c q) := canonical_of_eq h (by simp) (by simp)

theorem canonical_runOut {s : State} (h : TablesCanonical s) (a : Addr) (c : Chan) (q : Seq) :
    TablesCanonical (s.runOut a c q) := canonical_of_eq h (by simp) (by simp)

theorem canonical_countHeard {s : State} (h : TablesCanonical s) (a : Addr) : TablesCanonical (s.countHeard a) := by
  unfold countHeard
  split
  · split
    · exact canonical_modPeer h _ _
    · have hfree := canonical_modPeer h a fun x => { x with heard := Config.freeHeard s.freeCount }
      exact hfree
  · exact h

theorem canonical_recountCounted {s : State} (h : TablesCanonical s) (a : Addr) (c : Chan) (own : Option TxFrame) :
    TablesCanonical (s.recountCounted a c own) := by
  cases own with
  | none => exact canonical_countHeard h a
  | some => exact canonical_of_eq h (by simp) rfl

theorem canonical_recountDraw {s : State} (h : TablesCanonical s) (a : Addr) (p : RecountPayload) :
    TablesCanonical (s.recountDraw a p) := by
  rcases s.recountDraw_cases a p with heq | heq <;> rw [heq] <;> exact canonical_putDraws h _ _ rfl rfl

/-- What a RECOUNT of type START leaves of the Draw Table: all of it, or all but the pair's slot (R141). -/
theorem recountStart_draws (s : State) (a : Addr) (p : RecountPayload) :
    (s.recountStart a p).draws = s.draws ∨ (s.recountStart a p).draws = slotErase s.draws (slotNo a p.ch) := by
  unfold recountStart
  dsimp only
  split
  · exact .inl rfl
  · split
    · left
      split <;> split <;> simp
    · split
      · right
        split
        · simp
          rfl
        · rfl
      · exact .inl rfl

theorem canonical_recountStart {s : State} (h : TablesCanonical s) (a : Addr) (p : RecountPayload) :
    TablesCanonical (s.recountStart a p) := by
  rcases s.recountStart_draws a p with hd | hd
  · exact canonical_of_eq h hd (by simp)
  · exact canonical_filterDraws h _ hd (by simp)

theorem canonical_selfAbsent {s : State} (h : TablesCanonical s) (a : Addr) : TablesCanonical (s.selfAbsent a) := by
  have hdrop := canonical_dropOwner h s.own false
  have hclear : TablesCanonical s.selfCleared := by
    unfold selfCleared
    dsimp only
    split
    · exact canonical_of_eq hdrop (by simp) (by simp)
    · exact hdrop
  rw [selfAbsent_eq]
  dsimp only
  split
  · exact canonical_enterSyncing (canonical_of_eq hclear (by simp) (by simp)) _
  · exact canonical_of_eq hclear (by simp) (by simp)

theorem canonical_peerAbsent {s : State} (h : TablesCanonical s) (a : Addr) : TablesCanonical (s.peerAbsent a) := by
  have hgone := canonical_judgeExit
    (canonical_judgeDiscord (canonical_modPeer (canonical_dropOwner h a false) a absentSlot) a)
  unfold peerAbsent
  dsimp only
  split
  · exact h
  · split
    · exact canonical_notify hgone
    · exact hgone

theorem canonical_applyShedCall {s : State} (h : TablesCanonical s) (a : Addr) (p : ShedCallPayload)
    (own : Option TxFrame) : TablesCanonical (applyShedCall a p own s) := by
  have hend : TablesCanonical (s.callEnded p own) := canonical_of_eq h (by simp) (by simp)
  have hmark : TablesCanonical ((s.callEnded p own).slotsMarked a p) := by
    refine ⟨?_, hend.2⟩
    simp only [slotsMarked, markSlots]
    exact slotsRise_slotMap _ _ hend.1
  rw [applyShedCall_eq]
  split
  · exact hend
  · exact canonical_of_eq hmark (by simp [shedCalled]) (by simp [shedCalled])

theorem canonical_applyHello {s : State} (h : TablesCanonical s) (a : Addr) (p : HelloPayload) (own : Option TxFrame) :
    TablesCanonical (applyHello a p own s) := by
  have hdrop := canonical_dropOwner h a false
  have hpeer := canonical_judgeDiscord (canonical_modPeer hdrop a (helloSlot p)) a
  unfold applyHello
  cases own with
  | some => exact hdrop
  | none =>
    dsimp only
    split
    · exact canonical_judgeExit hpeer
    · exact canonical_judgeExit (canonical_notify hpeer)

theorem canonical_applySyncReq {s : State} (h : TablesCanonical s) (a : Addr) (own : Option TxFrame) :
    TablesCanonical (applySyncReq a own s) := by
  have hmark : TablesCanonical (s.markUnconfirmed a) := by
    refine ⟨?_, h.2⟩
    simp only [markUnconfirmed]
    exact slotsRise_slotMap _ _ h.1
  have howed : TablesCanonical ((s.markUnconfirmed a).markOwed a) := canonical_mapPeers hmark _
  unfold applySyncReq
  dsimp only
  split
  · exact h
  · refine canonical_judgeExit ?_
    split <;> split <;> exact canonical_of_eq howed (by simp) (by simp)

/-- The effects of an accepted frame keep the canonical form. -/
theorem canonical_frameBody {c : Instr} {rx : Rx} {f : Frame} {body : Option TxFrame → State → State}
    (hc : frameBody c = some (rx, f, body)) (own : Option TxFrame) (u : State) (h : TablesCanonical u) :
    TablesCanonical (body own u) := by
  cases c with
  | claim rx p =>
    cases hc
    rw [applyClaim_eq]
    cases own <;> dsimp only <;> repeat' split
    all_goals exact canonical_of_eq h (by simp) (by simp)
  | renew rx p =>
    cases hc
    rw [applyRenew_atOwner]
    exact canonical_atOwner _ _ h (by simp) (by simp)
  | settled rx p =>
    cases hc
    rw [applySettled_atOwner]
    exact canonical_atOwner _ _ (canonical_settledMoved h _ _) (by simp) (by simp)
  | abandoned rx p =>
    cases hc
    rw [applyAbandoned_atOwner]
    exact canonical_atOwner _ _ (canonical_of_eq h (by simp) (by simp)) rfl rfl
  | expire rx p =>
    cases hc
    rw [applyExpire_eq]
    split <;> exact canonical_of_eq h (by simp) (by simp)
  | stopped rx p =>
    cases hc
    rw [applyStopped_atOwner]
    exact canonical_atOwner _ _ (canonical_slotStopped h _ _) rfl rfl
  | shedCall rx p => cases hc; exact canonical_applyShedCall h _ _ _
  | hello rx p => cases hc; exact canonical_applyHello h _ _ _
  | presence rx p =>
    cases hc
    unfold applyPresence
    cases own with
    | some => exact h
    | none =>
      have hseen := canonical_judgeDiscord (canonical_modPeer h rx.sender (presenceSlot p)) rx.sender
      dsimp only
      split
      · exact canonical_modPeer hseen _ _
      · exact hseen
  | syncReq rx a => cases hc; exact canonical_applySyncReq h _ _
  | recount rx p =>
    cases hc
    rw [applyRecount_eq]
    split
    · exact canonical_recountDraw (canonical_recountCounted h _ _ _) _ _
    · exact canonical_recountStart (canonical_recountCounted h _ _ _) _ _
  | recountEnd rx n =>
    cases hc
    have hdrop := canonical_dropOwner h rx.sender true
    cases own with
    | some => exact canonical_judgeExit hdrop
    | none => exact canonical_judgeExit (canonical_modPeer hdrop _ _)
  | absent rx a =>
    cases hc
    unfold applyAbsent
    split
    · exact h
    · split
      · exact canonical_selfAbsent h _
      · exact canonical_peerAbsent h _
  | inquire rx p =>
    cases hc
    unfold applyInquire
    dsimp only
    repeat' split
    all_goals exact canonical_of_eq h rfl rfl
  | answer => cases hc; cases own <;> exact h
  | toolFrameReject => cases hc; exact h
  | _ => cases hc

end State

end Sys2Proof.Machine
end

section
/-!
Every step keeps the canonical tables, the fault list's length, the address of a running station, STAT and FLT, and leaves no
notice over.
-/

namespace Sys2Proof.Machine

open Sys2Proof

namespace State

/-! ## Canonical tables -/

theorem canonical_syncReqVoided {s : State} (h : TablesCanonical s) (a : Addr) : TablesCanonical (s.syncReqVoided a) := by
  unfold syncReqVoided
  repeat' split
  · exact canonical_of_eq h (by simp) (by simp)
  · exact h
  · exact canonical_of_eq (canonical_modPeer h a _) (by simp) (by simp; rfl)
  · exact canonical_modPeer h a _
  · exact h

theorem canonical_ownVoided {s : State} (h : TablesCanonical s) (t : TxFrame) : TablesCanonical (s.ownVoided t) := by
  unfold ownVoided
  dsimp only
  generalize hu : tally s.clearTx _ = u
  have hcan : TablesCanonical u := by rw [← hu]; exact h
  cases t.frame with
  | claim | renew => dsimp only; split <;> exact canonical_of_eq hcan (by simp) (by simp)
  | settled => dsimp only; split <;> exact canonical_of_eq hcan (by simp) (by simp)
  | syncReq a => exact canonical_syncReqVoided hcan a
  | abandoned | stopped | shedCall | hello | answer => exact canonical_of_eq hcan (by simp) (by simp)
  | _ => exact hcan

theorem foundIncomplete_eq (s : State) :
    s.foundIncomplete =
      if s.yieldsLine.countObjection.member.state.joinedUp then s.yieldsLine.countObjection.enterSyncing .all
      else s.yieldsLine.countObjection := rfl

theorem canonical_foundIncomplete {s : State} (h : TablesCanonical s) : TablesCanonical s.foundIncomplete := by
  have hy : TablesCanonical s.yieldsLine.countObjection := canonical_of_eq h (by simp) (by simp)
  rw [foundIncomplete_eq]
  split
  · exact canonical_enterSyncing hy _
  · exact hy

theorem canonical_otherVoided {s : State} (h : TablesCanonical s) (raw : RawFrame) : TablesCanonical (s.otherVoided raw) := by
  unfold otherVoided
  split
  · exact canonical_foundIncomplete h
  · split
    · exact h
    · exact canonical_of_eq h (by simp) (by simp)

theorem canonical_syncEnds {s : State} (h : TablesCanonical s) : TablesCanonical s.syncEnds := by
  unfold syncEnds
  split
  · exact canonical_enterInStep (canonical_mapPeers h _)
  · exact canonical_enterInStep (canonical_of_eq (canonical_mapPeers h _) rfl rfl)

theorem canonical_windowEnds {s : State} (h : TablesCanonical s) : TablesCanonical s.windowEnds := by
  unfold windowEnds
  split
  · exact canonical_enterSyncing h _
  · exact canonical_enterInStep h

theorem canonical_haltLoading {s : State} (h : TablesCanonical s) (r : LoadResult) : TablesCanonical (s.haltLoading r) :=
  canonical_enterHalted (canonical_of_eq h rfl rfl)

theorem canonical_failAttempt {s : State} (h : TablesCanonical s) : TablesCanonical s.failAttempt := by
  unfold failAttempt
  dsimp only
  split
  · refine canonical_haltLoading ?_ _
    exact h
  · exact h

theorem canonical_drive {s : State} (h : TablesCanonical s) (ops : List LinkOp) : TablesCanonical (s.drive ops) := h

theorem canonical_driveFail {s : State} (h : TablesCanonical s) (ops : List LinkOp) :
    TablesCanonical (s.drive ops).failAttempt := canonical_failAttempt (canonical_drive h ops)

theorem canonical_readHeader {s : State} (h : TablesCanonical s) (n : Fin 10) (a b : Byte) :
    TablesCanonical (s.readHeader n a b) := by
  unfold readHeader
  dsimp only
  split
  · exact h
  · exact canonical_driveFail (canonical_drive h _) _

@[simp] theorem foldl_joinLatched_keeps (l : List Chan) (s : State) :
    (l.foldl (fun s c => s.joinLatched c) s).member = s.member
      ∧ (l.foldl (fun s c => s.joinLatched c) s).bus = s.bus
      ∧ (l.foldl (fun s c => s.joinLatched c) s).engine = s.engine
      ∧ (l.foldl (fun s c => s.joinLatched c) s).history = s.history
      ∧ (l.foldl (fun s c => s.joinLatched c) s).power = s.power
      ∧ (l.foldl (fun s c => s.joinLatched c) s).loader = s.loader := by
  induction l generalizing s with
  | nil => simp
  | cons c cs ih => simp [ih]

@[simp] theorem foldl_logInvalid_keeps (l : List Chan) (s : State) :
    (l.foldl (fun s c => s.logInvalid c) s).member = s.member
      ∧ (l.foldl (fun s c => s.logInvalid c) s).bus = s.bus
      ∧ (l.foldl (fun s c => s.logInvalid c) s).engine = s.engine
      ∧ (l.foldl (fun s c => s.logInvalid c) s).history = s.history
      ∧ (l.foldl (fun s c => s.logInvalid c) s).power = s.power
      ∧ (l.foldl (fun s c => s.logInvalid c) s).loader = s.loader
      ∧ (l.foldl (fun s c => s.logInvalid c) s).channels = s.channels
      ∧ (l.foldl (fun s c => s.logInvalid c) s).queue = s.queue := by
  induction l generalizing s with
  | nil => simp
  | cons c cs ih => simp [ih]

/-- The station's members but for its state, window, HELLO and presence timer stand at the end of loading. -/
theorem endLoading_roster (s : State) (bytes : List Byte) : (s.endLoading bytes).member.roster = s.member.roster := by
  have hmember : (s.imageHeld bytes).invalidLogged.channelsLoaded.latchedJoined.member = s.member := by
    simp only [latchedJoined, foldl_joinLatched_keeps]
    exact (foldl_logInvalid_keeps _ _).1
  rw [endLoading_eq, enterListen_roster, inhLoaded]
  exact congrArg (·.roster) hmember

theorem canonical_judgeImage {s : State} (h : TablesCanonical s) (bytes : List Byte) :
    TablesCanonical (s.judgeImage bytes) := by
  unfold judgeImage
  split
  · split
    · exact canonical_of_eq h (by simp) (endLoading_roster _ _)
    · exact canonical_haltLoading h _
  · exact canonical_failAttempt h

theorem canonical_of_acts {s u : State} {c : Instr} (ha : s.Acts c u) (h : TablesCanonical s) : TablesCanonical u := by
  cases ha with
  | frame hc hv => exact canonical_of_eq (hv.canonical (canonical_frameBody hc) h) (by simp) (by simp)
  | voidedOwn _ t => exact canonical_of_eq (canonical_ownVoided h t) (by simp) (by simp)
  | voidedOther raw => exact canonical_of_eq (canonical_otherVoided h raw) (by simp) (by simp)
  | addressClash => exact canonical_meetClash h
  | incomplete => exact canonical_of_eq (canonical_foundIncomplete h) (by simp) (by simp)
  | windowOut => exact canonical_windowEnds h
  | syncOut => exact canonical_syncEnds h
  | absenceReached a | requestOut a => exact canonical_modPeer h a _
  | headerRead => exact canonical_readHeader h _ _ _
  | readComplete => exact canonical_judgeImage (canonical_drive h _) _
  | attemptFails | clockStretch => exact canonical_driveFail h _
  | voidedAside | incompleteAside | busFree | inhLevel | inhReleased | presenceOut | sampleOut | retryElapsed =>
    exact canonical_of_eq h rfl rfl
  | reqLevel c b => exact canonical_of_eq (s := s.reqTaken c b) h (by simp) (by simp)
  | senseLevel c b => exact canonical_of_eq (s := s.senseTaken c b) h (by simp) (by simp)
  | _ => exact canonical_of_eq h (by simp) (by simp)

theorem canonical_discard (s : State) : TablesCanonical s.discard := ⟨rfl, rfl, fun _ h => by cases h⟩

theorem canonical_sampleStraps {s : State} (h : TablesCanonical s) (straps : Addr) :
    TablesCanonical (s.sampleStraps straps) := by
  unfold sampleStraps
  dsimp only
  split
  · refine canonical_haltLoading ?_ _
    exact h
  · exact h

theorem canonical_of_resets {s u : State} {c : Instr} (ha : s.Resets c u) (h : TablesCanonical s) : TablesCanonical u := by
  cases ha with
  | powerFail => exact canonical_of_eq h (by simp) (by simp)
  | vmainLost | powerUp | rstnLow => exact canonical_discard _
  | suppliesLost => exact canonical_discard s
  | retentionLost | recover | rstnRelease => exact h
  | start straps =>
    refine canonical_sampleStraps ?_ straps
    exact canonical_discard s

/-! ## The fault list -/

theorem faultLaw_haltLoading {s : State} (h : FaultListLaw s) (r : LoadResult) : FaultListLaw (s.haltLoading r) :=
  FaultList.length_of_grows (faultsGrow_haltLoading s r).grown h

theorem faultLaw_of_resets {s u : State} {c : Instr} (ha : s.Resets c u) (h : FaultListLaw s) : FaultListLaw u := by
  have hempty (v : State) : FaultListLaw v.discard := Nat.zero_le _
  cases ha with
  | powerFail => simpa [FaultListLaw] using h
  | vmainLost | powerUp | rstnLow => exact hempty _
  | suppliesLost => exact hempty s
  | retentionLost | recover | rstnRelease => exact h
  | start straps =>
    unfold begin sampleStraps
    dsimp only
    split
    · exact faultLaw_haltLoading (by unfold FaultListLaw; simp [startRecordOf]) _
    · unfold FaultListLaw
      simp [beginAttempt, startRecordOf]

/-! ## The address -/

theorem address_of_eq {s t : State} (h : AddressLaw s) (hp : t.power.phase = s.power.phase) (ho : t.loader.addr = s.loader.addr)
    (hm : s.member.state = .halted → t.member.state = .halted) : AddressLaw t := by
  intro hrun hhalt
  have hown : t.own = s.own := by simp [own, ho]
  rw [hown]
  exact h (hp ▸ hrun) fun hs => hhalt (hm hs)

theorem losePower_phase (s : State) : s.losePower.power.phase = .unpowered := rfl

theorem address_of_resets {s u : State} {c : Instr} (ha : s.Resets c u) (h : AddressLaw s) : AddressLaw u := by
  cases ha with
  | powerFail => exact address_of_eq h (by simp) (by simp) (by simp)
  | vmainLost | suppliesLost => exact fun hrun => absurd hrun (by simp [losePower, loseRetention, discard])
  | powerUp | rstnLow => exact fun hrun => absurd hrun (by simp [powerUp, held, discard])
  | retentionLost | rstnRelease => exact address_of_eq h rfl rfl id
  | recover => exact address_of_eq h rfl rfl id
  | start straps =>
    unfold begin sampleStraps
    dsimp only
    split
    · intro _ hhalt
      exact absurd rfl hhalt
    · next hs =>
      intro _ _
      exact not_or.mp hs

/-! ## Commands -/

theorem canonical_of_exec {c : Instr} {s t : State} (hx : exec c s = .next t) (h : TablesCanonical s) :
    TablesCanonical t := by
  have hfinish {u : State} (hu : TablesCanonical u) : TablesCanonical u.finish := canonical_of_eq hu (by simp) (by simp)
  cases hr : resets c with
  | false =>
    cases runs_of_exec hx hr with
    | nothing => exact h
    | pinTaken => exact h
    | acts ha => exact hfinish (canonical_of_acts ha h)
  | true =>
    cases resetRuns_of_exec hx hr with
    | nothing => exact h
    | unpowered => exact h
    | acts ha => exact hfinish (canonical_of_resets ha h)

theorem faultLaw_of_exec {c : Instr} {s t : State} (hx : exec c s = .next t) (h : FaultListLaw s) : FaultListLaw t := by
  cases hr : resets c with
  | false => exact FaultList.length_of_grows (exec_faultsGrow hx hr).grown h
  | true =>
    cases resetRuns_of_exec hx hr with
    | nothing => exact h
    | unpowered => exact h
    | @acts u ha =>
      have hu := faultLaw_of_resets ha h
      unfold FaultListLaw at hu ⊢
      rw [show u.finish.faults = u.faults by simp]
      exact hu

theorem address_of_exec {c : Instr} {s t : State} (hx : exec c s = .next t) (h : AddressLaw s) : AddressLaw t := by
  have hfinish {u : State} (hu : AddressLaw u) : AddressLaw u.finish :=
    address_of_eq hu (by simp) (by simp) (by simp)
  cases hr : resets c with
  | false =>
    have hkeep := keepsFor_of_exec hx hr
    refine address_of_eq h (by rw [hkeep.power]) hkeep.addr fun hhalt => ?_
    rw [(heldHalted_of_exec hx hr hhalt).member, hhalt]
  | true =>
    cases resetRuns_of_exec hx hr with
    | nothing => exact h
    | unpowered => exact h
    | acts ha => exact hfinish (address_of_resets ha h)

theorem notices_of_exec {c : Instr} {s t : State} (hx : exec c s = .next t) (h : NoticesTaken s) : NoticesTaken t := by
  cases hr : resets c with
  | false =>
    cases runs_of_exec hx hr with
    | nothing => exact h
    | pinTaken => exact h
    | acts => exact finish_notice _
  | true =>
    cases resetRuns_of_exec hx hr with
    | nothing => exact h
    | unpowered => exact h
    | acts => exact finish_notice _

/-- The reset line of a part without power: STAT stays off and FLT is deasserted (R83, R118). -/
theorem indicators_heldUnpowered {s : State} (hpow : s.power.phase = .unpowered) (h : IndicatorLaw s) :
    IndicatorLaw s.heldUnpowered := by
  have hphase : s.heldUnpowered.power.phase = .unpowered := hpow
  obtain ⟨⟨hoff, -⟩, -⟩ := h
  refine ⟨⟨fun _ => hoff (.inl (by simp [hpow])), fun hrun => ?_⟩, fun hres => ?_, fun hrun => ?_, fun hrun => ?_⟩
  all_goals simp_all

theorem indicators_of_exec {c : Instr} {s t : State} (hx : exec c s = .next t) (h : IndicatorLaw s) : IndicatorLaw t := by
  cases hr : resets c with
  | false =>
    cases runs_of_exec hx hr with
    | nothing => exact h
    | pinTaken => exact h
    | acts => exact finish_law _
  | true =>
    cases resetRuns_of_exec hx hr with
    | nothing => exact h
    | unpowered _ _ hpow => exact indicators_heldUnpowered hpow h
    | acts => exact finish_law _

/-! ## One millisecond -/

/-- What one millisecond leaves: all but timers. -/
theorem tick_keeps (s : State) :
    s.tick.pending = s.pending ∧ s.tick.pins = s.pins ∧ s.tick.power = { s.power with startDelay := s.tick.power.startDelay }
      ∧ s.tick.retention = s.retention ∧ s.tick.draws = s.draws ∧ s.tick.bus = s.bus ∧ s.tick.faults = s.faults
      ∧ s.tick.answer = s.answer ∧ s.tick.notice = s.notice ∧ s.tick.loader.addr = s.loader.addr
      ∧ s.tick.member.state = s.member.state ∧ s.tick.member.discord = s.member.discord
      ∧ s.tick.indicators.stat = s.indicators.stat ∧ s.tick.indicators.flt = s.indicators.flt
      ∧ s.tick.queue.nextStamp = s.queue.nextStamp ∧ s.tick.inh.asserted = s.inh.asserted := by
  unfold tick
  repeat' split
  all_goals simp [tickStation, tickLive, tickHalted]

/-- One millisecond leaves a channel but for its timers. -/
theorem chan_tick (s : State) (c : Chan) :
    s.tick.chan c = { s.chan c with
      debounceTimer := (s.tick.chan c).debounceTimer, senseGrace := (s.tick.chan c).senseGrace,
      shedRest := (s.tick.chan c).shedRest } := by
  unfold tick
  repeat' split
  all_goals simp [tickStation, tickLive, tickHalted, chan, Channel.tick]

/-- One millisecond lets the timers of the roster slots count, or leaves the roster. -/
theorem roster_tick (s : State) :
    s.tick.member.roster = s.member.roster
      ∨ s.tick.member.roster = s.member.roster.map fun kv => (kv.1, kv.2.tick) := by
  unfold tick
  repeat' split
  · exact .inl rfl
  · exact .inl rfl
  · exact .inr rfl
  · exact .inl rfl
  · exact .inr rfl

/-- A slot that counts reads as at start only where it did before. -/
theorem tick_ne_atStart {x : RosterSlot} (h : x ≠ RosterSlot.atStart) : x.tick ≠ RosterSlot.atStart := by
  intro heq
  refine h ?_
  unfold RosterSlot.tick RosterSlot.atStart at heq
  obtain ⟨st, lh, dg, sk, ou, re, rs, rd, su, ow, he, ap, rt, rv⟩ := x
  simp only [RosterSlot.mk.injEq, countUp, countDown, Option.map_eq_none_iff] at heq
  obtain ⟨rfl, rfl, rfl, rfl, rfl, rfl, rfl, rfl, rfl, rfl, rfl, rfl, rfl, rfl⟩ := heq
  rfl

theorem canonical_tick {s : State} (h : TablesCanonical s) : TablesCanonical s.tick := by
  obtain ⟨hd, hr, hl⟩ := h
  obtain ⟨-, -, -, -, hdraws, -⟩ := tick_keeps s
  unfold TablesCanonical
  rw [hdraws]
  rcases roster_tick s with heq | heq <;> rw [heq]
  · exact ⟨hd, hr, hl⟩
  · refine ⟨hd, slotsRise_slotMap (fun _ (x : RosterSlot) => x.tick) _ hr, fun kv hkv => ?_⟩
    obtain ⟨kv, hmem, rfl⟩ := List.mem_map.mp hkv
    exact tick_ne_atStart (hl kv hmem)

theorem indicators_tick {s : State} (h : IndicatorLaw s) : IndicatorLaw s.tick := by
  obtain ⟨-, -, hpow, -, -, -, -, -, -, -, hstate, hdisc, hstat, hflt, -⟩ := tick_keeps s
  have hchan (c : Chan) : (s.tick.chan c).state = (s.chan c).state := by rw [chan_tick]
  unfold IndicatorLaw StatLaw FltLaw
  rw [hstate, hdisc, hstat, hflt, hpow]
  simp only [hchan]
  exact h

theorem address_tick {s : State} (h : AddressLaw s) : AddressLaw s.tick := by
  obtain ⟨-, -, hpow, -, -, -, -, -, -, haddr, hstate, -⟩ := tick_keeps s
  exact address_of_eq h (by rw [hpow]) haddr (by rw [hstate]; exact id)

end State

/-- A step runs a command on the state with the rest of the queue, or lets a millisecond pass. -/
theorem step_cases {s t : State} (h : step s = .next t) :
    (∃ c rest, s.pending = c :: rest ∧ exec c { s with pending := rest } = .next t) ∨ s.pending = [] ∧ t = s.tick := by
  unfold step at h
  split at h
  · next hnil =>
    cases h
    exact .inr ⟨hnil, rfl⟩
  · next c rest hcons => exact .inl ⟨c, rest, hcons, h⟩

/-- Settles O59: each operation keeps the canonical tables and the fault list's length; the end of a step takes the notice and
sets the indicators; and a HALTED station stays so, by what it holds. -/
theorem stepKeepsTheForms : Obligations.StepKeepsTheForms := by
  intro s t hcan hfault hnote haddr hind h
  rcases step_cases h with ⟨c, rest, -, hx⟩ | ⟨-, rfl⟩
  · exact ⟨State.canonical_of_exec hx hcan, State.faultLaw_of_exec hx hfault, State.notices_of_exec hx hnote,
      State.address_of_exec hx haddr, State.indicators_of_exec hx hind⟩
  · obtain ⟨-, -, -, -, -, -, hf, -, hn, -⟩ := State.tick_keeps s
    refine ⟨State.canonical_tick hcan, ?_, ?_, State.address_tick haddr, State.indicators_tick hind⟩
    · unfold FaultListLaw
      rw [hf]
      exact hfault
    · unfold NoticesTaken
      rw [hn]
      exact hnote

end Sys2Proof.Machine
end

section
/-!
Every step keeps the law of the Start Table and keeps the tables apart (R3).
-/

namespace Sys2Proof.Machine

open Sys2Proof

theorem slotGet_filter_none {α : Type} {t : List (Nat × α)} {n : Nat} (p : Nat × α → Bool) (h : slotGet t n = none) :
    slotGet (t.filter p) n = none := by
  rw [slotGet_eq_none] at h ⊢
  intro hmem
  obtain ⟨kv, hkv, rfl⟩ := List.mem_map.mp hmem
  exact h (List.mem_map_of_mem (List.mem_of_mem_filter hkv))

/-- The law of the Start Table with the tables apart. -/
def TablesLaw (s : State) : Prop := StartTableLaw s ∧ TablesApart s

/-- A rewriting of entries that keeps each pair and each hold within its limit. -/
structure KeepsPairs (g : StartEntry → StartEntry) : Prop where
  owner : ∀ e, (g e).owner = e.owner
  ch : ∀ e, (g e).ch = e.ch
  hold : ∀ e, e.remaining ≤ e.limitMs → (g e).remaining ≤ (g e).limitMs

theorem keepsPairs_id : KeepsPairs id := ⟨fun _ => rfl, fun _ => rfl, fun _ => id⟩

theorem keepsPairs_ite {g : StartEntry → StartEntry} (h : KeepsPairs g) (p : StartEntry → Bool) :
    KeepsPairs fun e => if p e then g e else e := by
  obtain ⟨ho, hc, hh⟩ := h
  refine ⟨fun e => ?_, fun e => ?_, fun e he => ?_⟩
  · split <;> simp [ho]
  · split <;> simp [hc]
  · split <;> simp [hh, he]

namespace State

theorem tables_of_eq {s t : State} (h : TablesLaw s) (hs : t.starts = s.starts) (hd : t.draws = s.draws) : TablesLaw t := by
  unfold TablesLaw StartTableLaw TablesApart drawSlot
  rw [hs, hd]
  exact h

/-- Entries removed or rewritten within their pairs and limits, and slots emptied or rewritten, keep the law. -/
theorem tables_of_fewer {s t : State} (h : TablesLaw s) (p : StartEntry → Bool) {g : StartEntry → StartEntry}
    (hg : KeepsPairs g) (hs : t.starts = (s.starts.filter p).map g)
    (hd : ∀ n, slotGet s.draws n = none → slotGet t.draws n = none) : TablesLaw t := by
  obtain ⟨⟨hlen, hnodup, hhold⟩, hapart⟩ := h
  obtain ⟨ho, hc, hh⟩ := hg
  have hpair : (t.starts.map fun e => (e.owner, e.ch)) = (s.starts.filter p).map fun e => (e.owner, e.ch) := by
    rw [hs, List.map_map]
    exact List.map_congr_left fun e _ => by simp [ho, hc]
  refine ⟨⟨?_, ?_, fun e he => ?_⟩, fun e he => ?_⟩
  · rw [hs, List.length_map]
    exact (List.length_filter_le _ _).trans hlen
  · rw [hpair]
    exact hnodup.sublist (List.filter_sublist.map _)
  · rw [hs] at he
    obtain ⟨x, hx, rfl⟩ := List.mem_map.mp he
    exact hh x (hhold x (List.mem_of_mem_filter hx))
  · rw [hs] at he
    obtain ⟨x, hx, rfl⟩ := List.mem_map.mp he
    rw [ho, hc]
    exact hd _ (hapart x (List.mem_of_mem_filter hx))

theorem tables_mapStarts {s t : State} (h : TablesLaw s) {g : StartEntry → StartEntry} (hg : KeepsPairs g)
    (hs : t.starts = s.starts.map g) (hd : t.draws = s.draws) : TablesLaw t :=
  tables_of_fewer h (fun _ => true) hg (by rw [hs, List.filter_true]) fun n hn => by rw [hd]; exact hn

theorem tables_modStarts {s : State} (h : TablesLaw s) (pick : StartEntry → Bool) {g : StartEntry → StartEntry}
    (hg : KeepsPairs g) : TablesLaw (s.modStarts pick g) :=
  tables_mapStarts h (keepsPairs_ite hg pick) rfl rfl

theorem tables_filterStarts {s t : State} (h : TablesLaw s) (p : StartEntry → Bool) (hs : t.starts = s.starts.filter p)
    (hd : t.draws = s.draws) : TablesLaw t :=
  tables_of_fewer h p keepsPairs_id (by rw [hs, List.map_id]) fun n hn => by rw [hd]; exact hn

theorem tables_fewerSlots {s t : State} (h : TablesLaw s) (hs : t.starts = s.starts)
    (hd : ∀ n, slotGet s.draws n = none → slotGet t.draws n = none) : TablesLaw t :=
  tables_of_fewer h (fun _ => true) keepsPairs_id (by rw [hs, List.filter_true, List.map_id]) hd

theorem tables_dropStarts {s : State} (h : TablesLaw s) (p : StartEntry → Bool) : TablesLaw (s.dropStarts p) :=
  tables_filterStarts h _ rfl rfl

theorem tables_emptySlot {s : State} (h : TablesLaw s) (a : Addr) (c : Chan) : TablesLaw (s.emptySlot a c) :=
  tables_fewerSlots h rfl fun _ hn => slotGet_filter_none _ hn

/-- A slot may be filled where no entry of its pair stands. -/
theorem tables_fillSlot {s : State} (h : TablesLaw s) {a : Addr} {c : Chan} (d : DrawSlot)
    (hnone : ∀ e ∈ s.starts, ¬(e.owner = a ∧ e.ch = c)) : TablesLaw (s.fillSlot a c d) := by
  refine ⟨h.1, fun e he => ?_⟩
  rw [drawSlot_fillSlot_other _ _ _ _ _ _ (hnone e he)]
  exact h.2 e he

/-- An entry may join where its pair has neither entry nor slot, the table is not full, and its hold is within its limit. -/
theorem tables_append {s t : State} (h : TablesLaw s) (x : StartEntry) (hs : t.starts = s.starts ++ [x])
    (hd : t.draws = s.draws) (hlen : s.starts.length < 32) (hpair : s.pairEntry x.owner x.ch = none)
    (hslot : s.drawSlot x.owner x.ch = none) (hhold : x.remaining ≤ x.limitMs) : TablesLaw t := by
  obtain ⟨⟨-, hnodup, hall⟩, hapart⟩ := h
  have hnew : ∀ e ∈ s.starts, ¬(e.owner = x.owner ∧ e.ch = x.ch) := by
    simpa [pairEntry, List.find?_eq_none, StartEntry.isPair] using hpair
  have hdraw (a : Addr) (c : Chan) : t.drawSlot a c = s.drawSlot a c := by simp [drawSlot, hd]
  refine ⟨⟨?_, ?_, fun e he => ?_⟩, fun e he => ?_⟩
  · rw [hs]
    simpa using hlen
  · rw [hs, List.map_append, List.nodup_append]
    refine ⟨hnodup, by simp, fun q hq r hr heq => ?_⟩
    obtain ⟨e, he, rfl⟩ := List.mem_map.mp hq
    rw [List.map_singleton, List.mem_singleton] at hr
    rw [hr, Prod.mk.injEq] at heq
    exact hnew e he heq
  · rw [hs, List.mem_append, List.mem_singleton] at he
    rcases he with he | rfl
    · exact hall e he
    · exact hhold
  · rw [hdraw]
    rw [hs, List.mem_append, List.mem_singleton] at he
    rcases he with he | rfl
    · exact hapart e he
    · exact hslot

/-! ## The frames of the tables -/

/-- An admitted claim finds its pair free and room in the table (R8). -/
theorem room_of_admitted {s : State} {a : Addr} {c : Chan} {u : Urg} {i d : Nat}
    (hadm : s.admissionTest a c u i d = .admitted) :
    s.starts.length < 32 ∧ s.pairEntry a c = none ∧ s.drawSlot a c = none := by
  rcases s.admissionTest_cases a c u i d with
    ⟨-, hv⟩ | ⟨-, -, hv⟩ | ⟨-, -, -, hv⟩ | ⟨-, -, -, -, hv⟩ | ⟨hpair, hlen, -, -, -⟩
  case inr.inr.inr.inr =>
    obtain ⟨hentry, hslot⟩ := not_or.mp hpair
    exact ⟨hlen, by simpa using hentry, by simpa using hslot⟩
  all_goals
    rw [hv] at hadm
    cases hadm

theorem tables_claimTabled {s : State} (h : TablesLaw s) (a : Addr) (p : ClaimPayload) : TablesLaw (s.claimTabled a p) := by
  unfold claimTabled
  split
  · next hadm =>
    obtain ⟨hlen, hentry, hslot⟩ := room_of_admitted hadm
    exact tables_append h (claimEntry a p) rfl rfl hlen hentry hslot (by simp [claimEntry, StartEntry.limitMs])
  · exact h

theorem keepsPairs_renewEntry (n : Fin 16) : KeepsPairs (renewEntry n) := by
  refine ⟨fun e => ?_, fun e => ?_, fun e he => ?_⟩ <;> unfold renewEntry <;> split
  case refine_3.isTrue => exact le_refl _
  case refine_3.isFalse => exact he
  all_goals rfl

/-- No two entries of one pair stand in the table. -/
theorem eq_of_pair {s : State} (h : StartTableLaw s) {e x : StartEntry} (he : e ∈ s.starts) (hx : x ∈ s.starts)
    (hpair : (x.owner, x.ch) = (e.owner, e.ch)) : x = e :=
  List.inj_on_of_nodup_map h.2.1 hx he hpair

theorem tables_settledMoved {s : State} (h : TablesLaw s) (a : Addr) (p : SettledPayload) :
    TablesLaw (s.settledMoved a p) := by
  unfold settledMoved
  split
  · next e he =>
    have hnamed : e.owner = a ∧ e.ch = p.ch ∧ e.seq = p.seq := by
      simpa [StartEntry.isNamed] using List.find?_some he
    refine tables_of_eq (tables_fillSlot (tables_dropStarts h _) _ fun x hx hpair => ?_) rfl rfl
    obtain ⟨hmem, hnot⟩ := List.mem_filter.mp hx
    have hxe := eq_of_pair h.1 (List.mem_of_find?_eq_some he) hmem (by rw [hpair.1, hpair.2, hnamed.1, hnamed.2.1])
    subst hxe
    simp [StartEntry.isNamed, hnamed] at hnot
  · exact h

theorem tables_dropNamed {s : State} (h : TablesLaw s) (a : Addr) (c : Chan) (q : Seq) : TablesLaw (s.dropNamed a c q) := by
  unfold dropNamed
  split
  · exact tables_dropStarts h _
  · exact h

theorem tables_slotStopped {s : State} (h : TablesLaw s) (a : Addr) (c : Chan) : TablesLaw (s.slotStopped a c) := by
  unfold slotStopped
  split
  · exact tables_emptySlot h a c
  · exact h

theorem tables_atOwner {s : State} (own : Option TxFrame) (f : State → State) (h : TablesLaw s)
    (hs : (f s).starts = s.starts) (hd : (f s).draws = s.draws) : TablesLaw (s.atOwner own f) := by
  unfold atOwner
  split
  · split
    · exact tables_of_eq h hs hd
    · exact h
  · exact h

theorem tables_dropOwner {s : State} (h : TablesLaw s) (a : Addr) (b : Bool) : TablesLaw (s.dropOwner a b) :=
  tables_of_fewer h _ keepsPairs_id (by rw [dropOwner_starts, List.map_id]) fun n hn => by
    rw [dropOwner_draws]
    exact slotGet_filter_none _ hn

theorem slotGet_slotMap_none {t : List (Nat × DrawSlot)} (g : Nat → DrawSlot → DrawSlot) {n : Nat}
    (h : slotGet t n = none) : slotGet (slotMap g t) n = none := by
  rw [slotGet_slotMap, h]
  rfl

theorem keepsPairs_unconfirmed (target a : Addr) : KeepsPairs fun e =>
    if covers target e.owner ∧ e.owner ≠ a then { e with unconfirmed := true } else e := by
  refine ⟨fun e => ?_, fun e => ?_, fun e he => ?_⟩ <;> split
  case refine_3.isTrue | refine_3.isFalse => exact he
  all_goals rfl

theorem tables_markUnconfirmed {s : State} (h : TablesLaw s) (target : Addr) : TablesLaw (s.markUnconfirmed target) :=
  tables_of_fewer h (fun _ => true) (keepsPairs_unconfirmed target s.own) (by rw [List.filter_true]; rfl)
    fun _ hn => by
      simp only [markUnconfirmed]
      exact slotGet_slotMap_none _ hn

theorem tables_ownHoldOut {s : State} (h : TablesLaw s) (c : Chan) (q : Seq) : TablesLaw (s.ownHoldOut c q) :=
  tables_of_eq h (by simp) (by simp)

theorem tables_runOut {s : State} (h : TablesLaw s) (a : Addr) (c : Chan) (q : Seq) : TablesLaw (s.runOut a c q) := by
  unfold runOut
  split
  · refine tables_ownHoldOut ?_ c q
    exact tables_modStarts h _ ⟨fun _ => rfl, fun _ => rfl, fun _ he => he⟩
  · exact tables_modStarts h _ ⟨fun _ => rfl, fun _ => rfl, fun _ he => he⟩

/-- The entry of a pair is replaced by a RECOUNT of type START (R141). -/
def recountReplaced (s : State) (a : Addr) (p : RecountPayload) (e : StartEntry) : State :=
  if e.inrush ≠ p.inrush ∨ e.draw ≠ p.draw then (s.modStarts (fun e => e.isPair a p.ch) (recountReplace p)).notify
  else s.modStarts (fun e => e.isPair a p.ch) (recountReplace p)

/-- The entry of a pair is created by a RECOUNT of type START (R141). -/
def recountCreated (s : State) (a : Addr) (p : RecountPayload) : State :=
  (({ s with starts := s.starts ++ [recountCreate a p] } : State).emptySlot a p.ch).notify

/-- A RECOUNT whose hold is 0 has run out (R141). -/
def holdRecounted (s : State) (a : Addr) (p : RecountPayload) : State := if p.hold = 0 then s.runOut a p.ch p.seq else s

theorem recountStart_eq (s : State) (a : Addr) (p : RecountPayload) :
    s.recountStart a p =
      if p.inrush = 0 then s
      else
        match s.pairEntry a p.ch with
        | some e => (s.recountReplaced a p e).holdRecounted a p
        | none =>
          if s.starts.length < 32 then (s.recountCreated a p).holdRecounted a p
          else s.tally fun k => { k with overflows := satSucc 65535 k.overflows } := by
  unfold recountStart
  split
  · rfl
  · cases s.pairEntry a p.ch <;> rfl

theorem tables_holdRecounted {s : State} (h : TablesLaw s) (a : Addr) (p : RecountPayload) :
    TablesLaw (s.holdRecounted a p) := by
  unfold holdRecounted
  split
  · exact tables_runOut h _ _ _
  · exact h

theorem keepsPairs_recountReplace (p : RecountPayload) : KeepsPairs (recountReplace p) :=
  ⟨fun _ => rfl, fun _ => rfl, fun _ _ => Nat.min_le_right _ _⟩

theorem tables_recountReplaced {s : State} (h : TablesLaw s) (a : Addr) (p : RecountPayload) (e : StartEntry) :
    TablesLaw (s.recountReplaced a p e) := by
  have hmod := tables_modStarts h (fun e => e.isPair a p.ch) (keepsPairs_recountReplace p)
  unfold recountReplaced
  split <;> exact hmod

theorem tables_recountCreated {s : State} (h : TablesLaw s) (a : Addr) (p : RecountPayload)
    (hlen : s.starts.length < 32) (hpair : s.pairEntry a p.ch = none) : TablesLaw (s.recountCreated a p) := by
  have hempty := tables_emptySlot h a p.ch
  refine tables_append hempty (recountCreate a p) rfl rfl hlen hpair (drawSlot_emptySlot_self s a p.ch) ?_
  have hhold := p.hold.isLt
  simp only [recountCreate, StartEntry.limitMs]
  omega

theorem tables_recountStart {s : State} (h : TablesLaw s) (a : Addr) (p : RecountPayload) :
    TablesLaw (s.recountStart a p) := by
  rw [recountStart_eq]
  split
  · exact h
  · split
    · exact tables_holdRecounted (tables_recountReplaced h _ _ _) _ _
    · next hpair =>
      split
      · next hlen => exact tables_holdRecounted (tables_recountCreated h a p hlen hpair) _ _
      · exact h

theorem tables_recountDraw {s : State} (h : TablesLaw s) (a : Addr) (p : RecountPayload) :
    TablesLaw (s.recountDraw a p) := by
  have hfill : TablesLaw ((s.dropStarts fun e => e.isPair a p.ch).fillSlot a p.ch (recountSlot p)) := by
    refine tables_fillSlot (tables_dropStarts h _) _ fun e he hpair => ?_
    have hnot := (List.mem_filter.mp he).2
    simp [StartEntry.isPair, hpair] at hnot
  rcases s.recountDraw_cases a p with heq | heq <;> rw [heq] <;> exact hfill

theorem tables_recountCounted {s : State} (h : TablesLaw s) (a : Addr) (c : Chan) (own : Option TxFrame) :
    TablesLaw (s.recountCounted a c own) := tables_of_eq h (by simp) (by simp)

theorem tables_selfAbsent {s : State} (h : TablesLaw s) (a : Addr) : TablesLaw (s.selfAbsent a) := by
  have hdrop := tables_dropOwner h s.own false
  have hclear : TablesLaw s.selfCleared := by
    unfold selfCleared
    dsimp only
    split
    · exact tables_of_eq hdrop (by simp) (by simp)
    · exact hdrop
  rw [selfAbsent_eq]
  dsimp only
  split <;> exact tables_of_eq hclear (by simp) (by simp)

theorem tables_peerAbsent {s : State} (h : TablesLaw s) (a : Addr) : TablesLaw (s.peerAbsent a) := by
  have hdrop := tables_dropOwner h a false
  unfold peerAbsent
  dsimp only
  split
  · exact h
  · split <;> exact tables_of_eq hdrop (by simp) (by simp)

theorem tables_applyShedCall {s : State} (h : TablesLaw s) (a : Addr) (p : ShedCallPayload) (own : Option TxFrame) :
    TablesLaw (applyShedCall a p own s) := by
  have hend : TablesLaw (s.callEnded p own) := tables_of_eq h (by simp) (by simp)
  have hmark : TablesLaw ((s.callEnded p own).slotsMarked a p) :=
    tables_fewerSlots hend rfl fun _ hn => by
      simp only [slotsMarked, markSlots]
      exact slotGet_slotMap_none _ hn
  rw [applyShedCall_eq]
  split
  · exact hend
  · exact tables_of_eq hmark (by simp [shedCalled]) (by simp [shedCalled])

theorem tables_frameBody {c : Instr} {rx : Rx} {f : Frame} {body : Option TxFrame → State → State}
    (hc : frameBody c = some (rx, f, body)) (own : Option TxFrame) (u : State) (h : TablesLaw u) :
    TablesLaw (body own u) := by
  cases c with
  | claim rx p =>
    cases hc
    have htab := tables_claimTabled h rx.sender p
    rw [applyClaim_eq]
    cases own with
    | none => dsimp only; split; exacts [h, htab]
    | some t =>
      dsimp only
      split
      · split
        · exact tables_of_eq h (by simp) (by simp)
        · exact h
      · exact tables_of_eq htab (by simp) (by simp)
  | renew rx p =>
    cases hc
    rw [applyRenew_atOwner]
    exact tables_atOwner _ _ (tables_modStarts h _ (keepsPairs_renewEntry _)) (by simp) (by simp)
  | settled rx p =>
    cases hc
    rw [applySettled_atOwner]
    exact tables_atOwner _ _ (tables_settledMoved h _ _) (by simp) (by simp)
  | abandoned rx p =>
    cases hc
    rw [applyAbandoned_atOwner]
    exact tables_atOwner _ _ (tables_dropNamed h _ _ _) rfl rfl
  | expire rx p =>
    cases hc
    have hdrop := tables_dropNamed h p.owner p.ch p.seq
    rw [applyExpire_eq]
    split
    · exact tables_of_eq hdrop (by simp) (by simp)
    · exact hdrop
  | stopped rx p =>
    cases hc
    rw [applyStopped_atOwner]
    exact tables_atOwner _ _ (tables_slotStopped h _ _) rfl rfl
  | shedCall rx p => cases hc; exact tables_applyShedCall h _ _ _
  | hello rx p =>
    cases hc
    have hdrop := tables_dropOwner h rx.sender false
    unfold applyHello
    cases own with
    | some => exact hdrop
    | none =>
      dsimp only
      split <;> exact tables_of_eq hdrop (by simp) (by simp)
  | presence rx p =>
    cases hc
    unfold applyPresence
    cases own with
    | some => exact h
    | none =>
      dsimp only
      split <;> exact tables_of_eq h (by simp) (by simp)
  | syncReq rx a =>
    cases hc
    have hmark := tables_markUnconfirmed h a
    unfold applySyncReq
    dsimp only
    split
    · exact h
    · split <;> split <;> exact tables_of_eq hmark (by simp) (by simp)
  | recount rx p =>
    cases hc
    rw [applyRecount_eq]
    split
    · exact tables_recountDraw (tables_recountCounted h _ _ _) _ _
    · exact tables_recountStart (tables_recountCounted h _ _ _) _ _
  | recountEnd rx n =>
    cases hc
    have hdrop := tables_dropOwner h rx.sender true
    cases own <;> exact tables_of_eq hdrop (by simp [applyRecountEnd]) (by simp [applyRecountEnd])
  | absent rx a =>
    cases hc
    unfold applyAbsent
    split
    · exact h
    · split
      · exact tables_selfAbsent h _
      · exact tables_peerAbsent h _
  | inquire rx p =>
    cases hc
    unfold applyInquire
    dsimp only
    repeat' split
    all_goals exact h
  | answer => cases hc; cases own <;> exact h
  | toolFrameReject => cases hc; exact h
  | _ => cases hc

/-! ## Other commands -/

theorem keepsPairs_stopped : KeepsPairs fun e => { e with holdRunning := false } :=
  ⟨fun _ => rfl, fun _ => rfl, fun _ he => he⟩

theorem tables_stopped {s t : State} (h : TablesLaw s) (hs : t.starts = s.starts.map fun e => { e with holdRunning := false })
    (hd : t.draws = s.draws) : TablesLaw t :=
  tables_mapStarts h keepsPairs_stopped hs hd

theorem tables_enterHalted {s : State} (h : TablesLaw s) : TablesLaw s.enterHalted := tables_stopped h rfl rfl

theorem tables_meetClash {s : State} (h : TablesLaw s) : TablesLaw s.meetClash := by
  rw [meetClash_eq]
  dsimp only
  split
  · exact tables_enterHalted (tables_of_eq h (by simp) (by simp))
  · exact tables_of_eq h (by simp) (by simp)

theorem tables_listens {s u : State} (hu : s.listens u) (h : TablesLaw s) : TablesLaw u := by
  rcases hu with ⟨-, rfl⟩ | ⟨t, -, rfl⟩
  · exact h
  · exact tables_of_eq h (by simp) (by simp)

theorem Receives.tables {s v : State} {rx : Rx} {f : Frame} {body : Option TxFrame → State → State}
    (hv : s.Receives rx f body v) (hbody : ∀ own (u : State), TablesLaw u → TablesLaw (body own u)) (h : TablesLaw s) :
    TablesLaw v := by
  cases hv with
  | aside => exact h
  | own => exact hbody _ _ (tables_of_eq h (by simp) (by simp))
  | clash => exact tables_meetClash h
  | ignored _ _ hu => exact tables_listens hu h
  | tool u _ hu => exact tables_of_eq (tables_listens hu h) rfl rfl
  | inquiry u _ hu => exact hbody _ _ (tables_listens hu h)
  | peer u _ hu => exact hbody _ _ (tables_of_eq (tables_listens hu h) (by simp) (by simp))

theorem tables_haltLoading {s : State} (h : TablesLaw s) (r : LoadResult) : TablesLaw (s.haltLoading r) :=
  tables_stopped h rfl rfl

theorem tables_failAttempt {s : State} (h : TablesLaw s) : TablesLaw s.failAttempt := by
  unfold failAttempt
  dsimp only
  split
  · exact tables_stopped h rfl rfl
  · exact h

theorem tables_drive {s : State} (h : TablesLaw s) (ops : List LinkOp) : TablesLaw (s.drive ops) := h

theorem tables_readHeader {s : State} (h : TablesLaw s) (n : Fin 10) (a b : Byte) : TablesLaw (s.readHeader n a b) := by
  unfold readHeader
  dsimp only
  split
  · exact h
  · exact tables_failAttempt (tables_drive (tables_drive h _) _)

theorem tables_judgeImage {s : State} (h : TablesLaw s) (bytes : List Byte) : TablesLaw (s.judgeImage bytes) := by
  unfold judgeImage
  split
  · split
    · exact tables_of_eq h (by simp) (by simp)
    · exact tables_haltLoading h _
  · exact tables_failAttempt h

theorem tables_holdEnds {s : State} (h : TablesLaw s) (a : Addr) (c : Chan) (b : Bool) : TablesLaw (s.holdEnds a c b) :=
  tables_modStarts h _ ⟨fun _ => rfl, fun _ => rfl, fun _ _ => Nat.zero_le _⟩

theorem tables_holdLow {s : State} (h : TablesLaw s) (c : Chan) : TablesLaw (s.holdLow c) := by
  unfold holdLow
  split
  · exact tables_modStarts h _ ⟨fun _ => rfl, fun _ => rfl, fun _ he => (Nat.min_le_left _ _).trans he⟩
  · exact h

theorem tables_of_acts {s u : State} {c : Instr} (ha : s.Acts c u) (h : TablesLaw s) : TablesLaw u := by
  cases ha with
  | frame hc hv => exact tables_of_eq (hv.tables (tables_frameBody hc) h) (by simp) (by simp)
  | addressClash => exact tables_meetClash h
  | holdAtPeer => exact tables_holdEnds h _ _ _
  | holdAtOwner => exact tables_ownHoldOut (tables_holdEnds h _ _ _) _ _
  | renewalNeed => exact tables_holdLow h _
  | headerRead => exact tables_readHeader h _ _ _
  | readComplete => exact tables_judgeImage (tables_drive h _) _
  | attemptFails | clockStretch => exact tables_failAttempt (tables_drive h _)
  | reqLevel c b => exact tables_of_eq (s := s.reqTaken c b) h (by simp) (by simp)
  | senseLevel c b => exact tables_of_eq (s := s.senseTaken c b) h (by simp) (by simp)
  | voidedAside | incompleteAside | busFree | inhLevel | inhReleased | presenceOut | retryElapsed | requestOut =>
    exact tables_of_eq h rfl rfl
  | _ => exact tables_of_eq h (by simp) (by simp)

theorem tables_empty {s : State} (hs : s.starts = []) : TablesLaw s := by
  refine ⟨⟨by simp [hs], by simp [hs], by simp [hs]⟩, ?_⟩
  intro e he
  simp [hs] at he

theorem tables_of_resets {s u : State} {c : Instr} (ha : s.Resets c u) (h : TablesLaw s) : TablesLaw u := by
  cases ha with
  | powerFail => exact tables_of_eq h (by simp) (by simp)
  | vmainLost | suppliesLost | powerUp | rstnLow => exact tables_empty rfl
  | retentionLost | recover | rstnRelease => exact tables_of_eq h rfl rfl
  | start straps =>
    unfold begin sampleStraps
    dsimp only
    split <;> exact tables_empty rfl

theorem tables_of_exec {c : Instr} {s t : State} (hx : exec c s = .next t) (h : TablesLaw s) : TablesLaw t := by
  have hfinish {u : State} (hu : TablesLaw u) : TablesLaw u.finish := tables_of_eq hu (by simp) (by simp)
  cases hr : resets c with
  | false =>
    cases runs_of_exec hx hr with
    | nothing => exact h
    | pinTaken => exact tables_of_eq h rfl rfl
    | acts ha => exact hfinish (tables_of_acts ha h)
  | true =>
    cases resetRuns_of_exec hx hr with
    | nothing => exact h
    | unpowered => exact tables_of_eq h rfl rfl
    | acts ha => exact hfinish (tables_of_resets ha h)

theorem keepsPairs_tick : KeepsPairs StartEntry.tick := by
  refine ⟨fun e => ?_, fun e => ?_, fun e he => ?_⟩ <;> unfold StartEntry.tick <;> split
  case refine_3.isTrue => exact (Nat.sub_le _ _).trans he
  case refine_3.isFalse => exact he
  all_goals rfl

theorem tables_tick {s : State} (h : TablesLaw s) : TablesLaw s.tick := by
  unfold tick
  repeat' split
  · exact h
  · exact h
  · exact tables_mapStarts h keepsPairs_tick rfl rfl
  · exact h
  · exact tables_mapStarts h keepsPairs_tick rfl rfl

end State

/-- Settles O58: an admitted claim and a recount find the pair free, a settled or recounted pair moves from one table to the
other, and every other operation removes entries and slots or rewrites them within their pairs and limits. -/
theorem stepKeepsTheTables : Obligations.StepKeepsTheTables := by
  intro s t hlaw hapart h
  rcases step_cases h with ⟨c, rest, -, hx⟩ | ⟨-, rfl⟩
  · exact State.tables_of_exec hx ⟨hlaw, hapart⟩
  · exact State.tables_tick ⟨hlaw, hapart⟩

end Sys2Proof.Machine
end

section
/-!
The laws of the Claim Queue and of the Recipe Engine, said of a queue, an engine and the state that each channel is taken to
be in: a channel whose start is between queue and engine, in flight, is taken to be ON, which neither holds.
-/

namespace Sys2Proof.Machine

open Sys2Proof

/-! ## The Claim Queue -/

/-- The order of R47 between entries with distinct stamps, by the marks of their channels. -/
def QueueOrdered (q : ClaimQueue) (mark : Chan → Bool) : Prop := q.entries.Pairwise fun a b => entryBefore mark a b = true

/-- The queue holds one entry for each channel taken to be QUEUED or CLAIMING and for no other, with distinct stamps below
the stamp counter, which is in its range (R46, R47). -/
structure QueueHolds (q : ClaimQueue) (st : Chan → ChanState) : Prop where
  single : (q.entries.map (·.ch)).Nodup
  holds : ∀ c, c ∈ q.entries.map (·.ch) ↔ inQueue (st c)
  stamps : (q.entries.map (·.stamp)).Nodup
  below : ∀ e ∈ q.entries, e.stamp < q.nextStamp
  bound : q.nextStamp ≤ 65535

/-- What the order of R47 and the counter read of an entry. -/
def QueueEntry.key (e : QueueEntry) : Chan × Nat × Urg := (e.ch, e.stamp, e.eff)

theorem map_ch_of_keys (l : List QueueEntry) : l.map (·.ch) = (l.map QueueEntry.key).map (·.1) := by
  rw [List.map_map]
  rfl

theorem map_stamp_of_keys (l : List QueueEntry) : l.map (·.stamp) = (l.map QueueEntry.key).map (·.2.1) := by
  rw [List.map_map]
  rfl

/-- The order of R47 read off the keys. -/
def keyBefore (mark : Chan → Bool) (a b : Chan × Nat × Urg) : Bool :=
  decide (a.2.2 < b.2.2)
    || (decide (a.2.2 = b.2.2)
      && ((mark a.1 && !mark b.1) || (decide (mark a.1 = mark b.1) && decide (a.2.1 < b.2.1))))

theorem queueOrdered_iff (q : ClaimQueue) (mark : Chan → Bool) :
    QueueOrdered q mark ↔ (q.entries.map QueueEntry.key).Pairwise fun a b => keyBefore mark a b = true := by
  unfold QueueOrdered
  rw [List.pairwise_map]
  rfl

theorem queueOrdered_of_keys {q r : ClaimQueue} {mark : Chan → Bool} (h : QueueOrdered q mark)
    (hk : r.entries.map QueueEntry.key = q.entries.map QueueEntry.key) : QueueOrdered r mark := by
  rw [queueOrdered_iff] at h ⊢
  rw [hk]
  exact h

/-- The same keys and the same membership in the queue. -/
theorem QueueHolds.congr {q r : ClaimQueue} {st st' : Chan → ChanState} (h : QueueHolds q st)
    (hk : r.entries.map QueueEntry.key = q.entries.map QueueEntry.key) (hn : r.nextStamp = q.nextStamp)
    (hst : ∀ c, inQueue (st' c) ↔ inQueue (st c)) : QueueHolds r st' := by
  obtain ⟨hsingle, hholds, hstamps, hbelow, hbound⟩ := h
  have hch : r.entries.map (·.ch) = q.entries.map (·.ch) := by rw [map_ch_of_keys, hk, ← map_ch_of_keys]
  have hstamp : r.entries.map (·.stamp) = q.entries.map (·.stamp) := by
    rw [map_stamp_of_keys, hk, ← map_stamp_of_keys]
  refine ⟨by rw [hch]; exact hsingle, fun c => by rw [hch, hholds, hst], by rw [hstamp]; exact hstamps, fun e he => ?_,
    by rw [hn]; exact hbound⟩
  have hmem : e.stamp ∈ q.entries.map (·.stamp) := hstamp ▸ List.mem_map_of_mem he
  obtain ⟨x, hx, hxe⟩ := List.mem_map.mp hmem
  rw [hn, ← hxe]
  exact hbelow x hx

/-- Entries that leave, leave the others as they stand. -/
theorem QueueHolds.leave {q r : ClaimQueue} {st : Chan → ChanState} (h : QueueHolds q st) (c : Chan)
    (he : r.entries = q.entries.filter fun e => decide (e.ch ≠ c)) (hn : r.nextStamp = q.nextStamp) :
    QueueHolds r (Function.update st c .on) := by
  obtain ⟨hsingle, hholds, hstamps, hbelow, hbound⟩ := h
  have hsub : r.entries.Sublist q.entries := by rw [he]; exact List.filter_sublist
  refine ⟨hsingle.sublist (hsub.map _), fun d => ?_, hstamps.sublist (hsub.map _),
    fun e hmem => by rw [hn]; exact hbelow e (hsub.subset hmem), by rw [hn]; exact hbound⟩
  have hmem : d ∈ r.entries.map (·.ch) ↔ d ∈ q.entries.map (·.ch) ∧ d ≠ c := by
    rw [he]
    simp only [List.mem_map, List.mem_filter, decide_eq_true_eq]
    constructor
    · rintro ⟨e, ⟨hmem, hne⟩, rfl⟩
      exact ⟨⟨e, hmem, rfl⟩, hne⟩
    · rintro ⟨⟨e, hmem, rfl⟩, hne⟩
      exact ⟨e, ⟨hmem, hne⟩, rfl⟩
  rw [hmem, hholds]
  by_cases hd : d = c
  · simp [hd, inQueue]
  · simp [hd]

theorem queueOrdered_sublist {q r : ClaimQueue} {mark : Chan → Bool} (h : QueueOrdered q mark)
    (hsub : r.entries.Sublist q.entries) : QueueOrdered r mark := h.sublist hsub

theorem entryBefore_eq_true (mark : Chan → Bool) (a b : QueueEntry) :
    entryBefore mark a b = true ↔
      a.eff.val < b.eff.val ∨ a.eff.val = b.eff.val
        ∧ (mark a.ch = true ∧ mark b.ch = false ∨ mark a.ch = mark b.ch ∧ a.stamp < b.stamp) := by
  simp only [entryBefore, Bool.or_eq_true, Bool.and_eq_true, decide_eq_true_eq, Bool.not_eq_true', Fin.lt_def, Fin.ext_iff]

/-- The order of R47 is transitive, and total on distinct stamps. -/
theorem entryBefore_trans (mark : Chan → Bool) (a b c : QueueEntry) (h : entryBefore mark a b = true)
    (k : entryBefore mark b c = true) : entryBefore mark a c = true := by
  rw [entryBefore_eq_true] at *
  cases ha : mark a.ch <;> cases hb : mark b.ch <;> cases hc : mark c.ch <;> simp [ha, hb, hc] at h k ⊢ <;> omega

theorem entryBefore_total (mark : Chan → Bool) {a b : QueueEntry} (h : a.stamp ≠ b.stamp) :
    entryBefore mark a b = true ∨ entryBefore mark b a = true := by
  rw [entryBefore_eq_true, entryBefore_eq_true]
  cases ha : mark a.ch <;> cases hb : mark b.ch <;> simp <;> omega

/-- A queue put into the order of R47 stands in it. -/
theorem queueOrdered_sortBy {q : ClaimQueue} (mark : Chan → Bool) (h : (q.entries.map (·.stamp)).Nodup) :
    QueueOrdered { q with entries := sortBy (entryBefore mark) q.entries } mark := by
  refine sortBy_pairwise _ _ (entryBefore_trans mark) ?_
  refine (List.pairwise_map.mp h).imp fun hne => entryBefore_total mark hne

/-- The order in which the entries stand does not matter to what the queue holds. -/
theorem QueueHolds.perm {q r : ClaimQueue} {st : Chan → ChanState} (h : QueueHolds q st) (hp : r.entries.Perm q.entries)
    (hn : r.nextStamp = q.nextStamp) : QueueHolds r st := by
  obtain ⟨hsingle, hholds, hstamps, hbelow, hbound⟩ := h
  exact ⟨(hp.map _).nodup_iff.mpr hsingle, fun c => by rw [(hp.map _).mem_iff, hholds],
    (hp.map _).nodup_iff.mpr hstamps, fun e he => by rw [hn]; exact hbelow e (hp.mem_iff.mp he), by rw [hn]; exact hbound⟩

/-- Four channels have four entries at most (R46). -/
theorem QueueHolds.length_le {q : ClaimQueue} {st : Chan → ChanState} (h : QueueHolds q st) : q.entries.length ≤ 4 := by
  have hle := h.single.length_le_card
  simpa using hle

/-- The new stamp of an entry counts the older ones. -/
def olderThan (l : List QueueEntry) (n : Nat) : Nat := (l.filter fun f => decide (f.stamp < n)).length

theorem renumber_stamps (l : List QueueEntry) : (renumber l).map (·.stamp) = (l.map (·.stamp)).map (olderThan l) := by
  simp [renumber, olderThan, Function.comp_def]

theorem olderThan_cons (x : QueueEntry) (l : List QueueEntry) (n : Nat) :
    olderThan (x :: l) n = (if x.stamp < n then 1 else 0) + olderThan l n := by
  unfold olderThan
  by_cases hx : x.stamp < n <;> simp [hx]
  omega

theorem olderThan_mono (l : List QueueEntry) {m n : Nat} (h : m ≤ n) : olderThan l m ≤ olderThan l n := by
  induction l with
  | nil => exact le_refl _
  | cons x xs ih =>
    rw [olderThan_cons, olderThan_cons]
    split <;> split <;> omega

/-- An entry of the list counts for later stamps only. -/
theorem olderThan_lt {l : List QueueEntry} {e : QueueEntry} (he : e ∈ l) {n : Nat} (hn : e.stamp < n) :
    olderThan l e.stamp < olderThan l n := by
  induction l with
  | nil => cases he
  | cons x xs ih =>
    rw [olderThan_cons, olderThan_cons]
    rcases List.mem_cons.mp he with rfl | he
    · have hmono := olderThan_mono xs hn.le
      rw [if_neg (lt_irrefl _), if_pos hn]
      omega
    · have hlt := ih he
      split <;> split <;> omega

theorem olderThan_le_length (l : List QueueEntry) (n : Nat) : olderThan l n ≤ l.length := List.length_filter_le _ _

/-- Renumbered entries have distinct stamps below their number. -/
theorem renumber_stamps_nodup {l : List QueueEntry} (h : (l.map (·.stamp)).Nodup) :
    ((renumber l).map (·.stamp)).Nodup := by
  rw [renumber_stamps]
  refine List.Nodup.map_on (fun a ha b hb heq => ?_) h
  obtain ⟨x, hx, rfl⟩ := List.mem_map.mp ha
  obtain ⟨y, hy, rfl⟩ := List.mem_map.mp hb
  rcases Nat.lt_trichotomy x.stamp y.stamp with hlt | heq | hlt
  · exact absurd heq (olderThan_lt hx hlt).ne
  · exact heq
  · exact absurd heq (olderThan_lt hy hlt).ne'

theorem renumber_below (l : List QueueEntry) : ∀ e ∈ renumber l, e.stamp < l.length := by
  intro e he
  obtain ⟨x, hx, rfl⟩ := List.mem_map.mp he
  exact lt_of_lt_of_le (olderThan_lt hx (Nat.lt_succ_self x.stamp)) (olderThan_le_length l _)

/-- The entry that a channel joins the queue as (R48). -/
def joinEntry (k : ChannelConfig) (c : Chan) (stamp : Nat) : QueueEntry :=
  { ch := c, stamp := stamp, eff := k.urgency, patience := agingTimer k k.urgency, shedCalled := false, shedWait := none,
    voids := 0, offered := none }

/-- The queue with a new entry at its end, before its order is formed (R47, R48). -/
def ClaimQueue.joined (q : ClaimQueue) (k : ChannelConfig) (c : Chan) : ClaimQueue :=
  if 65535 ≤ q.nextStamp then
    { q with
      entries := renumber (q.entries ++ [joinEntry k c q.nextStamp])
      nextStamp := (q.entries ++ [joinEntry k c q.nextStamp]).length }
  else { q with entries := q.entries ++ [joinEntry k c q.nextStamp], nextStamp := q.nextStamp + 1 }

theorem State.join_eq (s : State) (c : Chan) :
    s.join c = ({ s.enter c .queued with queue := s.queue.joined (s.cfg c) c } : State).reform.notify := rfl

/-- A channel that has no entry joins the queue. -/
theorem QueueHolds.join {q : ClaimQueue} {st : Chan → ChanState} (h : QueueHolds q st) (k : ChannelConfig) {c : Chan}
    (hc : ¬inQueue (st c)) : QueueHolds (q.joined k c) (Function.update st c .queued) := by
  have hlen := h.length_le
  obtain ⟨hsingle, hholds, hstamps, hbelow, hbound⟩ := h
  have hnew : ((q.entries ++ [joinEntry k c q.nextStamp]).map (·.stamp)).Nodup := by
    rw [List.map_append, List.nodup_append]
    refine ⟨hstamps, by simp, fun a ha b hb => ?_⟩
    obtain ⟨e, he, rfl⟩ := List.mem_map.mp ha
    have hlt := hbelow e he
    simp only [List.map_singleton, List.mem_singleton, joinEntry] at hb
    omega
  have hchs : (q.joined k c).entries.map (·.ch) = q.entries.map (·.ch) ++ [c] := by
    unfold ClaimQueue.joined
    split <;> simp [renumber, joinEntry, Function.comp_def]
  refine ⟨?_, fun d => ?_, ?_, ?_, ?_⟩
  · rw [hchs, List.nodup_append]
    refine ⟨hsingle, by simp, fun a ha b hb heq => hc ?_⟩
    rw [List.mem_singleton.mp hb] at heq
    exact (hholds c).mp (heq ▸ ha)
  · rw [hchs, List.mem_append, List.mem_singleton, hholds]
    by_cases hd : d = c
    · simp [hd, inQueue]
    · simp [hd]
  · unfold ClaimQueue.joined
    split
    · exact renumber_stamps_nodup hnew
    · exact hnew
  · unfold ClaimQueue.joined
    split
    · exact renumber_below _
    · intro e he
      rcases List.mem_append.mp he with he | he
      · exact (hbelow e he).trans (Nat.lt_succ_self _)
      · rw [List.mem_singleton.mp he]
        exact Nat.lt_succ_self _
  · unfold ClaimQueue.joined
    split
    · rw [List.length_append, List.length_singleton]
      exact (Nat.succ_le_succ hlen).trans (by omega)
    · exact Nat.lt_of_not_le (by assumption)

/-! ## The Recipe Engine -/

/-- The engine holds each channel taken to be STARTING, PENDING and SUSPENDED in its running slot, its PENDING slot and its
stack, and no other (R90, R110). -/
structure EngineHolds (e : Engine) (st : Chan → ChanState) : Prop where
  running : ∀ c, e.running.map (·.ch) = some c ↔ st c = .starting
  waiting : ∀ c, e.waiting = some c ↔ st c = .pending
  stacked : ∀ c, c ∈ e.stack.map (·.ch) ↔ st c = .suspended
  single : (e.stack.map (·.ch)).Nodup

/-- The same channels in the slots and on the stack, and the same states but for such as the engine does not hold. -/
theorem EngineHolds.congr {e f : Engine} {st st' : Chan → ChanState} (h : EngineHolds e st)
    (hr : f.running.map (·.ch) = e.running.map (·.ch)) (hw : f.waiting = e.waiting)
    (hs : f.stack.map (·.ch) = e.stack.map (·.ch))
    (hst : ∀ c, st' c = st c ∨ (st c).inEngine = false ∧ (st' c).inEngine = false) : EngineHolds f st' := by
  obtain ⟨hrun, hwait, hstack, hsingle⟩ := h
  have hiff (c : Chan) (x : ChanState) (hx : x.inEngine = true) : st' c = x ↔ st c = x := by
    rcases hst c with heq | ⟨hno, hno'⟩
    · rw [heq]
    · constructor
      · intro heq; rw [heq, hx] at hno'; cases hno'
      · intro heq; rw [heq, hx] at hno; cases hno
  exact ⟨fun c => by rw [hr, hrun, hiff c _ rfl], fun c => by rw [hw, hwait, hiff c _ rfl],
    fun c => by rw [hs, hstack, hiff c _ rfl], by rw [hs]; exact hsingle⟩

/-- The start in the running slot leaves it. -/
theorem EngineHolds.stopRunning {e f : Engine} {st : Chan → ChanState} {r : RunSlot} (h : EngineHolds e st)
    (he : e.running = some r) (hr : f.running = none) (hw : f.waiting = e.waiting) (hs : f.stack = e.stack) :
    EngineHolds f (Function.update st r.ch .on) := by
  obtain ⟨hrun, hwait, hstack, hsingle⟩ := h
  have hch : st r.ch = .starting := (hrun r.ch).mp (by rw [he]; rfl)
  refine ⟨fun c => ?_, fun c => ?_, fun c => ?_, by rw [hs]; exact hsingle⟩
  · have hc := hrun c
    rw [he] at hc
    by_cases hrc : c = r.ch
    · simp [hrc, hr]
    · simp only [hr, Function.update_of_ne hrc, Option.map_none, ← hc, Option.map_some]
      simpa using Ne.symm hrc
  · rw [hw, hwait]
    by_cases hrc : c = r.ch
    · simp [hrc, hch]
    · rw [Function.update_of_ne hrc]
  · rw [hs, hstack]
    by_cases hrc : c = r.ch
    · simp [hrc, hch]
    · rw [Function.update_of_ne hrc]

/-- The start in the PENDING slot leaves it. -/
theorem EngineHolds.stopWaiting {e f : Engine} {st : Chan → ChanState} {d : Chan} (h : EngineHolds e st)
    (he : e.waiting = some d) (hr : f.running = e.running) (hw : f.waiting = none) (hs : f.stack = e.stack) :
    EngineHolds f (Function.update st d .on) := by
  obtain ⟨hrun, hwait, hstack, hsingle⟩ := h
  have hch : st d = .pending := (hwait d).mp he
  refine ⟨fun c => ?_, fun c => ?_, fun c => ?_, by rw [hs]; exact hsingle⟩
  · rw [hr, hrun]
    by_cases hrc : c = d
    · simp [hrc, hch]
    · rw [Function.update_of_ne hrc]
  · have hc := hwait c
    rw [he] at hc
    by_cases hrc : c = d
    · simp [hrc, hw]
    · simp only [hw, Function.update_of_ne hrc, ← hc]
      simpa using Ne.symm hrc
  · rw [hs, hstack]
    by_cases hrc : c = d
    · simp [hrc, hch]
    · rw [Function.update_of_ne hrc]

/-- A record leaves the stack. -/
theorem EngineHolds.unstack {e f : Engine} {st : Chan → ChanState} {d : Chan} (h : EngineHolds e st)
    (hd : st d = .suspended) (hr : f.running = e.running) (hw : f.waiting = e.waiting)
    (hs : f.stack = e.stack.filter fun k => decide (k.ch ≠ d)) : EngineHolds f (Function.update st d .on) := by
  obtain ⟨hrun, hwait, hstack, hsingle⟩ := h
  refine ⟨fun c => ?_, fun c => ?_, fun c => ?_, ?_⟩
  · rw [hr, hrun]
    by_cases hrc : c = d
    · simp [hrc, hd]
    · rw [Function.update_of_ne hrc]
  · rw [hw, hwait]
    by_cases hrc : c = d
    · simp [hrc, hd]
    · rw [Function.update_of_ne hrc]
  · have hmem : c ∈ f.stack.map (·.ch) ↔ c ∈ e.stack.map (·.ch) ∧ c ≠ d := by
      rw [hs]
      simp only [List.mem_map, List.mem_filter, decide_eq_true_eq]
      constructor
      · rintro ⟨k, ⟨hk, hne⟩, rfl⟩
        exact ⟨⟨k, hk, rfl⟩, hne⟩
      · rintro ⟨⟨k, hk, rfl⟩, hne⟩
        exact ⟨k, ⟨hk, hne⟩, rfl⟩
    rw [hmem, hstack]
    by_cases hrc : c = d
    · simp [hrc]
    · simp [hrc]
  · rw [hs]
    exact hsingle.sublist (List.filter_sublist.map _)

/-- The top record leaves the stack. -/
theorem EngineHolds.pop {e f : Engine} {st : Chan → ChanState} {k : Context} {rest : List Context} (h : EngineHolds e st)
    (he : e.stack = k :: rest) (hr : f.running = e.running) (hw : f.waiting = e.waiting) (hs : f.stack = rest) :
    EngineHolds f (Function.update st k.ch .on) := by
  have hsus : st k.ch = .suspended := (h.stacked k.ch).mp (by simp [he])
  refine h.unstack hsus hr hw ?_
  have hnodup := h.single
  rw [he, List.map_cons, List.nodup_cons] at hnodup
  rw [hs, he, List.filter_cons_of_neg (by simp), eq_comm, List.filter_eq_self]
  intro x hx
  rw [decide_eq_true_eq]
  rintro heq
  exact hnodup.1 (heq ▸ List.mem_map_of_mem hx)

/-- A channel takes the free running slot. -/
theorem EngineHolds.run {e f : Engine} {st : Chan → ChanState} {r : RunSlot} (h : EngineHolds e st)
    (he : e.running = none) (hc : (st r.ch).inEngine = false) (hr : f.running = some r) (hw : f.waiting = e.waiting)
    (hs : f.stack = e.stack) : EngineHolds f (Function.update st r.ch .starting) := by
  obtain ⟨hrun, hwait, hstack, hsingle⟩ := h
  refine ⟨fun c => ?_, fun c => ?_, fun c => ?_, by rw [hs]; exact hsingle⟩
  · by_cases hrc : c = r.ch
    · simp [hrc, hr]
    · have hnone := hrun c
      rw [he] at hnone
      simp only [hr, Function.update_of_ne hrc, ← hnone, Option.map_some, Option.map_none]
      simpa using Ne.symm hrc
  · rw [hw, hwait]
    by_cases hrc : c = r.ch
    · subst hrc
      rw [Function.update_self]
      exact ⟨fun heq => by simp [heq, ChanState.inEngine] at hc, fun heq => by cases heq⟩
    · rw [Function.update_of_ne hrc]
  · rw [hs, hstack]
    by_cases hrc : c = r.ch
    · subst hrc
      rw [Function.update_self]
      exact ⟨fun heq => by simp [heq, ChanState.inEngine] at hc, fun heq => by cases heq⟩
    · rw [Function.update_of_ne hrc]

/-- A channel takes the free PENDING slot. -/
theorem EngineHolds.wait {e f : Engine} {st : Chan → ChanState} {d : Chan} (h : EngineHolds e st)
    (he : e.waiting = none) (hc : (st d).inEngine = false) (hr : f.running = e.running) (hw : f.waiting = some d)
    (hs : f.stack = e.stack) : EngineHolds f (Function.update st d .pending) := by
  obtain ⟨hrun, hwait, hstack, hsingle⟩ := h
  refine ⟨fun c => ?_, fun c => ?_, fun c => ?_, by rw [hs]; exact hsingle⟩
  · rw [hr, hrun]
    by_cases hrc : c = d
    · subst hrc
      rw [Function.update_self]
      exact ⟨fun heq => by simp [heq, ChanState.inEngine] at hc, fun heq => by cases heq⟩
    · rw [Function.update_of_ne hrc]
  · by_cases hrc : c = d
    · simp [hrc, hw]
    · have hnone := hwait c
      rw [he] at hnone
      simp only [hw, Function.update_of_ne hrc, ← hnone]
      simpa using Ne.symm hrc
  · rw [hs, hstack]
    by_cases hrc : c = d
    · subst hrc
      rw [Function.update_self]
      exact ⟨fun heq => by simp [heq, ChanState.inEngine] at hc, fun heq => by cases heq⟩
    · rw [Function.update_of_ne hrc]

/-- A record is pushed. -/
theorem EngineHolds.push {e f : Engine} {st : Chan → ChanState} {k : Context} (h : EngineHolds e st)
    (hc : (st k.ch).inEngine = false) (hr : f.running = e.running) (hw : f.waiting = e.waiting)
    (hs : f.stack = k :: e.stack) : EngineHolds f (Function.update st k.ch .suspended) := by
  obtain ⟨hrun, hwait, hstack, hsingle⟩ := h
  refine ⟨fun c => ?_, fun c => ?_, fun c => ?_, ?_⟩
  · rw [hr, hrun]
    by_cases hrc : c = k.ch
    · subst hrc
      rw [Function.update_self]
      exact ⟨fun heq => by simp [heq, ChanState.inEngine] at hc, fun heq => by cases heq⟩
    · rw [Function.update_of_ne hrc]
  · rw [hw, hwait]
    by_cases hrc : c = k.ch
    · subst hrc
      rw [Function.update_self]
      exact ⟨fun heq => by simp [heq, ChanState.inEngine] at hc, fun heq => by cases heq⟩
    · rw [Function.update_of_ne hrc]
  · rw [hs, List.map_cons, List.mem_cons, hstack]
    by_cases hrc : c = k.ch
    · simp [hrc]
    · simp [hrc]
  · rw [hs, List.map_cons, List.nodup_cons]
    exact ⟨fun hmem => by simp [(hstack k.ch).mp hmem, ChanState.inEngine] at hc, hsingle⟩

/-- An engine that holds nothing. -/
theorem engineHolds_empty {e : Engine} {st : Chan → ChanState} (hr : e.running = none) (hw : e.waiting = none)
    (hs : e.stack = []) (hst : ∀ c, (st c).inEngine = false) : EngineHolds e st := by
  have hno (c : Chan) (x : ChanState) (hx : x.inEngine = true) : ¬st c = x := fun heq => by
    have hc := hst c
    rw [heq, hx] at hc
    cases hc
  exact ⟨fun c => by simp [hr, hno c .starting rfl], fun c => by simp [hw, hno c .pending rfl],
    fun c => by simp [hs, hno c .suspended rfl], by simp [hs]⟩

end Sys2Proof.Machine
end

section
/-!
The laws of queue, engine and outputs with some channels in flight, and what the operations on one channel do to them.
-/

namespace Sys2Proof.Machine

open Sys2Proof

/-- The states in which the outputs may be on (R65). -/
def ChanState.drives : ChanState → Bool
  | .starting | .suspended | .settling | .on => true
  | .disabled | .idle | .queued | .claiming | .pending | .shed | .faulted => false

/-- The states of a channel that neither the queue nor the engine holds. -/
def ChanState.loose : ChanState → Bool
  | .disabled | .idle | .settling | .on | .shed | .faulted => true
  | .queued | .claiming | .pending | .starting | .suspended => false

theorem ChanState.loose_iff (x : ChanState) : x.loose = true ↔ ¬inQueue x ∧ x.inEngine = false := by
  cases x <;> simp [loose, inQueue, inEngine]

/-- What the laws of queue, engine and outputs read of a channel. -/
def Channel.core (k : Channel) : ChanState × Bool × Bool × Bool := (k.state, k.mark, k.pre, k.main)

namespace State

/-! ## Channels after each update -/

theorem chan_setRelease (s : State) (c d : Chan) (r : Release) :
    (s.setRelease c r).chan d = if d = c then { s.chan c with release := r } else s.chan d :=
  chan_modChan s c d fun k => { k with release := r }

theorem chan_clearRelease (s : State) (c d : Chan) :
    (s.clearRelease c).chan d = if d = c then { s.chan c with release := .none } else s.chan d :=
  chan_setRelease s c d .none

theorem chan_outsOff (s : State) (c d : Chan) :
    (s.outsOff c).chan d = if d = c then { s.chan c with pre := false, main := false } else s.chan d :=
  chan_modChan s c d _

theorem chan_replaceSettled (s : State) (c d : Chan) (r : Release) :
    (s.replaceSettled c r).chan d = if d = c then { s.chan c with release := r, settleWithdrawn := false } else s.chan d := by
  have h : (s.replaceSettled c r).chan d
      = ((s.setRelease c r).modChan c fun k => { k with settleWithdrawn := false }).chan d := rfl
  rw [h, chan_modChan, chan_setRelease, chan_setRelease]
  split <;> simp [*]

theorem chan_clearMark (s : State) (c d : Chan) :
    (s.clearMark c).chan d = if d = c then { s.chan c with mark := false } else s.chan d := by
  unfold clearMark
  split
  · have h (u : State) : u.reform.notify.judgeSampling.chan d = u.chan d := by
      rw [chan_of_channels (s := u.reform.notify) (by simp)]
      rfl
    dsimp only
    rw [h]
    exact chan_modChan s c d fun k => { k with mark := false }
  · next hm =>
    split
    · next hd =>
      subst hd
      rw [Bool.not_eq_true] at hm
      rw [← hm]
    · rfl

theorem chan_join (s : State) (c d : Chan) :
    (s.join c).chan d = if d = c then { s.chan c with state := .queued } else s.chan d := chan_enter s c d .queued

theorem chan_leave (s : State) (c d : Chan) : (s.leave c).chan d = s.chan d := rfl

theorem chan_writeSeq (s : State) (c d : Chan) (q : Seq) :
    (s.writeSeq c q).chan d = if d = c then { s.chan c with seq := some q, renewals := 0 } else s.chan d :=
  chan_modChan s c d _

/-! ## Channels in flight -/

/-- The states that queue and engine go by: a channel in flight is neither's, as if it were ON. -/
def flying (s : State) (X : List Chan) (c : Chan) : ChanState := if c ∈ X then .on else (s.chan c).state

theorem flying_congr {s t : State} {X : List Chan} (h : ∀ d, d ∉ X → (t.chan d).state = (s.chan d).state) :
    t.flying X = s.flying X := by
  funext d
  unfold flying
  split
  · rfl
  · next hd => exact h d hd

theorem flying_cons (s : State) (c : Chan) (X : List Chan) : s.flying (c :: X) = Function.update (s.flying X) c .on := by
  funext d
  unfold flying
  by_cases hd : d = c
  · simp [hd]
  · simp [hd]

theorem flying_set {s t : State} {c : Chan} {X : List Chan} (hc : c ∉ X)
    (h : ∀ d, d ≠ c → (t.chan d).state = (s.chan d).state) :
    t.flying X = Function.update (s.flying X) c (t.chan c).state := by
  funext d
  unfold flying
  by_cases hd : d = c
  · simp [hd, hc]
  · rw [Function.update_of_ne hd, h d hd]

/-- A channel in flight comes to rest. -/
theorem flying_land {s t : State} {c : Chan} {X : List Chan} (hc : c ∉ X)
    (h : ∀ d, d ≠ c → (t.chan d).state = (s.chan d).state) :
    t.flying X = Function.update (s.flying (c :: X)) c (t.chan c).state := by
  rw [flying_cons, Function.update_idem, flying_set hc h]

theorem flying_of_not_mem (s : State) {X : List Chan} {c : Chan} (h : c ∉ X) : s.flying X c = (s.chan c).state := by
  simp [flying, h]

theorem flying_of_mem (s : State) {X : List Chan} {c : Chan} (h : c ∈ X) : s.flying X c = .on := by
  simp [flying, h]

/-- The laws of queue, engine and outputs, with some channels in flight. -/
structure Form (X : List Chan) (s : State) : Prop where
  ordered : QueueOrdered s.queue s.markOf
  queue : QueueHolds s.queue (s.flying X)
  engine : EngineHolds s.engine (s.flying X)
  outs : ∀ c, (s.flying X c).drives = true ∨ outsAreOff (s.chan c)

theorem queueEntry_isSome (s : State) (c : Chan) :
    (s.queueEntry c).isSome = true ↔ c ∈ s.queue.entries.map (·.ch) := by
  unfold queueEntry
  rw [List.find?_isSome]
  simp

theorem flying_nil (s : State) : s.flying [] = fun c => (s.chan c).state := by
  funext c
  simp [flying]

theorem drives_iff (x : ChanState) :
    x.drives = true ↔ x = .starting ∨ x = .suspended ∨ x = .settling ∨ x = .on := by
  cases x <;> simp [ChanState.drives]

theorem form_nil_iff (s : State) : s.Form [] ↔ QueueLaw s ∧ EngineLaw s ∧ OutputLaw s := by
  have hord : QueueOrdered s.queue s.markOf ↔ s.queue.entries.Pairwise (waitsBefore s) := by
    unfold QueueOrdered
    simp only [entryBefore_iff]
  constructor
  · rintro ⟨ho, hq, he, hout⟩
    have hlen := hq.length_le
    rw [flying_nil] at hq he
    obtain ⟨hsingle, hholds, hstamps, hbelow, hbound⟩ := hq
    obtain ⟨hrun, hwait, hstack, hnodup⟩ := he
    refine ⟨⟨hsingle, fun c => (queueEntry_isSome s c).trans (hholds c), hlen, hord.mp ho, hstamps, hbelow, hbound⟩,
      ⟨fun c => ⟨hrun c, hwait c, hstack c⟩, hnodup⟩, fun c => ?_⟩
    have hc := hout c
    rw [flying_nil, drives_iff] at hc
    simpa only [or_assoc] using hc
  · rintro ⟨⟨hsingle, hholds, hlen, ho, hstamps, hbelow, hbound⟩, ⟨heng, hnodup⟩, hout⟩
    refine ⟨hord.mpr ho, ?_, ?_, fun c => ?_⟩
    · rw [flying_nil]
      exact ⟨hsingle, fun c => (queueEntry_isSome s c).symm.trans (hholds c), hstamps, hbelow, hbound⟩
    · rw [flying_nil]
      exact ⟨fun c => (heng c).1, fun c => (heng c).2.1, fun c => (heng c).2.2, hnodup⟩
    · rw [flying_nil, drives_iff]
      simpa only [or_assoc] using hout c

/-- What the laws read of queue and engine is the same. -/
structure sameStores (s t : State) : Prop where
  keys : t.queue.entries.map QueueEntry.key = s.queue.entries.map QueueEntry.key
  nextStamp : t.queue.nextStamp = s.queue.nextStamp
  running : t.engine.running.map (·.ch) = s.engine.running.map (·.ch)
  waiting : t.engine.waiting = s.engine.waiting
  stack : t.engine.stack.map (·.ch) = s.engine.stack.map (·.ch)

theorem sameStores_of_eq {s t : State} (hq : t.queue = s.queue) (he : t.engine = s.engine) : s.sameStores t :=
  ⟨by rw [hq], by rw [hq], by rw [he], by rw [he], by rw [he]⟩

/-- With the same queue and engine, and each channel taken to be in the same state or in ones that neither holds. -/
theorem Form.reshape {X Y : List Chan} {s t : State} (h : s.Form X) (k : s.sameStores t) (hmark : t.markOf = s.markOf)
    (hfly : ∀ d, t.flying Y d = s.flying X d ∨ (s.flying X d).loose = true ∧ (t.flying Y d).loose = true)
    (hout : ∀ d, (t.flying Y d).drives = true ∨ outsAreOff (t.chan d)) : t.Form Y := by
  obtain ⟨hord, hqueue, hengine, -⟩ := h
  obtain ⟨hkeys, hn, hr, hw, hs⟩ := k
  refine ⟨by rw [hmark]; exact queueOrdered_of_keys hord hkeys, hqueue.congr hkeys hn fun d => ?_,
    hengine.congr hr hw hs fun d => ?_, hout⟩
  · rcases hfly d with heq | ⟨hls, hlt⟩
    · rw [heq]
    · exact ⟨fun hin => absurd hin ((ChanState.loose_iff _).mp hlt).1, fun hin => absurd hin ((ChanState.loose_iff _).mp hls).1⟩
  · rcases hfly d with heq | ⟨hls, hlt⟩
    · exact .inl heq
    · exact .inr ⟨((ChanState.loose_iff _).mp hls).2, ((ChanState.loose_iff _).mp hlt).2⟩

/-- What queue, engine and outputs go by is the same. -/
structure sameCore (s t : State) : Prop extends s.sameStores t where
  chans : ∀ c, (t.chan c).core = (s.chan c).core

theorem core_iff (j k : Channel) :
    j.core = k.core ↔ j.state = k.state ∧ j.mark = k.mark ∧ j.pre = k.pre ∧ j.main = k.main := by
  simp only [Channel.core, Prod.mk.injEq]

theorem sameCore_of_eq {s t : State} (hc : t.channels = s.channels) (hq : t.queue = s.queue) (he : t.engine = s.engine) :
    s.sameCore t :=
  ⟨sameStores_of_eq hq he, fun c => by rw [chan_of_channels hc]⟩

/-- The outputs' law of a channel whose record is the same to it. -/
theorem Form.out_congr {X Y : List Chan} {s t : State} (h : s.Form X) {d : Chan} (hd : (t.chan d).core = (s.chan d).core)
    (hfly : t.flying Y d = s.flying X d) : (t.flying Y d).drives = true ∨ outsAreOff (t.chan d) := by
  obtain ⟨-, -, hpre, hmain⟩ := (core_iff _ _).mp hd
  rw [hfly]
  unfold outsAreOff
  rw [hpre, hmain]
  exact h.outs d

theorem Form.congr {X : List Chan} {s t : State} (h : s.Form X) (k : s.sameCore t) : t.Form X := by
  have hfly (d : Chan) : t.flying X d = s.flying X d :=
    congrFun (flying_congr fun e _ => ((core_iff _ _).mp (k.chans e)).1) d
  exact h.reshape k.tosameStores (funext fun c => ((core_iff _ _).mp (k.chans c)).2.1) (fun d => .inl (hfly d))
    fun d => h.out_congr (k.chans d) (hfly d)

theorem Form.of_eq {X : List Chan} {s t : State} (h : s.Form X) (hc : t.channels = s.channels) (hq : t.queue = s.queue)
    (he : t.engine = s.engine) : t.Form X := h.congr (sameCore_of_eq hc hq he)

/-- A channel's record rewritten but for its state, mark and outputs. -/
theorem sameCore_modChan (s : State) (c : Chan) {f : Channel → Channel} (hf : ∀ k : Channel, (f k).core = k.core) :
    s.sameCore (s.modChan c f) := by
  refine ⟨sameStores_of_eq rfl rfl, fun d => ?_⟩
  rw [chan_modChan]
  split
  · next hd => rw [hf, hd]
  · rfl

/-- The records of all channels but one are the same to queue, engine and outputs, and the one has its mark. -/
structure changesOnly (s : State) (c : Chan) (t : State) : Prop where
  others : ∀ d, d ≠ c → (t.chan d).core = (s.chan d).core
  mark : (t.chan c).mark = (s.chan c).mark

theorem changesOnly.marks {s t : State} {c : Chan} (h : s.changesOnly c t) : t.markOf = s.markOf := by
  funext d
  by_cases hd : d = c
  · rw [hd]
    exact h.mark
  · exact ((core_iff _ _).mp (h.others d hd)).2.1

theorem changesOnly.flying {s t : State} {c d : Chan} (h : s.changesOnly c t) (X : List Chan) (hd : d ≠ c) :
    t.flying X d = s.flying X d := by
  unfold State.flying
  rw [((core_iff _ _).mp (h.others d hd)).1]

theorem loose_flying {s : State} (X : List Chan) {c : Chan} (h : (s.chan c).state.loose = true) :
    (s.flying X c).loose = true := by
  unfold flying
  split
  · rfl
  · exact h

theorem drives_flying {s : State} (X : List Chan) {c : Chan} (h : (s.chan c).state.drives = true ∨ outsAreOff (s.chan c)) :
    (s.flying X c).drives = true ∨ outsAreOff (s.chan c) := by
  unfold flying
  split
  · exact .inl rfl
  · exact h

/-- A channel that queue and engine do not hold takes another such state. -/
theorem Form.move {X : List Chan} {s t : State} (h : s.Form X) {c : Chan} (hc : (s.chan c).state.loose = true)
    (hc' : (t.chan c).state.loose = true) (hout : (t.chan c).state.drives = true ∨ outsAreOff (t.chan c))
    (hch : s.changesOnly c t) (k : s.sameStores t) : t.Form X := by
  refine h.reshape k hch.marks (fun d => ?_) fun d => ?_
  · by_cases hd : d = c
    · subst hd
      exact .inr ⟨loose_flying X hc, loose_flying X hc'⟩
    · exact .inl (hch.flying X hd)
  · by_cases hd : d = c
    · subst hd
      exact drives_flying X hout
    · exact h.out_congr (hch.others d hd) (hch.flying X hd)

theorem flying_cons_of_ne (s : State) {c d : Chan} (X : List Chan) (h : d ≠ c) : s.flying (c :: X) d = s.flying X d := by
  rw [flying_cons, Function.update_of_ne h]

theorem flying_cons_self (s : State) (c : Chan) (X : List Chan) : s.flying (c :: X) c = .on := by
  rw [flying_cons, Function.update_self]

/-- A channel that queue and engine do not hold may be taken to be in flight. -/
theorem Form.detach {X : List Chan} {s : State} (h : s.Form X) {c : Chan} (hc : (s.chan c).state.loose = true) :
    s.Form (c :: X) := by
  refine h.reshape (sameStores_of_eq rfl rfl) rfl (fun d => ?_) fun d => ?_
  · by_cases hd : d = c
    · subst hd
      exact .inr ⟨loose_flying X hc, by rw [flying_cons_self]; rfl⟩
    · exact .inl (flying_cons_of_ne s X hd)
  · by_cases hd : d = c
    · subst hd
      exact .inl (by rw [flying_cons_self]; rfl)
    · exact h.out_congr rfl (flying_cons_of_ne s X hd)

/-- A channel in flight comes to rest in a state that queue and engine do not hold. -/
theorem Form.land {X : List Chan} {s t : State} {c : Chan} (h : s.Form (c :: X))
    (hc' : (t.chan c).state.loose = true) (hout : (t.chan c).state.drives = true ∨ outsAreOff (t.chan c))
    (hch : s.changesOnly c t) (k : s.sameStores t) : t.Form X := by
  have hother {d : Chan} (hd : d ≠ c) : t.flying X d = s.flying (c :: X) d := by
    rw [flying_cons_of_ne s X hd, hch.flying X hd]
  refine h.reshape k hch.marks (fun d => ?_) fun d => ?_
  · by_cases hd : d = c
    · subst hd
      exact .inr ⟨by rw [flying_cons_self]; rfl, loose_flying X hc'⟩
    · exact .inl (hother hd)
  · by_cases hd : d = c
    · subst hd
      exact drives_flying X hout
    · exact h.out_congr (hch.others d hd) (hother hd)

/-- The record of a channel in flight may change as it likes, but for its mark. -/
theorem Form.aloft {X : List Chan} {s t : State} {c : Chan} (h : s.Form X) (hc : c ∈ X) (hch : s.changesOnly c t)
    (k : s.sameStores t) : t.Form X := by
  refine h.reshape k hch.marks (fun d => .inl ?_) fun d => ?_
  · by_cases hd : d = c
    · subst hd
      rw [flying_of_mem _ hc, flying_of_mem _ hc]
    · exact hch.flying X hd
  · by_cases hd : d = c
    · subst hd
      rw [flying_of_mem _ hc]
      exact .inl rfl
    · exact h.out_congr (hch.others d hd) (hch.flying X hd)

theorem changesOnly_modChan (s : State) (c : Chan) {f : Channel → Channel} (hf : (f (s.chan c)).mark = (s.chan c).mark) :
    s.changesOnly c (s.modChan c f) := by
  refine ⟨fun d hd => ?_, ?_⟩
  · rw [chan_modChan, if_neg hd]
  · rw [chan_modChan, if_pos rfl, hf]

/-! ## The queue -/

/-- A channel in the queue leaves it and is in flight. -/
theorem Form.leave {X : List Chan} {s : State} (h : s.Form X) (c : Chan) (hc : (s.flying X c).inEngine = false) :
    (s.leave c).Form (c :: X) := by
  obtain ⟨hord, hqueue, hengine, houts⟩ := h
  have hfly : (s.leave c).flying (c :: X) = Function.update (s.flying X) c .on := flying_cons s c X
  refine ⟨queueOrdered_sublist hord List.filter_sublist, ?_, ?_, fun d => ?_⟩
  · rw [hfly]
    exact hqueue.leave c rfl rfl
  · rw [hfly]
    refine hengine.congr rfl rfl rfl fun d => ?_
    by_cases hd : d = c
    · subst hd
      exact .inr ⟨hc, by rw [Function.update_self]; rfl⟩
    · exact .inl (Function.update_of_ne hd _ _)
  · rw [hfly]
    by_cases hd : d = c
    · subst hd
      exact .inl (by rw [Function.update_self]; rfl)
    · rw [Function.update_of_ne hd]
      exact houts d

/-- A channel in flight joins the queue, its outputs at off level. -/
theorem Form.join {X : List Chan} {s : State} {c : Chan} (h : s.Form (c :: X)) (hc : c ∉ X) (hout : outsAreOff (s.chan c)) :
    (s.join c).Form X := by
  obtain ⟨hord, hqueue, hengine, houts⟩ := h
  have hstate : ((s.join c).chan c).state = .queued := by rw [chan_join, if_pos rfl]
  have hfly : (s.join c).flying X = Function.update (s.flying (c :: X)) c .queued := by
    rw [← hstate]
    exact flying_land hc fun d hd => by rw [chan_join, if_neg hd]
  have hon : s.flying (c :: X) c = .on := flying_cons_self s c X
  have hjoined := hqueue.join (s.cfg c) (c := c) (by rw [hon]; simp [inQueue])
  refine ⟨queueOrdered_sortBy _ hjoined.stamps, ?_, ?_, fun d => ?_⟩
  · rw [hfly]
    exact hjoined.perm (sortBy_perm _ _) rfl
  · rw [hfly]
    refine hengine.congr rfl rfl rfl fun d => ?_
    by_cases hd : d = c
    · subst hd
      exact .inr ⟨by rw [hon]; rfl, by rw [Function.update_self]; rfl⟩
    · exact .inl (Function.update_of_ne hd _ _)
  · rw [hfly]
    by_cases hd : d = c
    · subst hd
      refine .inr ?_
      rw [chan_join, if_pos rfl]
      exact hout
    · rw [Function.update_of_ne hd, chan_join, if_neg hd]
      exact houts d

/-- The order is formed again after marks or effective urgencies changed. -/
theorem Form.reform {X : List Chan} {s : State} (hqueue : QueueHolds s.queue (s.flying X))
    (hengine : EngineHolds s.engine (s.flying X)) (houts : ∀ c, (s.flying X c).drives = true ∨ outsAreOff (s.chan c)) :
    s.reform.Form X :=
  ⟨queueOrdered_sortBy _ hqueue.stamps, hqueue.perm (sortBy_perm _ _) rfl, hengine, houts⟩

theorem Form.clearMark {X : List Chan} {s : State} (h : s.Form X) (c : Chan) : (s.clearMark c).Form X := by
  obtain ⟨hord, hqueue, hengine, houts⟩ := h
  unfold State.clearMark
  split
  · dsimp only
    generalize hu : ({ s.modChan c (fun k => { k with mark := false }) with history.marks := _ } : State) = u
    have hq : u.queue = s.queue := by rw [← hu]; rfl
    have he : u.engine = s.engine := by rw [← hu]; rfl
    have hchan (d : Chan) : u.chan d = if d = c then { s.chan c with mark := false } else s.chan d := by
      rw [← hu]
      exact chan_modChan s c d fun k => { k with mark := false }
    have hfly : u.flying X = s.flying X := flying_congr fun d _ => by
      rw [hchan]
      split
      · next hd => rw [hd]
      · rfl
    have hform : u.reform.Form X := by
      refine Form.reform (by rw [hq, hfly]; exact hqueue) (by rw [he, hfly]; exact hengine) fun d => ?_
      rw [hfly, hchan]
      split
      · next hd => subst hd; exact houts d
      · exact houts d
    exact hform.of_eq (by simp) (by simp) (by simp)
  · exact ⟨hord, hqueue, hengine, houts⟩

theorem map_key_modEntry (s : State) (c : Chan) {f : QueueEntry → QueueEntry} (hf : ∀ e, (f e).key = e.key) :
    (s.modEntry c f).queue.entries.map QueueEntry.key = s.queue.entries.map QueueEntry.key := by
  unfold modEntry
  rw [List.map_map]
  refine List.map_congr_left fun e _ => ?_
  simp only [Function.comp_apply]
  split
  · exact hf e
  · rfl

/-- An entry rewritten but for what the order reads of it. -/
theorem sameCore_modEntry (s : State) (c : Chan) {f : QueueEntry → QueueEntry} (hf : ∀ e, (f e).key = e.key) :
    s.sameCore (s.modEntry c f) :=
  ⟨⟨map_key_modEntry s c hf, rfl, rfl, rfl, rfl⟩, fun _ => rfl⟩

/-- A channel in the queue changes between QUEUED and CLAIMING. -/
theorem Form.reoffer {X : List Chan} {s t : State} (h : s.Form X) {c : Chan} (hc : inQueue (s.chan c).state)
    (hc' : inQueue (t.chan c).state) (hch : ∀ d, d ≠ c → (t.chan d).core = (s.chan d).core)
    (hself : (t.chan c).mark = (s.chan c).mark ∧ (t.chan c).pre = (s.chan c).pre ∧ (t.chan c).main = (s.chan c).main)
    (k : s.sameStores t) : t.Form X := by
  obtain ⟨hord, hqueue, hengine, houts⟩ := h
  obtain ⟨hkeys, hn, hr, hw, hs⟩ := k
  obtain ⟨hmark, hpre, hmain⟩ := hself
  have hmarks : t.markOf = s.markOf := changesOnly.marks ⟨hch, hmark⟩
  have hfly (d : Chan) : t.flying X d = s.flying X d ∨ inQueue (s.flying X d) ∧ inQueue (t.flying X d) := by
    by_cases hd : d = c
    · subst hd
      unfold flying
      split
      · exact .inl rfl
      · exact .inr ⟨hc, hc'⟩
    · exact .inl (changesOnly.flying ⟨hch, hmark⟩ X hd)
  have hnone (x : ChanState) (hx : inQueue x) : x.inEngine = false ∧ x.drives = false := by
    rcases hx with rfl | rfl <;> exact ⟨rfl, rfl⟩
  refine ⟨by rw [hmarks]; exact queueOrdered_of_keys hord hkeys, hqueue.congr hkeys hn fun d => ?_,
    hengine.congr hr hw hs fun d => ?_, fun d => ?_⟩
  · rcases hfly d with heq | ⟨hin, hin'⟩
    · rw [heq]
    · exact ⟨fun _ => hin, fun _ => hin'⟩
  · rcases hfly d with heq | ⟨hin, hin'⟩
    · exact .inl heq
    · exact .inr ⟨(hnone _ hin).1, (hnone _ hin').1⟩
  · have hout : outsAreOff (s.chan d) → outsAreOff (t.chan d) := by
      unfold outsAreOff
      by_cases hd : d = c
      · subst hd
        rw [hpre, hmain]
        exact id
      · obtain ⟨-, -, hpre', hmain'⟩ := (core_iff _ _).mp (hch d hd)
        rw [hpre', hmain']
        exact id
    rcases hfly d with heq | ⟨hin, -⟩
    · rw [heq]
      exact (houts d).imp_right hout
    · rcases houts d with hdr | hoff
      · rw [(hnone _ hin).2] at hdr
        cases hdr
      · exact .inr (hout hoff)

theorem Form.requeue {X : List Chan} {s : State} (h : s.Form X) {c : Chan} (hc : inQueue (s.chan c).state) :
    (s.requeue c).Form X := by
  refine h.reoffer hc ?_ (fun d hd => ?_) ?_ ⟨map_key_modEntry s c fun _ => rfl, rfl, rfl, rfl, rfl⟩
  · rw [chan_requeue, if_pos rfl]
    exact .inl rfl
  · rw [chan_requeue, if_neg hd]
  · rw [chan_requeue, if_pos rfl]
    exact ⟨rfl, rfl, rfl⟩

end State

end Sys2Proof.Machine
end

section
/-!
The end of a step keeps the laws of queue, engine and outputs: it only moves channels of the queue between QUEUED and
CLAIMING.
-/

namespace Sys2Proof.Machine

open Sys2Proof

namespace State

theorem sameCore_endShedNeed (s : State) : s.sameCore s.endShedNeed := ⟨⟨rfl, rfl, rfl, rfl, rfl⟩, fun _ => rfl⟩

theorem Form.endShedNeed {X : List Chan} {s : State} (h : s.Form X) : s.endShedNeed.Form X :=
  h.congr (sameCore_endShedNeed s)

theorem Form.judgeShedNeed {X : List Chan} {s : State} (h : s.Form X) (e : QueueEntry) : (s.judgeShedNeed e).Form X := by
  unfold State.judgeShedNeed
  split
  · exact h.congr ⟨⟨rfl, rfl, rfl, rfl, rfl⟩, fun _ => rfl⟩
  · exact h.endShedNeed

theorem Form.withdrawBehind {X : List Chan} {s : State} (h : s.Form X) (l : List QueueEntry) :
    (s.withdrawBehind l).Form X := by
  induction l generalizing s with
  | nil => exact h
  | cons e es ih =>
    unfold State.withdrawBehind
    split
    · next hc => exact ih (h.requeue (.inr hc.1))
    · exact ih h

/-- The head is offered: its channel enters CLAIMING and its shed wait ends (R51). -/
def offered (s : State) (c : Chan) : State := (s.modEntry c fun e => { e with shedWait := none }).enter c .claiming

theorem chan_offered (s : State) (c d : Chan) :
    (s.offered c).chan d = if d = c then { s.chan c with state := .claiming } else s.chan d := chan_enter _ c d .claiming

theorem Form.offered {X : List Chan} {s : State} (h : s.Form X) {c : Chan} (hc : inQueue (s.chan c).state) :
    (s.offered c).Form X := by
  refine h.reoffer hc ?_ (fun d hd => ?_) ?_ ⟨map_key_modEntry s c fun _ => rfl, rfl, rfl, rfl, rfl⟩
  · rw [chan_offered, if_pos rfl]
    exact .inr rfl
  · rw [chan_offered, if_neg hd]
  · rw [chan_offered, if_pos rfl]
    exact ⟨rfl, rfl, rfl⟩

theorem Form.judgeHead {X : List Chan} {s : State} (h : s.Form X) : s.judgeHead.Form X := by
  unfold State.judgeHead
  split
  · exact h.endShedNeed
  · next e es he =>
    split
    · next hq =>
      split
      · exact (h.offered (.inl hq)).endShedNeed
      · exact h.judgeShedNeed e
    · next hcl =>
      split
      · exact h.endShedNeed
      · exact (h.requeue (.inr hcl)).judgeShedNeed e
    all_goals exact h.endShedNeed

theorem Form.evaluate {X : List Chan} {s : State} (h : s.Form X) : s.evaluate.Form X := (h.withdrawBehind _).judgeHead

theorem Form.takeNotice {X : List Chan} {s : State} (h : s.Form X) : s.takeNotice.Form X := by
  unfold State.takeNotice
  split
  · split
    · refine Form.evaluate ?_
      exact h.of_eq rfl rfl rfl
    · exact h.of_eq rfl rfl rfl
  · exact h

theorem Form.buildClaim {X : List Chan} {s : State} (h : s.Form X) (eff : Urg) : (s.buildClaim eff).1.Form X := by
  unfold State.buildClaim
  split
  · exact h
  · next e es he =>
    split
    · next hc =>
      split
      · exact h.congr (sameCore_modEntry s e.ch fun _ => rfl)
      · exact h.requeue (.inr hc.1)
    · exact h

theorem Form.buildShedCall {X : List Chan} {s : State} (h : s.Form X) : s.buildShedCall.1.Form X := by
  unfold State.buildShedCall
  split
  · exact h.endShedNeed
  · split
    · dsimp only
      split
      · exact h
      · exact h.congr ⟨⟨rfl, rfl, rfl, rfl, rfl⟩, fun _ => rfl⟩
    · exact h.endShedNeed

theorem Form.build {X : List Chan} {s : State} (h : s.Form X) (src : Source) : (s.build src).1.Form X := by
  cases src with
  | shedCall => exact h.buildShedCall
  | claim eff => exact h.buildClaim eff
  | _ => exact h

theorem Form.trySources {X : List Chan} {s : State} (h : s.Form X) (l : List Source) : (s.trySources l).Form X := by
  induction l generalizing s with
  | nil => exact h
  | cons src rest ih =>
    unfold State.trySources
    split
    · have hbuild := h.build src
      split
      · next heq =>
        rw [heq] at hbuild
        exact hbuild.of_eq (by simp) (by simp) (by simp)
      · next heq =>
        rw [heq] at hbuild
        exact ih hbuild
    · exact ih h

theorem Form.select {X : List Chan} {s : State} (h : s.Form X) : s.select.Form X := by
  unfold State.select
  split
  · exact h.trySources _
  · exact h

theorem Form.finish {X : List Chan} {s : State} (h : s.Form X) : s.finish.Form X := by
  refine (h.takeNotice.select).of_eq ?_ ?_ ?_ <;> simp [State.finish]

/-! ## The transmit slot at the end of a step -/

/-- A frame in the transmit slot is in progress on the line, which is not free and not received (R160). -/
def lineHeld (s : State) : Prop :=
  s.bus.tx.isSome = true → s.bus.lineBusy = true ∧ s.bus.free = false ∧ s.bus.receiving = false

/-- The channel of a CLAIM on the bus that is not withdrawn is CLAIMING, and no start waits in the PENDING slot (R54, R91). -/
def claimHeld (s : State) : Prop :=
  ∀ t p, s.bus.tx = some t → t.frame = .claim p → t.withdrawn = false →
    (s.chan p.ch).state = .claiming ∧ s.engine.waiting = none

theorem claimHeld_of_no_tx {s : State} (h : s.bus.tx = none) : s.claimHeld := by
  intro t p ht
  rw [h] at ht
  cases ht

theorem claimOnBus_iff (s : State) (c : Chan) :
    s.claimOnBus c = true ↔ ∃ t p, s.bus.tx = some t ∧ t.frame = .claim p ∧ p.ch = c := by
  unfold claimOnBus
  split
  · next p u w f htx =>
    simp only [decide_eq_true_eq]
    constructor
    · rintro rfl
      exact ⟨_, p, htx, rfl, rfl⟩
    · rintro ⟨t, q, ht, hf, rfl⟩
      rw [htx] at ht
      cases ht
      cases hf
      rfl
  · next hno =>
    simp only [Bool.false_eq_true, false_iff, not_exists, not_and]
    intro t p htx hf
    obtain ⟨frame, urgency, withdrawn, shedFor⟩ := t
    subst hf
    exact absurd htx (hno p urgency withdrawn shedFor)

/-- A CLAIM on the bus keeps its channel in CLAIMING where only others are taken back. -/
theorem claimHeld.congr {s t : State} (h : s.claimHeld) (htx : t.bus.tx = s.bus.tx) (hw : t.engine.waiting = s.engine.waiting)
    (hch : ∀ c, s.claimOnBus c = true → (s.chan c).state = .claiming → (t.chan c).state = .claiming) : t.claimHeld := by
  intro x p hx hf hwd
  rw [htx] at hx
  obtain ⟨hst, hwait⟩ := h x p hx hf hwd
  exact ⟨hch p.ch ((claimOnBus_iff s p.ch).mpr ⟨x, p, hx, hf, rfl⟩) hst, by rw [hw]; exact hwait⟩

theorem claimOnBus_of_tx {s t : State} (h : t.bus.tx = s.bus.tx) (c : Chan) : t.claimOnBus c = s.claimOnBus c := by
  simp [claimOnBus, h]

theorem withdrawBehind_claiming (l : List QueueEntry) (s : State) (c : Chan) (hb : s.claimOnBus c = true)
    (hc : (s.chan c).state = .claiming) : ((s.withdrawBehind l).chan c).state = .claiming := by
  induction l generalizing s with
  | nil => exact hc
  | cons e es ih =>
    unfold withdrawBehind
    split
    · next he =>
      have hne : c ≠ e.ch := by
        rintro rfl
        rw [he.2] at hb
        cases hb
      refine ih _ ?_ ?_
      · rw [claimOnBus_of_tx (s := s) (by simp)]
        exact hb
      · rw [chan_requeue, if_neg hne]
        exact hc
    · exact ih _ hb hc

theorem judgeHead_claiming (s : State) (c : Chan) (hb : s.claimOnBus c = true) (hc : (s.chan c).state = .claiming) :
    (s.judgeHead.chan c).state = .claiming := by
  unfold judgeHead
  split
  · exact hc
  · next e es he =>
    split
    · next hq =>
      have hne : c ≠ e.ch := by
        rintro rfl
        rw [hq] at hc
        cases hc
      split
      · exact (congrArg Channel.state ((chan_offered s e.ch c).trans (if_neg hne))).trans hc
      · rw [chan_of_channels (s := s) (by simp)]
        exact hc
    · next hcl =>
      split
      · exact hc
      · next hno =>
        have hne : c ≠ e.ch := by
          rintro rfl
          rw [hb] at hno
          exact hno rfl
        rw [chan_of_channels (s := s.requeue e.ch) (by simp), chan_requeue, if_neg hne]
        exact hc
    all_goals exact hc

theorem claimHeld.takeNotice {s : State} (h : s.claimHeld) : s.takeNotice.claimHeld := by
  refine h.congr (by simp) (by simp) fun c hb hc => ?_
  unfold State.takeNotice
  split
  · split
    · unfold evaluate
      refine judgeHead_claiming _ c ?_ ?_
      · rw [claimOnBus_of_tx (s := s) (by simp)]
        exact hb
      · exact withdrawBehind_claiming _ _ c hb hc
    · exact hc
  · exact hc

/-! ## What the sources build -/

/-- The offered seq of an entry, or the claim counter's (R54, R58). -/
def claimSeqOf (s : State) (e : QueueEntry) : Seq := e.offered.getD s.queue.claimSeq

/-- The CLAIM built for an entry (R54). -/
def claimFor (s : State) (e : QueueEntry) : ClaimPayload :=
  { ch := e.ch, seq := s.claimSeqOf e, urgency := (s.cfg e.ch).urgency, sheddable := (s.cfg e.ch).sheddable,
    inrush := (s.cfg e.ch).inrush, draw := (s.cfg e.ch).draw, hold := (s.cfg e.ch).holdLimit }

/-- A CLAIM is built of the head only, in CLAIMING with every condition of an offer (R54). -/
theorem buildClaim_some {s : State} {eff : Urg} {f : Frame} (h : (s.buildClaim eff).2 = some f) :
    ∃ e rest, s.queue.entries = e :: rest ∧ (s.chan e.ch).state = .claiming ∧ e.eff = eff ∧ s.offers e = true
      ∧ f = .claim (s.claimFor e)
      ∧ (s.buildClaim eff).1 = s.modEntry e.ch fun x => { x with offered := some (s.claimSeqOf e) } := by
  unfold buildClaim at *
  split at h
  · cases h
  · next e rest he =>
    split at h
    · next hc =>
      split at h
      · next hoff =>
        refine ⟨e, rest, he, hc.1, hc.2, hoff, ?_, ?_⟩
        · simpa [claimFor, claimSeqOf, eq_comm] using h
        · simp [hc, hoff, claimSeqOf]
      · cases h
    · cases h

/-- Without a CLAIM its source leaves the state, or takes the head back where it is CLAIMING (R55). -/
theorem buildClaim_none {s : State} {eff : Urg} (h : (s.buildClaim eff).2 = none) :
    (s.buildClaim eff).1 = s
      ∨ ∃ e rest, s.queue.entries = e :: rest ∧ (s.chan e.ch).state = .claiming ∧ s.offers e = false
        ∧ (s.buildClaim eff).1 = s.requeue e.ch := by
  unfold buildClaim at *
  split at h
  · next he => exact .inl (by simp)
  · next e rest he =>
    split at h
    · next hc =>
      split at h
      · cases h
      · next hoff =>
        have hoff : s.offers e = false := by simpa using hoff
        exact .inr ⟨e, rest, he, hc.1, hoff, by simp [hc, hoff]⟩
    · next hc => exact .inl (by simp [hc])

theorem releaseFrame_place {s : State} {c : Chan} {f : Frame} (h : s.releaseFrame c = some f) : framePlace f = 1 := by
  unfold releaseFrame at h
  split at h <;> cases h <;> rfl

theorem buildShedCall_place {s : State} {f : Frame} (h : s.buildShedCall.2 = some f) : framePlace f = 4 := by
  unfold buildShedCall at h
  split at h
  · cases h
  · split at h
    · dsimp only at h
      split at h <;> cases h <;> rfl
    · cases h

theorem recountFrame_place (s : State) : framePlace s.recountFrame = 6 := by
  unfold recountFrame
  dsimp only
  split
  · rfl
  · split <;> rfl

theorem syncReqFrame_place {s : State} {f : Frame} (h : s.syncReqFrame = some f) : framePlace f = 7 := by
  unfold syncReqFrame at h
  split at h
  · cases h; rfl
  · cases h; rfl
  · obtain ⟨kv, -, rfl⟩ := Option.map_eq_some_iff.mp h
    rfl

/-- A source builds frames of its own place (Table 9.5). -/
theorem build_place {s : State} {src : Source} {f : Frame} (h : (s.build src).2 = some f) :
    framePlace f = sourcePlace src := by
  cases src with
  | release =>
    obtain ⟨c, -, hc⟩ := List.exists_of_findSome?_eq_some h
    exact releaseFrame_place hc
  | expire | absent | renewal | answer =>
    obtain ⟨x, -, rfl⟩ := Option.map_eq_some_iff.mp h
    rfl
  | shedCall => exact buildShedCall_place h
  | recount =>
    simp only [build] at h
    split at h
    · cases h
      exact recountFrame_place s
    · cases h
  | syncReq => exact syncReqFrame_place h
  | hello | presence =>
    simp only [build] at h
    split at h
    · cases h
      rfl
    · cases h
  | claim eff =>
    obtain ⟨e, rest, -, -, -, -, rfl, -⟩ := buildClaim_some h
    rfl

/-- A CLAIM comes from the source of CLAIMs. -/
theorem source_of_claim {s : State} {src : Source} {p : ClaimPayload} (h : (s.build src).2 = some (.claim p)) :
    ∃ eff, src = .claim eff := by
  have hplace := build_place h
  cases src with
  | claim eff => exact ⟨eff, rfl⟩
  | _ => simp [framePlace, sourcePlace] at hplace

@[simp] theorem build_bus (s : State) (src : Source) : (s.build src).1.bus = s.bus := by
  cases src <;> simp [build]

/-- What the selector does: nothing on the bus, or a frame begins that a source built of a state to which the sources before it
brought the station. -/
theorem trySources_cases (l : List Source) (s : State) :
    (s.trySources l).bus = s.bus
      ∨ ∃ (u : State) (src : Source) (f : Frame), src ∈ l ∧ s.member.state.permits src = true ∧ u.bus = s.bus ∧ u.member = s.member
        ∧ (u.build src).2 = some f ∧ s.trySources l = (u.build src).1.beginFrame src f := by
  induction l generalizing s with
  | nil => exact .inl rfl
  | cons src rest ih =>
    unfold trySources
    split
    · next hperm =>
      split
      · next s' f heq =>
        refine .inr ⟨s, src, f, List.mem_cons_self, hperm, rfl, rfl, by rw [heq], ?_⟩
        rw [heq]
      · next s' heq =>
        have hs' : s' = (s.build src).1 := by rw [heq]
        have hbus : s'.bus = s.bus := by rw [hs', build_bus]
        have hmem : s'.member = s.member := by rw [hs']; cases src <;> simp [build]
        rcases ih s' with h | ⟨u, x, f, hx, hp, hb, hm, hf, ht⟩
        · exact .inl (h.trans hbus)
        · exact .inr ⟨u, x, f, List.mem_cons_of_mem _ hx, by rw [← hmem]; exact hp, hb.trans hbus, hm.trans hmem, hf, ht⟩
    · rcases ih s with h | ⟨u, x, f, hx, hp, hb, hm, hf, ht⟩
      · exact .inl h
      · exact .inr ⟨u, x, f, List.mem_cons_of_mem _ hx, hp, hb, hm, hf, ht⟩

/-- A frame that the selector begins is in progress on the line; a CLAIM is its head's, CLAIMING, while no start waits. -/
theorem trySources_begins (l : List Source) {s : State} (htx : s.bus.tx = none) :
    (s.trySources l).lineHeld ∧ (s.trySources l).claimHeld := by
  rcases trySources_cases l s with hbus | ⟨u, src, f, -, -, hbus, -, hf, heq⟩
  · refine ⟨fun h => ?_, claimHeld_of_no_tx (by rw [hbus, htx])⟩
    rw [hbus, htx] at h
    cases h
  · rw [heq]
    refine ⟨fun _ => ⟨rfl, rfl, rfl⟩, fun t p ht hframe hw => ?_⟩
    cases ht
    simp only at hframe
    subst hframe
    obtain ⟨eff, rfl⟩ := source_of_claim hf
    obtain ⟨e, rest, he, hst, -, hoff, hp, hu⟩ := buildClaim_some hf
    cases hp
    simp only [offers, offerable, Bool.and_eq_true, Option.isNone_iff_eq_none] at hoff
    simp only [build, hu]
    exact ⟨hst, hoff.1.1.2⟩

theorem select_held {s : State} (hline : s.lineHeld) (hclaim : s.claimHeld) : s.select.lineHeld ∧ s.select.claimHeld := by
  unfold select
  split
  · next h =>
    simp only [Bool.and_eq_true, Option.isNone_iff_eq_none] at h
    exact trySources_begins _ h.2
  · exact ⟨hline, hclaim⟩

theorem refresh_held {s : State} (hline : s.lineHeld) (hclaim : s.claimHeld) :
    s.refresh.lineHeld ∧ s.refresh.claimHeld := by
  refine ⟨fun h => ?_, hclaim.congr (by simp) (by simp) fun c _ hc => ?_⟩
  · have hbus : s.refresh.bus = s.bus := by simp
    rw [hbus] at h ⊢
    exact hline h
  · rw [chan_of_channels (s := s) (by simp)]
    exact hc

/-- The end of a step keeps the transmit slot's laws. -/
theorem finish_held {s : State} (hline : s.lineHeld) (hclaim : s.claimHeld) : s.finish.lineHeld ∧ s.finish.claimHeld := by
  have hnote : s.takeNotice.lineHeld := fun h => by
    have hbus : s.takeNotice.bus = s.bus := by simp
    rw [hbus] at h ⊢
    exact hline h
  obtain ⟨hl, hc⟩ := select_held hnote hclaim.takeNotice
  exact refresh_held hl hc

end State

end Sys2Proof.Machine
end

section
/-!
The Recipe Engine's operations keep the laws of queue, engine and outputs; what each of them leaves of the other channels.
-/

namespace Sys2Proof.Machine

open Sys2Proof

namespace State

/-! ## A run of steps -/

/-- The run of steps of a channel's recipe from step `i` on, with the levels it leaves (R89). -/
def runFrom (s : State) (c : Chan) (i : Nat) : StepsEnd × Bool × Bool :=
  runSteps (s.pins.sense.get c) ((s.cfg c).recipe.drop i) i (s.chan c).pre (s.chan c).main

theorem runEnd_eq (s : State) (c : Chan) (i : Nat) : runEnd s c i = (s.runFrom c i).1 := rfl

/-- The levels that a run of steps leaves. -/
def stepped (s : State) (c : Chan) (i : Nat) : State :=
  s.modChan c fun k => { k with pre := (s.runFrom c i).2.1, main := (s.runFrom c i).2.2 }

/-- How a run of steps ends (R89). -/
def ended (s : State) (c : Chan) : StepsEnd → State
  | .waits j left => { s with engine.running := some { ch := c, step := j, timeLeft := left } }
  | .completes => s.completeRecipe c
  | .fails j => s.failRecipe c j

theorem takeSteps_eq (s : State) (c : Chan) (i : Nat) : s.takeSteps c i = (s.stepped c i).ended c (runEnd s c i) := rfl

/-- The running slot empties. -/
def idled (s : State) : State := { s with engine.running := none }

theorem judgeSampling_idled (s : State) : s.judgeSampling.idled = s.idled.judgeSampling := apply_ite idled _ _ _

theorem clearMark_idled (s : State) (c : Chan) : (s.clearMark c).idled = s.idled.clearMark c := by
  have hchan : s.idled.chan c = s.chan c := rfl
  unfold clearMark
  rw [hchan]
  split
  · exact judgeSampling_idled _
  · rfl

theorem failRecipe_idled (s : State) (c : Chan) (j : Nat) : s.failRecipe c j = s.idled.failRecipe c j := by
  have h (u : State) : ({ (u.clearMark c).log .recipeFailed (some c) (some j) none with engine.running := none } : State)
      = { (u.idled.clearMark c).log .recipeFailed (some c) (some j) none with engine.running := none } := by
    rw [← clearMark_idled]
    rfl
  exact congrArg (fun u : State => u.forgetRenewals c) (h (((s.outsOff c).setRelease c (.abandoned .recipeFailed)).enter c .faulted))

/-- The steps of a recipe are taken as if the running slot were empty. -/
theorem takeSteps_idled (s : State) (c : Chan) (i : Nat) : s.takeSteps c i = s.idled.takeSteps c i := by
  rw [takeSteps_eq, takeSteps_eq]
  have hend : runEnd s.idled c i = runEnd s c i := rfl
  have hstep : (s.stepped c i).idled = s.idled.stepped c i := rfl
  rw [hend, ← hstep]
  cases runEnd s c i with
  | waits j left => rfl
  | completes => rfl
  | fails j => exact failRecipe_idled _ c j

/-! ## What the other channels keep -/

theorem chan_stepped (s : State) (c d : Chan) (i : Nat) :
    (s.stepped c i).chan d =
      if d = c then { s.chan c with pre := (s.runFrom c i).2.1, main := (s.runFrom c i).2.2 } else s.chan d :=
  chan_modChan s c d fun k => { k with pre := (s.runFrom c i).2.1, main := (s.runFrom c i).2.2 }

/-- A failed recipe's channel (R94). -/
theorem chan_failRecipe (s : State) (c d : Chan) (j : Nat) :
    (s.failRecipe c j).chan d =
      if d = c then
        { s.chan c with
          pre := false, main := false, release := .abandoned .recipeFailed, state := .faulted, mark := false }
      else s.chan d := by
  have h : (s.failRecipe c j).chan d
      = ((((s.outsOff c).setRelease c (.abandoned .recipeFailed)).enter c .faulted).clearMark c).chan d := rfl
  rw [h, chan_clearMark, chan_enter, chan_enter, chan_setRelease, chan_setRelease, chan_outsOff, chan_outsOff]
  split <;> simp [*]

/-- A completed recipe's channel (R93). -/
theorem chan_completeRecipe (s : State) (c d : Chan) :
    (s.completeRecipe c).chan d =
      if d = c then { s.chan c with state := .settling, release := .settled } else s.chan d := by
  have h : (s.completeRecipe c).chan d = ((s.enter c .settling).setRelease c .settled).chan d := rfl
  rw [h, chan_setRelease, chan_enter, chan_enter]
  split <;> simp [*]

theorem chan_takeSteps_other (s : State) {c d : Chan} (i : Nat) (h : d ≠ c) : (s.takeSteps c i).chan d = s.chan d := by
  rw [takeSteps_eq]
  have hstep : (s.stepped c i).chan d = s.chan d := by rw [chan_stepped, if_neg h]
  cases runEnd s c i with
  | waits j left => exact hstep
  | completes => rw [ended, chan_completeRecipe, if_neg h, hstep]
  | fails j => rw [ended, chan_failRecipe, if_neg h, hstep]

theorem chan_beginStart_other (s : State) {c d : Chan} (h : d ≠ c) : (s.beginStart c).chan d = s.chan d := by
  rw [beginStart, chan_takeSteps_other _ _ h, chan_enter, if_neg h]

/-- A record's levels restored (R112). -/
theorem chan_restored_other (s : State) (k : Context) {d : Chan} (h : d ≠ k.ch) : (restored s k).chan d = s.chan d := by
  unfold restored
  split
  · rw [chan_modChan, if_neg h]
  · rfl

/-- A record is taken up again: it waits on, takes its next steps, or fails (R112). -/
inductive Resumes (u : State) (r : Context) : State → Prop
  | waits (left : Nat) : Resumes u r { u with engine.running := some { ch := r.ch, step := r.next, timeLeft := left } }
  | steps (i : Nat) : Resumes u r (u.takeSteps r.ch i)
  | fails : Resumes u r (u.failRecipe r.ch r.next)

theorem resume_cases (s : State) (r : Context) : ((restored s r).enter r.ch .starting).Resumes r (s.resume r) := by
  have heq : s.resume r =
      match r.partialTime, (s.cfg r.ch).recipe[r.next]? with
      | some left, some (.dwell _ _) =>
        if left = 0 then ((restored s r).enter r.ch .starting).takeSteps r.ch (r.next + 1)
        else
          { (restored s r).enter r.ch .starting with
            engine.running := some { ch := r.ch, step := r.next, timeLeft := left } }
      | some left, some (.await level _ _) =>
        if ((restored s r).enter r.ch .starting).pins.sense.get r.ch = level then
          ((restored s r).enter r.ch .starting).takeSteps r.ch (r.next + 1)
        else if left = 0 then ((restored s r).enter r.ch .starting).failRecipe r.ch r.next
        else
          { (restored s r).enter r.ch .starting with
            engine.running := some { ch := r.ch, step := r.next, timeLeft := left } }
      | _, _ => ((restored s r).enter r.ch .starting).takeSteps r.ch r.next := by
    unfold resume restored
    cases r.snapshot <;> rfl
  rw [heq]
  split
  · split
    · exact .steps _
    · exact .waits _
  · split
    · exact .steps _
    · split
      · exact .fails
      · exact .waits _
  · exact .steps _

theorem chan_resume_other (s : State) (r : Context) {d : Chan} (h : d ≠ r.ch) : (s.resume r).chan d = s.chan d := by
  have hres : ((restored s r).enter r.ch .starting).chan d = s.chan d := by
    rw [chan_enter, if_neg h, chan_restored_other s r h]
  rw [← hres]
  have hcases := s.resume_cases r
  generalize s.resume r = t at hcases ⊢
  cases hcases with
  | waits left => rfl
  | steps i => exact chan_takeSteps_other _ _ h
  | fails => rw [chan_failRecipe, if_neg h]

/-! ## What a run of steps leaves of the engine -/

@[simp] theorem stepped_engine (s : State) (c : Chan) (i : Nat) : (s.stepped c i).engine = s.engine := rfl

@[simp] theorem failRecipe_engine (s : State) (c : Chan) (j : Nat) :
    (s.failRecipe c j).engine = { s.engine with running := none, exhausted := s.engine.exhausted.set c false } := by
  simp [failRecipe, forgetRenewals]

@[simp] theorem completeRecipe_engine (s : State) (c : Chan) :
    (s.completeRecipe c).engine = { s.engine with running := none, exhausted := s.engine.exhausted.set c false } := by
  simp [completeRecipe, forgetRenewals]

theorem takeSteps_engine (s : State) (c : Chan) (i : Nat) :
    (s.takeSteps c i).engine.running = (runEnd s c i).slot c ∧ (s.takeSteps c i).engine.waiting = s.engine.waiting
      ∧ (s.takeSteps c i).engine.stack = s.engine.stack
      ∧ (s.takeSteps c i).engine.renewVoids = s.engine.renewVoids := by
  rw [takeSteps_eq]
  cases runEnd s c i with
  | waits j left => exact ⟨rfl, rfl, rfl, rfl⟩
  | completes => simp [ended, StepsEnd.slot]
  | fails j => simp [ended, StepsEnd.slot]

theorem restored_engine (s : State) (k : Context) : (restored s k).engine = s.engine := by
  unfold restored
  split <;> rfl

theorem resume_engine (s : State) (r : Context) :
    (s.resume r).engine.waiting = s.engine.waiting ∧ (s.resume r).engine.stack = s.engine.stack := by
  have hrest : ((restored s r).enter r.ch .starting).engine = s.engine := restored_engine s r
  have hcases := s.resume_cases r
  generalize s.resume r = t at hcases ⊢
  cases hcases with
  | waits left => rw [← hrest]; exact ⟨rfl, rfl⟩
  | steps i =>
    obtain ⟨-, hwait, hstack, -⟩ := takeSteps_engine ((restored s r).enter r.ch .starting) r.ch i
    rw [hwait, hstack, hrest]
    exact ⟨rfl, rfl⟩
  | fails => rw [failRecipe_engine, hrest]; exact ⟨rfl, rfl⟩

/-- The channels that neither wait in the PENDING slot nor on the stack keep their records while the engine frees itself. -/
theorem chan_freeLoop_other (n : Nat) (s : State) {d : Chan} (hw : s.engine.waiting ≠ some d)
    (hs : d ∉ s.engine.stack.map (·.ch)) : (freeLoop n s).chan d = s.chan d := by
  induction n generalizing s with
  | zero => rfl
  | succ n ih =>
    unfold freeLoop
    split
    · rfl
    · split
      · next c hc =>
        have hne : d ≠ c := fun heq => hw (by rw [hc, heq])
        have hstart := chan_beginStart_other ({ s with engine.waiting := none } : State) hne
        obtain ⟨-, hwait, hstack, -⟩ := takeSteps_engine (({ s with engine.waiting := none } : State).enter c .starting) c 0
        rw [ih, hstart]
        · rfl
        · rw [beginStart, hwait]
          simp
        · rw [beginStart, hstack]
          exact hs
      · next hnone =>
        split
        · next r rest hr =>
          rw [hr, List.map_cons, List.mem_cons, not_or] at hs
          have hres := chan_resume_other ({ s with engine.stack := rest } : State) r hs.1
          have heng := resume_engine ({ s with engine.stack := rest } : State) r
          rw [ih, hres]
          · rfl
          · rw [heng.1]
            simp [hnone]
          · rw [heng.2]
            exact hs.2
        · rfl

end State

end Sys2Proof.Machine
end

section
/-!
The operations of the Recipe Engine keep the laws of queue, engine and outputs: a start that is placed, resumed or removed is
in flight meanwhile.
-/

namespace Sys2Proof.Machine

open Sys2Proof

namespace State

/-- A start in flight takes the free running slot. -/
theorem Form.run {X : List Chan} {s : State} {r : RunSlot} (h : s.Form (r.ch :: X)) (hX : r.ch ∉ X)
    (hidle : s.engine.running = none) (hst : (s.chan r.ch).state = .starting) :
    ({ s with engine.running := some r } : State).Form X := by
  have hfly : ({ s with engine.running := some r } : State).flying X
      = Function.update (s.flying (r.ch :: X)) r.ch .starting := by
    rw [← hst]
    exact flying_land hX fun _ _ => rfl
  have hon := flying_cons_self s r.ch X
  obtain ⟨hord, hqueue, hengine, houts⟩ := h
  refine ⟨hord, ?_, ?_, fun d => ?_⟩
  · rw [hfly]
    refine hqueue.congr rfl rfl fun d => ?_
    by_cases hd : d = r.ch
    · subst hd
      rw [Function.update_self, hon]
      simp [inQueue]
    · rw [Function.update_of_ne hd]
  · rw [hfly]
    exact hengine.run hidle (by rw [hon]; rfl) rfl rfl rfl
  · rw [hfly]
    by_cases hd : d = r.ch
    · subst hd
      exact .inl (by rw [Function.update_self]; rfl)
    · rw [Function.update_of_ne hd]
      exact houts d

/-- The levels of a channel in flight change. -/
theorem Form.stepped {X : List Chan} {s : State} {c : Chan} (h : s.Form X) (hc : c ∈ X) (i : Nat) :
    (s.stepped c i).Form X :=
  h.aloft hc (changesOnly_modChan s c rfl) (sameStores_of_eq rfl rfl)

/-- A channel in flight enters a state. -/
theorem Form.enterAloft {X : List Chan} {s : State} {c : Chan} (h : s.Form X) (hc : c ∈ X) (st : ChanState) :
    (s.enter c st).Form X :=
  h.aloft hc (changesOnly_modChan s c rfl) (sameStores_of_eq rfl rfl)

/-- Bookkeeping of renewals and the empty running slot. -/
theorem Form.forget {X : List Chan} {s t : State} (h : s.Form X) (hc : t.channels = s.channels) (hq : t.queue = s.queue)
    (hr : t.engine.running.map (·.ch) = s.engine.running.map (·.ch)) (hw : t.engine.waiting = s.engine.waiting)
    (hs : t.engine.stack = s.engine.stack) : t.Form X :=
  h.congr ⟨⟨by rw [hq], by rw [hq], hr, hw, by rw [hs]⟩, fun _ => by rw [chan_of_channels hc]⟩

/-- A recipe in flight completes. -/
theorem Form.completeRecipe {X : List Chan} {s : State} {c : Chan} (h : s.Form (c :: X))
    (hidle : s.engine.running = none) : (s.completeRecipe c).Form X := by
  refine h.land ?_ (.inl ?_) ⟨fun d hd => ?_, ?_⟩ ⟨by simp, by simp, by simp [hidle], by simp, by simp⟩
  · rw [chan_completeRecipe, if_pos rfl]; rfl
  · rw [chan_completeRecipe, if_pos rfl]; rfl
  · rw [chan_completeRecipe, if_neg hd]
  · rw [chan_completeRecipe, if_pos rfl]

/-- A recipe in flight fails. -/
theorem Form.failRecipe {X : List Chan} {s : State} {c : Chan} (h : s.Form (c :: X)) (j : Nat)
    (hidle : s.engine.running = none) : (s.failRecipe c j).Form X := by
  have hchan (d : Chan) : (((s.outsOff c).setRelease c (.abandoned .recipeFailed)).enter c .faulted).chan d =
      if d = c then { s.chan c with pre := false, main := false, release := .abandoned .recipeFailed, state := .faulted }
      else s.chan d := by
    rw [chan_enter, chan_setRelease, chan_setRelease, chan_outsOff, chan_outsOff]
    split <;> simp [*]
  have hland : (((s.outsOff c).setRelease c (.abandoned .recipeFailed)).enter c .faulted).Form X := by
    refine h.land ?_ (.inr ?_) ⟨fun d hd => ?_, ?_⟩ (sameStores_of_eq rfl rfl)
    · rw [hchan, if_pos rfl]; rfl
    · rw [hchan, if_pos rfl]; exact ⟨rfl, rfl⟩
    · rw [hchan, if_neg hd]
    · rw [hchan, if_pos rfl]
  have heng : (((((s.outsOff c).setRelease c (.abandoned .recipeFailed)).enter c .faulted).clearMark c)).engine = s.engine := by
    simp
  refine (hland.clearMark c).forget rfl rfl ?_ rfl rfl
  rw [failRecipe_engine, heng, hidle]

/-- The steps of a start in flight are taken. -/
theorem Form.takeSteps {X : List Chan} {s : State} {c : Chan} (h : s.Form (c :: X)) (hX : c ∉ X)
    (hidle : s.engine.running = none) (hst : (s.chan c).state = .starting) (i : Nat) : (s.takeSteps c i).Form X := by
  have hstep := h.stepped List.mem_cons_self i
  rw [takeSteps_eq]
  cases runEnd s c i with
  | waits j left =>
    refine Form.run (r := { ch := c, step := j, timeLeft := left }) hstep hX hidle ?_
    rw [chan_stepped, if_pos rfl]
    exact hst
  | completes => exact hstep.completeRecipe hidle
  | fails j => exact hstep.failRecipe j hidle

theorem Form.beginStart {X : List Chan} {s : State} {c : Chan} (h : s.Form (c :: X)) (hX : c ∉ X)
    (hidle : s.engine.running = none) : (s.beginStart c).Form X :=
  (h.enterAloft List.mem_cons_self .starting).takeSteps hX hidle (by rw [chan_enter, if_pos rfl]) 0

/-- A channel that the engine holds is not in flight. -/
theorem not_mem_of_flying {s : State} {X : List Chan} {c : Chan} (h : s.flying X c ≠ .on) : c ∉ X :=
  fun hc => h (flying_of_mem s hc)

/-- The running start is taken out of its slot. -/
theorem Form.stop {X : List Chan} {s : State} (h : s.Form X) {r : RunSlot} (hr : s.engine.running = some r) :
    s.idled.Form (r.ch :: X) ∧ r.ch ∉ X ∧ (s.chan r.ch).state = .starting := by
  obtain ⟨hord, hqueue, hengine, houts⟩ := h
  have hst : s.flying X r.ch = .starting := (hengine.running r.ch).mp (by rw [hr]; rfl)
  have hX : r.ch ∉ X := not_mem_of_flying (by rw [hst]; simp)
  have hfly : s.idled.flying (r.ch :: X) = Function.update (s.flying X) r.ch .on := flying_cons s r.ch X
  refine ⟨⟨hord, ?_, ?_, fun d => ?_⟩, hX, by rw [← hst, flying_of_not_mem s hX]⟩
  · rw [hfly]
    refine hqueue.congr rfl rfl fun d => ?_
    by_cases hd : d = r.ch
    · subst hd
      rw [Function.update_self, hst]
      simp [inQueue]
    · rw [Function.update_of_ne hd]
  · rw [hfly]
    exact hengine.stopRunning hr rfl rfl rfl
  · rw [hfly]
    by_cases hd : d = r.ch
    · subst hd
      exact .inl (by rw [Function.update_self]; rfl)
    · rw [Function.update_of_ne hd]
      exact houts d

/-- A start that the engine holds elsewhere is taken out. -/
theorem Form.takeOut {X : List Chan} {s t : State} (h : s.Form X) {c : Chan}
    (hst : s.flying X c = .pending ∨ s.flying X c = .suspended) (hc : t.channels = s.channels) (hq : t.queue = s.queue)
    (he : EngineHolds t.engine (Function.update (s.flying X) c .on)) : t.Form (c :: X) ∧ c ∉ X := by
  obtain ⟨hord, hqueue, hengine, houts⟩ := h
  have hX : c ∉ X := not_mem_of_flying (by rcases hst with hst | hst <;> rw [hst] <;> simp)
  have hfly : t.flying (c :: X) = Function.update (s.flying X) c .on := by
    have hsame : t.flying X = s.flying X := flying_congr fun d _ => by rw [chan_of_channels hc]
    rw [flying_cons, hsame]
  have hnq : ¬inQueue (s.flying X c) := by rcases hst with hst | hst <;> rw [hst] <;> simp [inQueue]
  have hmark : t.markOf = s.markOf := funext fun d => by rw [markOf, markOf, chan_of_channels hc]
  refine ⟨⟨by rw [hmark, hq]; exact hord, ?_, by rw [hfly]; exact he, fun d => ?_⟩, hX⟩
  · rw [hfly, hq]
    refine hqueue.congr rfl rfl fun d => ?_
    by_cases hd : d = c
    · subst hd
      rw [Function.update_self]
      exact ⟨fun hin => by simp [inQueue] at hin, fun hin => absurd hin hnq⟩
    · rw [Function.update_of_ne hd]
  · rw [hfly, chan_of_channels hc]
    by_cases hd : d = c
    · subst hd
      exact .inl (by rw [Function.update_self]; rfl)
    · rw [Function.update_of_ne hd]
      exact houts d

theorem Form.unwait {X : List Chan} {s : State} (h : s.Form X) {c : Chan} (hw : s.engine.waiting = some c) :
    ({ s with engine.waiting := none } : State).Form (c :: X) ∧ c ∉ X :=
  h.takeOut (.inl ((h.engine.waiting c).mp hw)) rfl rfl (h.engine.stopWaiting hw rfl rfl rfl)

theorem Form.pop {X : List Chan} {s : State} (h : s.Form X) {r : Context} {rest : List Context}
    (hs : s.engine.stack = r :: rest) : ({ s with engine.stack := rest } : State).Form (r.ch :: X) ∧ r.ch ∉ X :=
  h.takeOut (.inr ((h.engine.stacked r.ch).mp (by simp [hs]))) rfl rfl (h.engine.pop hs rfl rfl rfl)

theorem Form.restored {X : List Chan} {s : State} {k : Context} (h : s.Form X) (hc : k.ch ∈ X) : (restored s k).Form X := by
  unfold Machine.restored
  split
  · exact h.aloft hc (changesOnly_modChan s k.ch rfl) (sameStores_of_eq rfl rfl)
  · exact h

theorem Form.resume {X : List Chan} {s : State} {r : Context} (h : s.Form (r.ch :: X)) (hX : r.ch ∉ X)
    (hidle : s.engine.running = none) : (s.resume r).Form X := by
  have hform := (h.restored List.mem_cons_self).enterAloft (c := r.ch) List.mem_cons_self .starting
  have hrun : ((Machine.restored s r).enter r.ch .starting).engine.running = none := by
    rw [show ((Machine.restored s r).enter r.ch .starting).engine = s.engine from restored_engine s r]
    exact hidle
  have hst : (((Machine.restored s r).enter r.ch .starting).chan r.ch).state = .starting := by
    rw [chan_enter, if_pos rfl]
  have hcases := s.resume_cases r
  generalize s.resume r = t at hcases ⊢
  cases hcases with
  | waits left => exact Form.run (r := { ch := r.ch, step := r.next, timeLeft := left }) hform hX hrun hst
  | steps i => exact hform.takeSteps hX hrun hst i
  | fails => exact hform.failRecipe _ hrun

theorem Form.freeLoop {X : List Chan} (n : Nat) {s : State} (h : s.Form X) : (freeLoop n s).Form X := by
  induction n generalizing s with
  | zero => exact h
  | succ n ih =>
    unfold State.freeLoop
    split
    · exact h
    · next hrun =>
      split
      · next c hw =>
        obtain ⟨hform, hX⟩ := h.unwait hw
        exact ih (hform.beginStart hX hrun)
      · split
        · next r rest hs =>
          obtain ⟨hform, hX⟩ := h.pop hs
          exact ih (hform.resume hX hrun)
        · exact h

theorem Form.notify {X : List Chan} {s : State} (h : s.Form X) : s.notify.Form X := h.of_eq rfl rfl rfl

theorem Form.freeEngine {X : List Chan} {s : State} (h : s.Form X) : s.freeEngine.Form X := by
  unfold State.freeEngine
  split
  · exact h
  · exact (h.freeLoop 5).notify

/-- The running start is suspended (R104, R105). -/
theorem suspend_eq (s : State) (c : Chan) (next : Nat) (left : Option Nat) :
    s.suspend c next left =
      let u := (if (s.cfg c).suspendPolicy = .park then s.outsOff c else s).enter c .suspended
      { u with engine.stack := contextOf s c next left :: u.engine.stack, engine.running := none } := by
  unfold suspend contextOf
  cases (s.cfg c).suspendPolicy <;> rfl

theorem chan_suspend (s : State) (c d : Chan) (next : Nat) (left : Option Nat) :
    (s.suspend c next left).chan d =
      if d = c then
        { s.chan c with
          state := .suspended
          pre := if (s.cfg c).suspendPolicy = .park then false else (s.chan c).pre
          main := if (s.cfg c).suspendPolicy = .park then false else (s.chan c).main }
      else s.chan d := by
  have h : (s.suspend c next left).chan d
      = ((if (s.cfg c).suspendPolicy = .park then s.outsOff c else s).enter c .suspended).chan d := by
    rw [suspend_eq]
    rfl
  rw [h, chan_enter]
  by_cases hp : (s.cfg c).suspendPolicy = .park
  · rw [if_pos hp, chan_outsOff, chan_outsOff]
    split <;> simp [*]
  · rw [if_neg hp]
    split <;> simp [*]

theorem suspend_engine (s : State) (c : Chan) (next : Nat) (left : Option Nat) :
    (s.suspend c next left).engine =
      { s.engine with stack := contextOf s c next left :: s.engine.stack, running := none } := by
  rw [suspend_eq]
  dsimp only
  split <;> rfl

theorem Form.suspend {X : List Chan} {s : State} (h : s.Form X) {r : RunSlot} (hr : s.engine.running = some r) (next : Nat)
    (left : Option Nat) : (s.suspend r.ch next left).Form X := by
  obtain ⟨hform, hX, hst⟩ := h.stop hr
  obtain ⟨hord, hqueue, hengine, houts⟩ := hform
  have hon : s.idled.flying (r.ch :: X) r.ch = .on := flying_cons_self _ _ _
  have hstate : ((s.suspend r.ch next left).chan r.ch).state = .suspended := by rw [chan_suspend, if_pos rfl]
  have hfly : (s.suspend r.ch next left).flying X = Function.update (s.idled.flying (r.ch :: X)) r.ch .suspended := by
    rw [← hstate]
    exact flying_land hX fun d hd => by rw [chan_suspend, if_neg hd]; rfl
  have hmark : (s.suspend r.ch next left).markOf = s.markOf := by
    funext d
    rw [markOf, chan_suspend]
    split
    · next hd => rw [hd]; rfl
    · rfl
  have hq : (s.suspend r.ch next left).queue = s.queue := by simp
  have he := suspend_engine s r.ch next left
  refine ⟨by rw [hmark, hq]; exact hord, ?_, ?_, fun d => ?_⟩
  · rw [hfly, hq]
    refine hqueue.congr rfl rfl fun d => ?_
    by_cases hd : d = r.ch
    · subst hd
      rw [Function.update_self, hon]
      simp [inQueue]
    · rw [Function.update_of_ne hd]
  · rw [hfly]
    refine hengine.push (k := contextOf s r.ch next left) ?_ ?_ ?_ ?_
    · rw [show (contextOf s r.ch next left).ch = r.ch from rfl, hon]
      rfl
    · rw [he]; rfl
    · rw [he]; rfl
    · rw [he]; rfl
  · rw [hfly]
    by_cases hd : d = r.ch
    · subst hd
      exact .inl (by rw [Function.update_self]; rfl)
    · rw [Function.update_of_ne hd, chan_suspend, if_neg hd]
      exact houts d

theorem Form.stepCompletes {X : List Chan} {s : State} (h : s.Form X) {r : RunSlot} (hr : s.engine.running = some r) :
    (s.stepCompletes r).Form X := by
  obtain ⟨hform, hX, hst⟩ := h.stop hr
  unfold State.stepCompletes
  split
  · split
    · exact (h.suspend hr _ _).freeEngine
    · rw [takeSteps_idled]
      exact (hform.takeSteps hX rfl hst _).freeEngine
  · have hcomp : s.completeRecipe r.ch = s.idled.completeRecipe r.ch := rfl
    rw [hcomp]
    exact (hform.completeRecipe rfl).freeEngine

theorem Form.stepFails {X : List Chan} {s : State} (h : s.Form X) {r : RunSlot} (hr : s.engine.running = some r) :
    (s.stepFails r).Form X := by
  obtain ⟨hform, -, -⟩ := h.stop hr
  unfold State.stepFails
  rw [failRecipe_idled]
  exact (hform.failRecipe _ rfl).freeEngine

/-- The renewal bookkeeping of a start is cleared (R91, R95). -/
def renewalsCleared (s : State) (c : Chan) : State :=
  { s with
    engine.renewVoids := s.engine.renewVoids.set c 0
    engine.exhausted := s.engine.exhausted.set c false }

theorem Form.renewalsCleared {X : List Chan} {s : State} (h : s.Form X) (c : Chan) : (s.renewalsCleared c).Form X :=
  h.forget rfl rfl rfl rfl rfl

/-- A start takes the PENDING slot (R107). -/
theorem Form.wait {X : List Chan} {s : State} {c : Chan} (h : s.Form (c :: X)) (hX : c ∉ X)
    (hw : s.engine.waiting = none) (hout : outsAreOff (s.chan c)) :
    ({ s.enter c .pending with engine.waiting := some c } : State).Form X := by
  have hon := flying_cons_self s c X
  have hchan (d : Chan) : (({ s.enter c .pending with engine.waiting := some c } : State)).chan d
      = if d = c then { s.chan c with state := .pending } else s.chan d := chan_enter s c d .pending
  have hstate : ((({ s.enter c .pending with engine.waiting := some c } : State)).chan c).state = .pending := by
    rw [hchan, if_pos rfl]
  have hfly : ({ s.enter c .pending with engine.waiting := some c } : State).flying X
      = Function.update (s.flying (c :: X)) c .pending := by
    have hland := flying_land (s := s) (t := { s.enter c .pending with engine.waiting := some c }) hX fun d hd => by
      rw [hchan, if_neg hd]
    rw [hland, hstate]
  have hmark : ({ s.enter c .pending with engine.waiting := some c } : State).markOf = s.markOf := by
    funext d
    rw [markOf, hchan]
    split
    · next hd => rw [hd]; rfl
    · rfl
  obtain ⟨hord, hqueue, hengine, houts⟩ := h
  refine ⟨by rw [hmark]; exact hord, ?_, ?_, fun d => ?_⟩
  · rw [hfly]
    refine hqueue.congr rfl rfl fun d => ?_
    by_cases hd : d = c
    · subst hd
      rw [Function.update_self, hon]
      simp [inQueue]
    · rw [Function.update_of_ne hd]
  · rw [hfly]
    exact hengine.wait hw (by rw [hon]; rfl) rfl rfl rfl
  · rw [hfly]
    by_cases hd : d = c
    · subst hd
      refine .inr ?_
      rw [hchan, if_pos rfl]
      exact hout
    · rw [Function.update_of_ne hd, hchan, if_neg hd]
      exact houts d

theorem Form.placeStart {X : List Chan} {s : State} {c : Chan} (h : s.Form (c :: X)) (hX : c ∉ X)
    (hw : s.engine.waiting = none) (hout : outsAreOff (s.chan c)) : (s.placeStart c).Form X := by
  have hcleared := h.renewalsCleared c
  unfold State.placeStart
  dsimp only
  split
  · next hrun => exact ((hcleared.beginStart hX hrun).freeEngine).notify
  · next r hr =>
    have hwait : (({ (s.renewalsCleared c).enter c .pending with engine.waiting := some c } : State)).Form X :=
      hcleared.wait hX hw hout
    split
    · split
      · have hsus := hcleared.suspend hr r.step (some r.timeLeft)
        refine ((hsus.beginStart hX ?_).freeEngine).notify
        rw [suspend_engine]
      · exact hwait.notify
    · exact hwait.notify

/-! ## A start is taken from the engine (R95, R113) -/

theorem tracked_iff (s : State) (c : Chan) :
    s.tracked c = true ↔ s.engine.running.map (·.ch) = some c ∨ s.engine.waiting = some c
      ∨ c ∈ s.engine.stack.map (·.ch) := by
  have hrun : (match s.engine.running with
      | some r => decide (r.ch = c)
      | none => false) = true ↔ s.engine.running.map (·.ch) = some c := by
    cases s.engine.running with
    | none => simp
    | some r => simp
  unfold tracked
  rw [Bool.or_eq_true, Bool.or_eq_true, or_assoc, decide_eq_true_eq]
  refine or_congr hrun (or_congr Iff.rfl ?_)
  simp

/-- The PENDING slot empties. -/
def unwaited (s : State) : State := { s with engine.waiting := none }

/-- The record of a channel leaves the stack. -/
def unstacked (s : State) (c : Chan) : State :=
  { s with engine.stack := s.engine.stack.filter fun k => decide (k.ch ≠ c) }

theorem removeStart_of_waiting {s : State} {c : Chan} (h : s.engine.waiting = some c) :
    s.removeStart c = (s.renewalsCleared c).unwaited.notify := by
  unfold removeStart
  rw [if_pos ((tracked_iff s c).mpr (.inr (.inl h)))]
  dsimp only
  rw [if_pos h]
  rfl

theorem removeStart_of_running {s : State} {c : Chan} {r : RunSlot} (hw : s.engine.waiting ≠ some c)
    (h : s.engine.running = some r) (hr : r.ch = c) : s.removeStart c = (s.renewalsCleared c).idled.freeEngine := by
  unfold removeStart
  rw [if_pos ((tracked_iff s c).mpr (.inl (by rw [h, ← hr]; rfl)))]
  dsimp only
  rw [if_neg hw, h]
  dsimp only
  rw [if_pos hr]
  rfl

theorem removeStart_of_stacked {s : State} {c : Chan} (hw : s.engine.waiting ≠ some c)
    (hr : s.engine.running.map (·.ch) ≠ some c) (h : c ∈ s.engine.stack.map (·.ch)) :
    s.removeStart c = (s.renewalsCleared c).unstacked c := by
  unfold removeStart
  rw [if_pos ((tracked_iff s c).mpr (.inr (.inr h)))]
  dsimp only
  rw [if_neg hw]
  split
  · next r hrun =>
    rw [hrun] at hr
    rw [if_neg fun hc => hr (by rw [← hc]; rfl)]
    rfl
  · rfl

theorem removeStart_of_not_tracked {s : State} {c : Chan} (h : s.tracked c = false) : s.removeStart c = s := by
  unfold removeStart
  rw [h]
  rfl

/-- A start is taken from the engine, and its channel is in flight. -/
theorem Form.removeStart {X : List Chan} {s : State} {c : Chan} (h : s.Form X) (hX : c ∉ X)
    (hc : (s.chan c).state.inEngine = true) : (s.removeStart c).Form (c :: X) := by
  have hfly : s.flying X c = (s.chan c).state := flying_of_not_mem s hX
  have hcleared := h.renewalsCleared c
  have hrun : s.engine.running.map (·.ch) = some c ↔ (s.chan c).state = .starting := by
    rw [h.engine.running, hfly]
  have hwait : s.engine.waiting = some c ↔ (s.chan c).state = .pending := by rw [h.engine.waiting, hfly]
  have hstack : c ∈ s.engine.stack.map (·.ch) ↔ (s.chan c).state = .suspended := by rw [h.engine.stacked, hfly]
  cases hst : (s.chan c).state with
  | pending =>
    rw [removeStart_of_waiting (hwait.mpr hst)]
    exact (hcleared.unwait (hwait.mpr hst)).1.notify
  | starting =>
    obtain ⟨r, hr, rfl⟩ := Option.map_eq_some_iff.mp (hrun.mpr hst)
    rw [removeStart_of_running (fun hw => by simp [hwait.mp hw] at hst) hr rfl]
    exact (hcleared.stop hr).1.freeEngine
  | suspended =>
    rw [removeStart_of_stacked (fun hw => by simp [hwait.mp hw] at hst) (fun hr => by simp [hrun.mp hr] at hst)
      (hstack.mpr hst)]
    exact (hcleared.takeOut (t := (s.renewalsCleared c).unstacked c) (.inr (hfly.trans hst)) rfl rfl
      (hcleared.engine.unstack (hfly.trans hst) rfl rfl rfl)).1
  | disabled | idle | queued | claiming | settling | on | shed | faulted => rw [hst] at hc; cases hc

end State

end Sys2Proof.Machine
end

section
/-!
Aborts, demand, and the other operations on a channel keep the laws of queue, engine and outputs.
-/

namespace Sys2Proof.Machine

open Sys2Proof

namespace State

/-! ## Outputs, releases and records -/

theorem Form.log {X : List Chan} {s : State} (h : s.Form X) (k : FaultKind) (c : Option Chan) (i : Option Nat)
    (a : Option Addr) : (s.log k c i a).Form X := h.of_eq rfl rfl rfl

/-- Outputs may go off in every state. -/
theorem Form.outsOff {X : List Chan} {s : State} (h : s.Form X) (c : Chan) : (s.outsOff c).Form X := by
  have hfly : (s.outsOff c).flying X = s.flying X := flying_congr fun d _ => by
    rw [chan_outsOff]
    split
    · next hd => rw [hd]
    · rfl
  have hmark : (s.outsOff c).markOf = s.markOf := changesOnly.marks (changesOnly_modChan s c rfl)
  refine h.reshape (sameStores_of_eq rfl rfl) hmark (fun d => .inl (by rw [hfly])) fun d => ?_
  rw [hfly, chan_outsOff]
  split
  · exact .inr ⟨rfl, rfl⟩
  · exact h.outs d

theorem Form.modChan {X : List Chan} {s : State} (h : s.Form X) (c : Chan) {f : Channel → Channel}
    (hf : ∀ k : Channel, (f k).core = k.core) : (s.modChan c f).Form X := h.congr (sameCore_modChan s c hf)

theorem Form.setRelease {X : List Chan} {s : State} (h : s.Form X) (c : Chan) (r : Release) : (s.setRelease c r).Form X :=
  Form.of_eq (h.modChan c (f := fun k => { k with release := r }) fun _ => rfl) rfl rfl rfl

theorem Form.clearRelease {X : List Chan} {s : State} (h : s.Form X) (c : Chan) : (s.clearRelease c).Form X :=
  (h.setRelease c .none).notify

theorem Form.replaceSettled {X : List Chan} {s : State} (h : s.Form X) (c : Chan) (r : Release) :
    (s.replaceSettled c r).Form X :=
  ((h.setRelease c r).modChan c (f := fun k => { k with settleWithdrawn := false }) fun _ => rfl).notify

theorem Form.settleEnded {X : List Chan} {s : State} (h : s.Form X) (c : Chan) : (s.settleEnded c).Form X := by
  unfold State.settleEnded
  split
  · exact h.replaceSettled c _
  · exact h

/-- The outputs of a channel outside the states that drive them. -/
theorem Form.off {X : List Chan} {s : State} (h : s.Form X) {c : Chan} (hX : c ∉ X)
    (hc : (s.chan c).state.drives = false) : outsAreOff (s.chan c) := by
  have hout := h.outs c
  rw [flying_of_not_mem s hX, hc] at hout
  exact hout.resolve_left Bool.false_ne_true

/-- A channel that queue and engine do not hold enters another such state. -/
theorem Form.enterLoose {X : List Chan} {s : State} (h : s.Form X) {c : Chan} (hc : (s.chan c).state.loose = true)
    {st : ChanState} (hst : st.loose = true) (hout : st.drives = true ∨ outsAreOff (s.chan c)) :
    (s.enter c st).Form X := by
  have hself : (s.enter c st).chan c = { s.chan c with state := st } := by rw [chan_enter, if_pos rfl]
  refine h.move hc (by rw [hself]; exact hst) ?_ (changesOnly_modChan s c rfl) (sameStores_of_eq rfl rfl)
  rw [hself]
  exact hout

/-- A channel in flight comes to rest where its state is one that queue and engine do not hold. -/
theorem Form.enterLanding {X : List Chan} {s : State} {c : Chan} (h : s.Form (c :: X)) {st : ChanState}
    (hst : st.loose = true) (hout : st.drives = true ∨ outsAreOff (s.chan c)) : (s.enter c st).Form X := by
  have hself : (s.enter c st).chan c = { s.chan c with state := st } := by rw [chan_enter, if_pos rfl]
  refine h.land (by rw [hself]; exact hst) ?_ (changesOnly_modChan s c rfl) (sameStores_of_eq rfl rfl)
  rw [hself]
  exact hout

theorem Form.deferredJoin {s : State} (h : s.Form []) (c : Chan) : (s.deferredJoin c).Form [] := by
  unfold State.deferredJoin
  split
  · next hc =>
    exact (h.detach (by rw [hc.1]; rfl)).join List.not_mem_nil (h.off List.not_mem_nil (by rw [hc.1]; rfl))
  · exact h

/-! ## Aborts -/

/-- The channel of a removed start keeps its record. -/
theorem chan_removeStart_self {s : State} (h : s.Form []) {c : Chan} : (s.removeStart c).chan c = s.chan c := by
  have hfly (d : Chan) : s.flying [] d = (s.chan d).state := flying_of_not_mem s List.not_mem_nil
  have hcleared := h.renewalsCleared c
  by_cases ht : s.tracked c = true
  · by_cases hw : s.engine.waiting = some c
    · rw [removeStart_of_waiting hw]
      rfl
    · rcases (tracked_iff s c).mp ht with hr | hw' | hs
      · have hst : (s.chan c).state = .starting := by rw [← hfly]; exact (h.engine.running c).mp hr
        obtain ⟨r, hrun, hch⟩ := Option.map_eq_some_iff.mp hr
        rw [removeStart_of_running hw hrun hch]
        have hstack : c ∉ s.engine.stack.map (·.ch) := fun hmem => by
          have := (h.engine.stacked c).mp hmem
          rw [hfly, hst] at this
          cases this
        have hloop := chan_freeLoop_other (d := c) 5 (s.renewalsCleared c).idled hw hstack
        exact hloop
      · exact absurd hw' hw
      · by_cases hr : s.engine.running.map (·.ch) = some c
        · have hst : (s.chan c).state = .starting := by rw [← hfly]; exact (h.engine.running c).mp hr
          have := (h.engine.stacked c).mp hs
          rw [hfly, hst] at this
          cases this
        · rw [removeStart_of_stacked hw hr hs]
          rfl
  · rw [removeStart_of_not_tracked (by simpa using ht)]

/-- A start in progress is taken out with its outputs off. -/
theorem Form.cutStart {s : State} (h : s.Form []) {c : Chan} (hc : (s.chan c).state.inEngine = true) :
    ((s.outsOff c).removeStart c).Form [c] ∧ outsAreOff (((s.outsOff c).removeStart c).chan c) := by
  have hoff := h.outsOff c
  have hself : (s.outsOff c).chan c = { s.chan c with pre := false, main := false } := by rw [chan_outsOff, if_pos rfl]
  refine ⟨hoff.removeStart List.not_mem_nil (by rw [hself]; exact hc), ?_⟩
  rw [chan_removeStart_self hoff, hself]
  exact ⟨rfl, rfl⟩

theorem outsAreOff_setRelease {s : State} {c : Chan} (h : outsAreOff (s.chan c)) (r : Release) :
    outsAreOff ((s.setRelease c r).chan c) := by
  rw [chan_setRelease, if_pos rfl]
  exact h

theorem Form.abortStart {s : State} (h : s.Form []) {c : Chan} (hc : (s.chan c).state.inEngine = true) (r : Release)
    (k : FaultKind) (a : Option Addr) : (s.abortStart c r k a).Form [] := by
  obtain ⟨hcut, hout⟩ := h.cutStart hc
  exact ((hcut.setRelease c r).log k (some c) (s.startStep c) a).join List.not_mem_nil (outsAreOff_setRelease hout r)

theorem Form.inhibitStart {s : State} (h : s.Form []) {c : Chan} (hc : (s.chan c).state.inEngine = true) :
    (s.inhibitStart c).Form [] := by
  obtain ⟨hcut, hout⟩ := h.cutStart hc
  exact (hcut.setRelease c _).join List.not_mem_nil (outsAreOff_setRelease hout _)

/-- A start lies in the engine exactly where its channel is in a state of the engine. -/
theorem Form.tracked_iff {s : State} (h : s.Form []) (c : Chan) : s.tracked c = true ↔ (s.chan c).state.inEngine = true := by
  have hfly : s.flying [] c = (s.chan c).state := flying_of_not_mem s List.not_mem_nil
  rw [State.tracked_iff, h.engine.running, h.engine.waiting, h.engine.stacked, hfly]
  cases (s.chan c).state <;> simp [ChanState.inEngine]

theorem Form.ownHoldOut {s : State} (h : s.Form []) (c : Chan) (q : Seq) : (s.ownHoldOut c q).Form [] := by
  unfold State.ownHoldOut
  split
  · next hc =>
    simp only [Bool.and_eq_true] at hc
    exact h.abortStart ((h.tracked_iff c).mp hc.1.2) _ _ _
  · exact h

/-! ## The abort of every start (R114) -/

/-- The first part of the abort of a channel's start leaves the other channels. -/
theorem chan_abortChan_other (s : State) (rel : Option Release) {c d : Chan} (hd : d ≠ c) :
    (s.abortChan rel c).chan d = s.chan d := by
  unfold abortChan
  split
  · dsimp only
    split
    · rw [chan_setRelease, if_neg hd, chan_outsOff, if_neg hd]
    · rw [chan_outsOff, if_neg hd]
  · rfl

/-- The release that an abort of every start leaves: the given one, or the one that stands. -/
def abortRelease (rel : Option Release) (k : Channel) : Release := rel.getD k.release

/-- What the first part of an abort leaves of a channel: outputs off and its release where its start is in progress. -/
def cutChannel (rel : Option Release) (k : Channel) : Channel :=
  if k.state.inEngine then { k with pre := false, main := false, release := abortRelease rel k } else k

theorem cutChannel_state (rel : Option Release) (k : Channel) : (cutChannel rel k).state = k.state := by
  unfold cutChannel
  split <;> rfl

theorem cutChannel_mark (rel : Option Release) (k : Channel) : (cutChannel rel k).mark = k.mark := by
  unfold cutChannel
  split <;> rfl

theorem chan_abortChan_self (s : State) (rel : Option Release) (c : Chan) :
    (s.abortChan rel c).chan c = cutChannel rel (s.chan c) := by
  unfold abortChan cutChannel
  split
  · dsimp only
    cases rel with
    | some r => rw [chan_setRelease, if_pos rfl, chan_outsOff, if_pos rfl]; rfl
    | none => rw [chan_outsOff, if_pos rfl]; rfl
  · rfl

theorem chan_foldl_abortChan (rel : Option Release) (l : List Chan) (s : State) (hl : l.Nodup) (d : Chan) :
    (l.foldl (fun s c => s.abortChan rel c) s).chan d = if d ∈ l then cutChannel rel (s.chan d) else s.chan d := by
  induction l generalizing s with
  | nil => rfl
  | cons c cs ih =>
    rw [List.nodup_cons] at hl
    rw [List.foldl_cons, ih _ hl.2]
    by_cases hd : d = c
    · subst hd
      rw [if_neg hl.1, if_pos List.mem_cons_self, chan_abortChan_self]
    · rw [chan_abortChan_other s rel hd]
      simp [hd]

theorem allChans_nodup : allChans.Nodup := by decide

theorem mem_allChans (c : Chan) : c ∈ allChans := by revert c; decide

/-- Every start in progress has its outputs off and its release set (R76, R114). -/
def allCut (s : State) (rel : Option Release) : State := allChans.foldl (fun s c => s.abortChan rel c) s

theorem chan_allCut (s : State) (rel : Option Release) (c : Chan) : (s.allCut rel).chan c = cutChannel rel (s.chan c) := by
  rw [allCut, chan_foldl_abortChan rel allChans s allChans_nodup, if_pos (mem_allChans c)]

/-- The engine is emptied, the renewal bookkeeping of the given starts cleared (R95, R114). -/
def engineEmptied (s : State) (cs : List Chan) : State :=
  { s with engine :=
      { running := none, waiting := none, stack := []
        renewVoids := cs.foldl (fun f c => f.set c 0) s.engine.renewVoids
        exhausted := cs.foldl (fun f c => f.set c false) s.engine.exhausted } }

theorem abortAll_eq (s : State) (rel : Option Release) :
    s.abortAll rel = (((s.allCut rel).engineEmptied s.startsInProgress).joinAll s.startsInProgress).notify := rfl

theorem mem_startsInProgress (s : State) (c : Chan) : c ∈ s.startsInProgress ↔ (s.chan c).state.inEngine = true := by
  unfold startsInProgress
  rw [List.mem_filter]
  exact and_iff_right (mem_allChans c)

theorem Form.joinAll (l : List Chan) {s : State} (h : s.Form l) (hl : l.Nodup) (hout : ∀ c ∈ l, outsAreOff (s.chan c)) :
    (s.joinAll l).Form [] := by
  induction l generalizing s with
  | nil => exact h
  | cons c cs ih =>
    rw [List.nodup_cons] at hl
    refine ih (h.join hl.1 (hout c List.mem_cons_self)) hl.2 fun d hd => ?_
    rw [chan_join, if_neg fun hdc : d = c => hl.1 (hdc ▸ hd)]
    exact hout d (List.mem_cons_of_mem _ hd)

theorem Form.abortAll {s : State} (h : s.Form []) (rel : Option Release) : (s.abortAll rel).Form [] := by
  have hchan (c : Chan) : ((s.allCut rel).engineEmptied s.startsInProgress).chan c = cutChannel rel (s.chan c) :=
    chan_allCut s rel c
  have hfly (c : Chan) : ((s.allCut rel).engineEmptied s.startsInProgress).flying s.startsInProgress c
      = if (s.chan c).state.inEngine then .on else (s.chan c).state := by
    unfold flying
    simp only [mem_startsInProgress, hchan, cutChannel_state]
  have hnil (c : Chan) : s.flying [] c = (s.chan c).state := flying_of_not_mem s List.not_mem_nil
  obtain ⟨hord, hqueue, hengine, houts⟩ := h
  have hmark : ((s.allCut rel).engineEmptied s.startsInProgress).markOf = s.markOf := by
    funext c
    rw [markOf, hchan, cutChannel_mark]
    rfl
  have hq : ((s.allCut rel).engineEmptied s.startsInProgress).queue = s.queue := by
    simp [engineEmptied, allCut]
  have hform : ((s.allCut rel).engineEmptied s.startsInProgress).Form s.startsInProgress := by
    refine ⟨by rw [hmark, hq]; exact hord, ?_, ?_, fun c => ?_⟩
    · rw [hq]
      refine hqueue.congr rfl rfl fun c => ?_
      rw [hfly, hnil]
      cases (s.chan c).state <;> simp [inQueue, ChanState.inEngine]
    · refine engineHolds_empty rfl rfl rfl fun c => ?_
      rw [hfly]
      cases (s.chan c).state <;> rfl
    · have hc := houts c
      rw [hnil] at hc
      rw [hfly, hchan]
      unfold cutChannel
      split
      · exact .inl rfl
      · exact hc
  rw [abortAll_eq]
  refine (Form.joinAll _ hform (allChans_nodup.filter _) fun c hc => ?_).notify
  rw [hchan, cutChannel, if_pos ((mem_startsInProgress s c).mp hc)]
  exact ⟨rfl, rfl⟩

end State

end Sys2Proof.Machine
end

section
/-!
Demand, own frames, expiries, shedding and INH keep the laws of queue, engine and outputs.
-/

namespace Sys2Proof.Machine

open Sys2Proof

namespace State

/-! ## Demand (R67-R72) -/

theorem Form.demandOn {s : State} (h : s.Form []) (c : Chan) : (s.demandOn c).Form [] := by
  have hl := h.modChan c (f := fun k => { k with latch := true }) fun _ => rfl
  unfold State.demandOn
  dsimp only
  split
  · next hc =>
    exact (hl.detach (by rw [hc.1]; rfl)).join List.not_mem_nil (hl.off List.not_mem_nil (by rw [hc.1]; rfl))
  · exact hl

/-- The CLAIM on the bus of a channel is a withdrawn claim (R59, R70). -/
def claimTakenBack (s : State) (c : Chan) : State :=
  if s.claimOnBus c then { s with bus.tx := s.bus.tx.map fun t => { t with withdrawn := true } } else s

/-- The latch of a channel goes off, and its mark is cleared (R64, R69). -/
def latchOff (s : State) (c : Chan) : State := (s.modChan c fun k => { k with latch := false }).clearMark c

theorem demandOff_eq (s : State) (c : Chan) :
    s.demandOff c =
      match ((s.latchOff c).chan c).state with
      | .queued => ((s.latchOff c).leave c).enter c .idle
      | .claiming => (((s.latchOff c).claimTakenBack c).leave c).enter c .idle
      | .pending | .starting | .suspended =>
        ((((s.latchOff c).outsOff c).removeStart c).setRelease c (.abandoned .requestOff)).enter c .idle
      | .settling =>
        if (((s.latchOff c).outsOff c).enter c .idle).settledOnBus c then
          (((s.latchOff c).outsOff c).enter c .idle).modChan c fun k => { k with settleWithdrawn := true }
        else (((s.latchOff c).outsOff c).enter c .idle).replaceSettled c (.abandoned .requestOff)
      | .on =>
        ((((s.latchOff c).outsOff c).setRelease c (.stopped .requestOff)).enter c .idle).modChan c
          fun k => { k with senseGrace := none }
      | .shed => ((s.latchOff c).enter c .idle).modChan c fun k => { k with shedRest := none }
      | .faulted => (s.latchOff c).enter c .idle
      | .idle => s.latchOff c
      | .disabled => s.latchOff c := rfl

theorem outsAreOff_outsOff (s : State) (c : Chan) : outsAreOff ((s.outsOff c).chan c) := by
  rw [chan_outsOff, if_pos rfl]
  exact ⟨rfl, rfl⟩

theorem outsOff_state (s : State) (c d : Chan) : ((s.outsOff c).chan d).state = (s.chan d).state := by
  rw [chan_outsOff]
  split
  · next hd => rw [hd]
  · rfl

theorem setRelease_state (s : State) (c d : Chan) (r : Release) : ((s.setRelease c r).chan d).state = (s.chan d).state := by
  rw [chan_setRelease]
  split
  · next hd => rw [hd]
  · rfl

/-- A channel of the queue goes to IDLE: its entry leaves (R49, R70). -/
theorem Form.idleFromQueue {s : State} (h : s.Form []) {c : Chan} (hc : inQueue (s.chan c).state) :
    ((s.leave c).enter c .idle).Form [] := by
  have hstate : (s.chan c).state.inEngine = false ∧ (s.chan c).state.drives = false := by
    rcases hc with hc | hc <;> rw [hc] <;> exact ⟨rfl, rfl⟩
  have hleft := h.leave c (by rw [flying_of_not_mem s List.not_mem_nil]; exact hstate.1)
  exact hleft.enterLanding rfl (.inr (h.off List.not_mem_nil hstate.2))

theorem Form.claimTakenBack {s : State} (h : s.Form []) (c : Chan) : (s.claimTakenBack c).Form [] := by
  unfold State.claimTakenBack
  split
  · exact h.of_eq rfl rfl rfl
  · exact h

theorem chan_claimTakenBack (s : State) (c d : Chan) : (s.claimTakenBack c).chan d = s.chan d := by
  unfold State.claimTakenBack
  split <;> rfl

theorem Form.latchOff {s : State} (h : s.Form []) (c : Chan) : (s.latchOff c).Form [] :=
  (h.modChan c (f := fun k => { k with latch := false }) fun _ => rfl).clearMark c

theorem Form.demandOff {s : State} (h : s.Form []) (c : Chan) : (s.demandOff c).Form [] := by
  have hl := h.latchOff c
  rw [demandOff_eq]
  generalize s.latchOff c = u at hl ⊢
  have hoff := hl.outsOff c
  split
  · next hq => exact hl.idleFromQueue (.inl hq)
  · next hcl => exact (hl.claimTakenBack c).idleFromQueue (.inr (by rw [chan_claimTakenBack]; exact hcl))
  iterate 3
    · next hst =>
      obtain ⟨hcut, hout⟩ := hl.cutStart (c := c) (by rw [hst]; rfl)
      exact (hcut.setRelease c _).enterLanding rfl (.inr (outsAreOff_setRelease hout _))
  · next hst =>
    have hidle : ((u.outsOff c).enter c .idle).Form [] :=
      hoff.enterLoose (by rw [outsOff_state, hst]; rfl) rfl (.inr (outsAreOff_outsOff u c))
    split
    · exact hidle.modChan c fun _ => rfl
    · exact hidle.replaceSettled c _
  · next hst =>
    have hrel := hoff.setRelease c (.stopped .requestOff)
    have hidle := hrel.enterLoose (c := c) (st := .idle) (by rw [setRelease_state, outsOff_state, hst]; rfl) rfl
      (.inr (outsAreOff_setRelease (outsAreOff_outsOff u c) _))
    exact hidle.modChan c fun _ => rfl
  · next hst =>
    have hidle : (u.enter c .idle).Form [] :=
      hl.enterLoose (by rw [hst]; rfl) rfl (.inr (hl.off List.not_mem_nil (by rw [hst]; rfl)))
    exact hidle.modChan c fun _ => rfl
  · next hst => exact hl.enterLoose (by rw [hst]; rfl) rfl (.inr (hl.off List.not_mem_nil (by rw [hst]; rfl)))
  · exact hl
  · exact hl

/-- The latch that a press or release writes, by the request mode (R67). -/
def latchWritten (s : State) (c : Chan) (active : Bool) : Bool :=
  match (s.cfg c).requestMode with
  | .level => active
  | .toggle => if active then !(s.chan c).latch else (s.chan c).latch

theorem writeLatch_eq (s : State) (c : Chan) (b : Bool) :
    s.writeLatch c b =
      if (s.chan c).latch = s.latchWritten c b then s
      else if s.latchWritten c b then s.demandOn c else s.demandOff c := rfl

theorem Form.writeLatch {s : State} (h : s.Form []) (c : Chan) (b : Bool) : (s.writeLatch c b).Form [] := by
  rw [writeLatch_eq]
  split
  · exact h
  · split
    · exact h.demandOn c
    · exact h.demandOff c

theorem Form.debounced {s : State} (h : s.Form []) (c : Chan) : (s.debounced c).Form [] := by
  have hm := h.modChan c (f := fun k => { k with debounceTimer := none, debounced := s.pins.req.get c }) fun _ => rfl
  unfold State.debounced
  dsimp only
  split
  · exact hm
  · exact hm.writeLatch c _

/-! ## Own frames -/

theorem queueEntry_inQueue {s : State} (h : s.Form []) {c : Chan} {e : QueueEntry} (he : s.queueEntry c = some e) :
    inQueue (s.chan c).state := by
  rw [← flying_of_not_mem s List.not_mem_nil, ← h.queue.holds, ← queueEntry_isSome, he]
  rfl

theorem Form.countClaimVoid {s : State} (h : s.Form []) (c : Chan) : (s.countClaimVoid c).Form [] := by
  unfold State.countClaimVoid
  split
  · next e he =>
    split
    · exact (h.requeue (queueEntry_inQueue h he)).log _ _ _ _
    · exact h.congr (sameCore_modEntry s c fun _ => rfl)
  · exact h

theorem countClaimVoid_inQueue {s : State} {c : Chan} (h : inQueue (s.chan c).state) :
    inQueue ((s.countClaimVoid c).chan c).state := by
  unfold countClaimVoid
  split
  · split
    · have hchan : (((s.requeue c).log .retryExhausted (some c) none none).chan c) = (s.requeue c).chan c := rfl
      rw [hchan, chan_requeue, if_pos rfl]
      exact .inl rfl
    · exact h
  · exact h

theorem Form.claimEnded {s : State} (h : s.Form []) {t : TxFrame} {c : Chan}
    (hc : t.withdrawn = false → inQueue (s.chan c).state) : (s.claimEnded t c).Form [] := by
  unfold State.claimEnded
  split
  · exact h.deferredJoin c
  · next hw =>
    have hq := hc (by simpa using hw)
    split
    · split
      · exact h.requeue hq
      · exact h
    · exact (h.requeue hq).notify

theorem Form.claimVoided {s : State} (h : s.Form []) {t : TxFrame} {c : Chan}
    (hc : t.withdrawn = false → inQueue (s.chan c).state) : (s.claimVoided t c).Form [] := by
  unfold State.claimVoided
  split
  · exact h.deferredJoin c
  · exact (h.countClaimVoid c).claimEnded fun hw => countClaimVoid_inQueue (hc hw)

theorem Form.writeSeq {s : State} (h : s.Form []) (c : Chan) (q : Seq) : (s.writeSeq c q).Form [] :=
  h.modChan c fun _ => rfl

theorem Form.startAdmitted {s : State} (h : s.Form []) {c : Chan} (q : Seq) (hc : (s.chan c).state = .claiming)
    (hw : s.engine.waiting = none) : (s.startAdmitted c q).Form [] := by
  have hseq := h.writeSeq c q
  have hstate : ((s.writeSeq c q).chan c).state = .claiming := by rw [chan_writeSeq, if_pos rfl]; exact hc
  have hleft := hseq.leave c (by rw [flying_of_not_mem _ List.not_mem_nil, hstate]; rfl)
  have hplaced := hleft.placeStart List.not_mem_nil hw (hseq.off List.not_mem_nil (by rw [hstate]; rfl))
  unfold State.startAdmitted
  dsimp only
  split
  · next hinh =>
    rw [Bool.and_eq_true] at hinh
    exact hplaced.inhibitStart hinh.2
  · exact hplaced

/-- The judged claim is counted: the claim counter rises, a refusal adds to claims-refused (R10, R11). -/
def verdictCounted (s : State) (v : Judgement) : State :=
  let s := { s with queue.claimSeq := s.queue.claimSeq + 1 }
  if v = .admitted then s else s.tally fun k => { k with refused := satSucc 65535 k.refused }

/-- The verdict at queue and channel (R56, R58, R59, R69). -/
def verdictTaken (s : State) (t : TxFrame) (p : ClaimPayload) (v : Judgement) : State :=
  if t.withdrawn then
    if v = .admitted then ((s.writeSeq p.ch p.seq).setRelease p.ch (.abandoned .requestOff)).deferredJoin p.ch
    else s.deferredJoin p.ch
  else if v = .admitted then s.startAdmitted p.ch p.seq
  else if s.isHead p.ch then s.requeue p.ch
  else (s.requeue p.ch).notify

theorem claimVerdict_eq (s : State) (t : TxFrame) (p : ClaimPayload) (v : Judgement) :
    s.claimVerdict t p v =
      if (s.verdictCounted v).live then (s.verdictCounted v).verdictTaken t p v else s.verdictCounted v := rfl

@[simp] theorem verdictCounted_keeps (s : State) (v : Judgement) :
    (s.verdictCounted v).pending = s.pending ∧ (s.verdictCounted v).pins = s.pins
      ∧ (s.verdictCounted v).power = s.power ∧ (s.verdictCounted v).retention = s.retention
      ∧ (s.verdictCounted v).history = s.history ∧ (s.verdictCounted v).starts = s.starts
      ∧ (s.verdictCounted v).draws = s.draws ∧ (s.verdictCounted v).channels = s.channels
      ∧ (s.verdictCounted v).inh = s.inh ∧ (s.verdictCounted v).engine = s.engine
      ∧ (s.verdictCounted v).member = s.member ∧ (s.verdictCounted v).loader = s.loader
      ∧ (s.verdictCounted v).faults = s.faults ∧ (s.verdictCounted v).answer = s.answer
      ∧ (s.verdictCounted v).bus.tx = s.bus.tx ∧ (s.verdictCounted v).queue.entries = s.queue.entries
      ∧ (s.verdictCounted v).queue.nextStamp = s.queue.nextStamp ∧ (s.verdictCounted v).notice = s.notice
      ∧ (s.verdictCounted v).queue.claimSeq = s.queue.claimSeq + 1 := by
  unfold verdictCounted
  dsimp only
  split <;> simp

theorem Form.verdictTaken {s : State} (h : s.Form []) {t : TxFrame} {p : ClaimPayload} (v : Judgement)
    (hc : t.withdrawn = false → (s.chan p.ch).state = .claiming ∧ s.engine.waiting = none) :
    (s.verdictTaken t p v).Form [] := by
  unfold State.verdictTaken
  split
  · split
    · exact ((h.writeSeq p.ch p.seq).setRelease p.ch _).deferredJoin p.ch
    · exact h.deferredJoin p.ch
  · next hw =>
    obtain ⟨hst, hwait⟩ := hc (by simpa using hw)
    split
    · exact h.startAdmitted p.seq hst hwait
    · split
      · exact h.requeue (.inr hst)
      · exact (h.requeue (.inr hst)).notify

theorem Form.verdictCounted {X : List Chan} {s : State} (h : s.Form X) (v : Judgement) : (s.verdictCounted v).Form X :=
  h.congr ⟨⟨by simp, by simp, by simp, by simp, by simp⟩, fun c => by rw [chan_of_channels (s := s) (by simp)]⟩

theorem Form.claimVerdict {s : State} (h : s.Form []) {t : TxFrame} {p : ClaimPayload} (v : Judgement)
    (hc : s.live = true → t.withdrawn = false → (s.chan p.ch).state = .claiming ∧ s.engine.waiting = none) :
    (s.claimVerdict t p v).Form [] := by
  have hcount := h.verdictCounted v
  rw [claimVerdict_eq]
  split
  · next hlive =>
    refine hcount.verdictTaken v fun hw => ?_
    have hchan : (s.verdictCounted v).chan p.ch = s.chan p.ch := chan_of_channels (by simp) p.ch
    have heng : (s.verdictCounted v).engine = s.engine := by simp
    rw [hchan, heng]
    exact hc (by simpa [live, operating] using hlive) hw
  · exact hcount

theorem Form.enterOn {s : State} (h : s.Form []) {c : Chan} (hc : (s.chan c).state = .settling) : (s.enterOn c).Form [] := by
  have hrel := h.clearRelease c
  have hloose : ((s.clearRelease c).chan c).state.loose = true := by
    rw [chan_clearRelease, if_pos rfl]
    exact congrArg ChanState.loose hc
  have hon := (hrel.enterLoose (st := .on) hloose rfl (.inl rfl)).clearMark c
  unfold State.enterOn
  dsimp only
  split
  · exact hon.modChan c fun _ => rfl
  · exact hon

theorem Form.ownSettled {s : State} (h : s.Form []) (c : Chan) : (s.ownSettled c).Form [] := by
  unfold State.ownSettled
  split
  · exact h.replaceSettled c _
  · split
    · next hst => exact h.enterOn hst
    · exact h.clearRelease c

theorem Form.ownRenewed {X : List Chan} {s : State} (h : s.Form X) (c : Chan) (n : Fin 16) (b : Bool) :
    (s.ownRenewed c n b).Form X := by
  have hvoids : ({ s with engine.renewVoids := s.engine.renewVoids.set c 0 } : State).Form X := h.forget rfl rfl rfl rfl rfl
  unfold State.ownRenewed
  dsimp only
  split
  · have hcount := hvoids.modChan c (f := fun k => { k with renewals := Fin.ofNat 4 n.val }) fun _ => rfl
    exact hcount.forget rfl rfl rfl rfl rfl
  · exact hvoids

theorem Form.settleExpired {s : State} (h : s.Form []) {c : Chan} (hc : (s.chan c).state = .settling) (a : Addr) :
    (s.settleExpired c a).Form [] := by
  have hoff := ((h.outsOff c).setRelease c .none).log .claimExpired (some c) none (some a)
  have hloose : ((((s.outsOff c).setRelease c .none).log .claimExpired (some c) none (some a)).chan c).state.loose = true := by
    have hst : ((((s.outsOff c).setRelease c .none).log .claimExpired (some c) none (some a)).chan c).state = .settling :=
      (setRelease_state _ _ _ _).trans ((outsOff_state _ _ _).trans hc)
    rw [hst]
    rfl
  exact (hoff.detach hloose).join List.not_mem_nil (outsAreOff_setRelease (outsAreOff_outsOff s c) .none)

theorem Form.ownEntryExpired {s : State} (h : s.Form []) (c : Chan) (q : Seq) (a : Addr) :
    (s.ownEntryExpired c q a).Form [] := by
  unfold State.ownEntryExpired
  split
  · split
    iterate 3
      · next hst => exact h.abortStart (by rw [hst]; rfl) _ _ _
    · next hst => exact h.settleExpired hst a
    all_goals
      split
      · exact h.clearRelease c
      all_goals exact h
  · exact h

/-! ## Shedding, sense, INH, ageing -/

theorem Form.shedChannel {X : List Chan} {s : State} (h : s.Form X) (c : Chan) : (s.shedChannel c).Form X := by
  unfold State.shedChannel
  split
  · next hst =>
    have hshed := (h.outsOff c).enterLoose (c := c) (st := .shed) (by rw [outsOff_state, hst]; rfl) rfl
      (.inr (outsAreOff_outsOff s c))
    exact (hshed.setRelease c _).modChan c fun _ => rfl
  · exact h

theorem Form.foldl_shedChannel {X : List Chan} (l : List Chan) {s : State} (h : s.Form X) :
    (l.foldl (fun s c => s.shedChannel c) s).Form X := by
  induction l generalizing s with
  | nil => exact h
  | cons c cs ih => exact ih (h.shedChannel c)

theorem Form.senseLost {s : State} (h : s.Form []) {c : Chan} (hc : (s.chan c).state = .on) : (s.senseLost c).Form [] := by
  have hrel := (h.outsOff c).setRelease c (.stopped .senseLost)
  have hfault := hrel.enterLoose (c := c) (st := .faulted) (by rw [setRelease_state, outsOff_state, hc]; rfl) rfl
    (.inr (outsAreOff_setRelease (outsAreOff_outsOff s c) _))
  exact ((hfault.modChan c (f := fun k => { k with senseGrace := none }) fun _ => rfl).clearMark c).log _ _ _ _

theorem Form.withdrawIdleClaim {X : List Chan} {s : State} (h : s.Form X) (c : Chan) : (s.withdrawIdleClaim c).Form X := by
  unfold State.withdrawIdleClaim
  split
  · next hc => exact h.requeue (.inr hc.1)
  · exact h

theorem Form.foldl_withdrawIdleClaim {X : List Chan} (l : List Chan) {s : State} (h : s.Form X) :
    (l.foldl (fun s c => s.withdrawIdleClaim c) s).Form X := by
  induction l generalizing s with
  | nil => exact h
  | cons c cs ih => exact ih (h.withdrawIdleClaim c)

/-- INH is asserted, and the claims not on the bus are withdrawn (R55, R80). -/
def claimsWithdrawn (s : State) : State :=
  allChans.foldl (fun s c => s.withdrawIdleClaim c) { s with inh := { asserted := true, timer := none } }

theorem inhibit_eq (s : State) :
    s.inhibit =
      if s.claimsWithdrawn.startsInProgress.isEmpty then s.claimsWithdrawn
      else s.claimsWithdrawn.abortAll (some (.abandoned .inhibit)) := rfl

theorem Form.inhibit {s : State} (h : s.Form []) : s.inhibit.Form [] := by
  have hinh : ({ s with inh := { asserted := true, timer := none } } : State).Form [] := h.of_eq rfl rfl rfl
  have hw : s.claimsWithdrawn.Form [] := hinh.foldl_withdrawIdleClaim allChans
  rw [inhibit_eq]
  split
  · exact hw
  · exact hw.abortAll _

theorem Form.age {X : List Chan} {s : State} (h : s.Form X) (c : Chan) : (s.age c).Form X := by
  obtain ⟨-, hqueue, hengine, houts⟩ := h
  refine Form.notify (Form.reform ?_ hengine houts)
  obtain ⟨hsingle, hholds, hstamps, hbelow, hbound⟩ := hqueue
  have hch : (s.modEntry c fun e => { e with eff := e.eff - 1, patience := agingTimer (s.cfg c) (e.eff - 1) }).queue.entries.map
      (·.ch) = s.queue.entries.map (·.ch) := by
    simp only [modEntry, List.map_map]
    refine List.map_congr_left fun e _ => ?_
    simp only [Function.comp_apply]
    split <;> rfl
  have hst : (s.modEntry c fun e => { e with eff := e.eff - 1, patience := agingTimer (s.cfg c) (e.eff - 1) }).queue.entries.map
      (·.stamp) = s.queue.entries.map (·.stamp) := by
    simp only [modEntry, List.map_map]
    refine List.map_congr_left fun e _ => ?_
    simp only [Function.comp_apply]
    split <;> rfl
  refine ⟨by rw [hch]; exact hsingle, fun d => by rw [hch]; exact hholds d, by rw [hst]; exact hstamps, fun e he => ?_, hbound⟩
  have hmem : e.stamp ∈ s.queue.entries.map (·.stamp) := by
    rw [← hst]
    exact List.mem_map_of_mem he
  obtain ⟨e', he', heq⟩ := List.mem_map.mp hmem
  rw [← heq]
  exact hbelow e' he'

end State

end Sys2Proof.Machine
end

section
/-!
What the operations on channels and engine leave of the bus: all but the release void counts and the queue entry that a
SHED_CALL was built for.
-/

namespace Sys2Proof.Machine

open Sys2Proof

/-- The bus but for the release void counts and the queue entry a SHED_CALL was built for, which operations on channels
change (R39, R49, R78). -/
def Bus.core (b : Bus) : Bus :=
  { b with releaseVoids := Four.same 0, tx := b.tx.map fun t => { t with shedFor := none } }

/-- The frame in the transmit slot, and whether it is a withdrawn claim. -/
def Bus.sending (b : Bus) : Option (Frame × Bool) := b.tx.map fun t => (t.frame, t.withdrawn)

/-- What the core of a bus says of it. -/
theorem Bus.of_core {a b : Bus} (h : a.core = b.core) :
    a.lineBusy = b.lineBusy ∧ a.receiving = b.receiving ∧ a.free = b.free ∧ a.counters = b.counters
      ∧ a.unackRun = b.unackRun ∧ a.degraded = b.degraded ∧ a.sending = b.sending ∧ a.tx.isSome = b.tx.isSome := by
  have hsend (x : Bus) : x.sending = x.core.sending := by
    unfold Bus.sending Bus.core
    rw [Option.map_map]
    rfl
  have htx (x : Bus) : x.tx.isSome = x.core.tx.isSome := by simp [Bus.core]
  have hproj {α : Type} (f : Bus → α) : f a.core = f b.core := congrArg f h
  refine ⟨hproj Bus.lineBusy, hproj Bus.receiving, hproj Bus.free, hproj Bus.counters, hproj Bus.unackRun,
    hproj Bus.degraded, ?_, ?_⟩
  · rw [hsend a, hsend b, h]
  · rw [htx a, htx b, h]

/-- An empty transmit slot stays empty. -/
theorem Bus.tx_of_core {a b : Bus} (h : a.core = b.core) (hb : b.tx = none) : a.tx = none := by
  obtain ⟨-, -, -, -, -, -, -, htx⟩ := Bus.of_core h
  rw [hb] at htx
  simpa using htx

namespace State

@[simp] theorem setRelease_core (s : State) (c : Chan) (r : Release) : (s.setRelease c r).bus.core = s.bus.core := rfl

@[simp] theorem clearRelease_core (s : State) (c : Chan) : (s.clearRelease c).bus.core = s.bus.core := rfl

@[simp] theorem replaceSettled_core (s : State) (c : Chan) (r : Release) : (s.replaceSettled c r).bus.core = s.bus.core := rfl

@[simp] theorem settleEnded_core (s : State) (c : Chan) : (s.settleEnded c).bus.core = s.bus.core := by
  unfold settleEnded
  split <;> rfl

@[simp] theorem leave_core (s : State) (c : Chan) : (s.leave c).bus.core = s.bus.core := by
  unfold leave Bus.core
  dsimp only
  rw [Option.map_map]
  congr 2
  funext t
  simp only [Function.comp_apply]
  split <;> rfl

@[simp] theorem completeRecipe_core (s : State) (c : Chan) : (s.completeRecipe c).bus.core = s.bus.core := rfl

@[simp] theorem failRecipe_core (s : State) (c : Chan) (j : Nat) : (s.failRecipe c j).bus.core = s.bus.core := by
  simp [failRecipe, forgetRenewals]

@[simp] theorem ended_core (s : State) (c : Chan) (e : StepsEnd) : (s.ended c e).bus.core = s.bus.core := by
  cases e <;> simp [ended]

@[simp] theorem takeSteps_core (s : State) (c : Chan) (i : Nat) : (s.takeSteps c i).bus.core = s.bus.core := by
  rw [takeSteps_eq, ended_core]
  rfl

@[simp] theorem beginStart_core (s : State) (c : Chan) : (s.beginStart c).bus.core = s.bus.core := by
  rw [beginStart, takeSteps_core]
  rfl

@[simp] theorem restored_bus (s : State) (k : Context) : (restored s k).bus = s.bus := by
  unfold restored
  split <;> rfl

@[simp] theorem resume_core (s : State) (r : Context) : (s.resume r).bus.core = s.bus.core := by
  have hbus : ((restored s r).enter r.ch .starting).bus = s.bus := restored_bus s r
  rw [← hbus]
  have hcases := s.resume_cases r
  generalize s.resume r = t at hcases ⊢
  cases hcases with
  | waits => rfl
  | steps i => exact takeSteps_core _ _ _
  | fails => exact failRecipe_core _ _ _

@[simp] theorem freeLoop_core (n : Nat) (s : State) : (freeLoop n s).bus.core = s.bus.core := by
  induction n generalizing s with
  | zero => rfl
  | succ n ih =>
    unfold freeLoop
    repeat' split
    · rfl
    · rw [ih, beginStart_core]
    · rw [ih, resume_core]
    · rfl

@[simp] theorem freeEngine_core (s : State) : s.freeEngine.bus.core = s.bus.core := by
  unfold freeEngine
  split
  · rfl
  · exact freeLoop_core 5 s

@[simp] theorem suspend_bus (s : State) (c : Chan) (i : Nat) (l : Option Nat) : (s.suspend c i l).bus = s.bus := by
  rw [suspend_eq]
  dsimp only
  split <;> rfl

@[simp] theorem stepCompletes_core (s : State) (r : RunSlot) : (s.stepCompletes r).bus.core = s.bus.core := by
  unfold stepCompletes
  repeat' split
  all_goals simp

@[simp] theorem stepFails_core (s : State) (r : RunSlot) : (s.stepFails r).bus.core = s.bus.core := by simp [stepFails]

@[simp] theorem placeStart_core (s : State) (c : Chan) : (s.placeStart c).bus.core = s.bus.core := by
  unfold placeStart
  dsimp only
  repeat' split
  all_goals simp

@[simp] theorem removeStart_core (s : State) (c : Chan) : (s.removeStart c).bus.core = s.bus.core := by
  unfold removeStart
  dsimp only
  repeat' split
  all_goals simp

@[simp] theorem abortStart_core (s : State) (c : Chan) (r : Release) (k : FaultKind) (a : Option Addr) :
    (s.abortStart c r k a).bus.core = s.bus.core := by
  simp [abortStart]

@[simp] theorem inhibitStart_core (s : State) (c : Chan) : (s.inhibitStart c).bus.core = s.bus.core := by
  simp [inhibitStart]

@[simp] theorem abortChan_core (s : State) (rel : Option Release) (c : Chan) : (s.abortChan rel c).bus.core = s.bus.core := by
  unfold abortChan
  dsimp only
  repeat' split
  all_goals simp

@[simp] theorem foldl_abortChan_core (rel : Option Release) (l : List Chan) (s : State) :
    (l.foldl (fun s c => s.abortChan rel c) s).bus.core = s.bus.core := by
  induction l generalizing s with
  | nil => rfl
  | cons c cs ih => rw [List.foldl_cons, ih, abortChan_core]

@[simp] theorem abortAll_core (s : State) (rel : Option Release) : (s.abortAll rel).bus.core = s.bus.core := by
  simp [abortAll]

@[simp] theorem ownHoldOut_core (s : State) (c : Chan) (q : Seq) : (s.ownHoldOut c q).bus.core = s.bus.core := by
  unfold ownHoldOut
  split <;> simp

@[simp] theorem enterOn_core (s : State) (c : Chan) : (s.enterOn c).bus.core = s.bus.core := by
  unfold enterOn
  dsimp only
  split <;> simp

@[simp] theorem ownSettled_core (s : State) (c : Chan) : (s.ownSettled c).bus.core = s.bus.core := by
  unfold ownSettled
  repeat' split
  all_goals simp

@[simp] theorem settleExpired_core (s : State) (c : Chan) (a : Addr) : (s.settleExpired c a).bus.core = s.bus.core := by
  simp [settleExpired]

@[simp] theorem ownEntryExpired_core (s : State) (c : Chan) (q : Seq) (a : Addr) :
    (s.ownEntryExpired c q a).bus.core = s.bus.core := by
  unfold ownEntryExpired
  repeat' split
  all_goals simp

@[simp] theorem shedChannel_core (s : State) (c : Chan) : (s.shedChannel c).bus.core = s.bus.core := by
  unfold shedChannel
  dsimp only
  split <;> simp

@[simp] theorem foldl_shedChannel_core (l : List Chan) (s : State) :
    (l.foldl (fun s c => s.shedChannel c) s).bus.core = s.bus.core := by
  induction l generalizing s with
  | nil => rfl
  | cons c cs ih => rw [List.foldl_cons, ih, shedChannel_core]

@[simp] theorem ownShed_core (s : State) (l : List Nat) : (s.ownShed l).bus.core = s.bus.core := by
  unfold ownShed
  split <;> simp

@[simp] theorem senseLost_core (s : State) (c : Chan) : (s.senseLost c).bus.core = s.bus.core := by
  simp [senseLost]

@[simp] theorem startAdmitted_core (s : State) (c : Chan) (q : Seq) : (s.startAdmitted c q).bus.core = s.bus.core := by
  unfold startAdmitted
  dsimp only
  split <;> simp [writeSeq]

@[simp] theorem foldl_withdrawIdleClaim_bus (l : List Chan) (s : State) :
    (l.foldl (fun s c => s.withdrawIdleClaim c) s).bus = s.bus := by
  induction l generalizing s with
  | nil => rfl
  | cons c cs ih =>
    rw [List.foldl_cons, ih]
    unfold withdrawIdleClaim
    split <;> simp

@[simp] theorem claimsWithdrawn_bus (s : State) : s.claimsWithdrawn.bus = s.bus := foldl_withdrawIdleClaim_bus _ _

@[simp] theorem inhibit_core (s : State) : s.inhibit.bus.core = s.bus.core := by
  rw [inhibit_eq]
  split <;> simp

@[simp] theorem runOut_core (s : State) (a : Addr) (c : Chan) (q : Seq) : (s.runOut a c q).bus.core = s.bus.core := by
  unfold runOut
  split <;> simp

@[simp] theorem selfCleared_core (s : State) : s.selfCleared.bus.core = s.bus.core := by
  unfold selfCleared
  dsimp only
  split <;> simp

@[simp] theorem selfAbsent_core (s : State) (a : Addr) : (s.selfAbsent a).bus.core = s.bus.core := by
  rw [selfAbsent_eq]
  dsimp only
  split <;> simp

@[simp] theorem verdictTaken_core (s : State) (t : TxFrame) (p : ClaimPayload) (v : Judgement) :
    (s.verdictTaken t p v).bus.core = s.bus.core := by
  unfold verdictTaken
  repeat' split
  all_goals simp [writeSeq]

@[simp] theorem atOwner_core (s : State) (own : Option TxFrame) {f : State → State}
    (hf : ∀ u, (f u).bus.core = u.bus.core) : (s.atOwner own f).bus.core = s.bus.core := by
  cases own with
  | none => rfl
  | some t =>
    unfold atOwner
    dsimp only
    split
    · exact hf s
    · rfl

/-! ## An empty transmit slot -/

theorem tx_of_bus {s t : State} (h : t.bus = s.bus) (hs : s.bus.tx = none) : t.bus.tx = none := by rw [h, hs]

theorem tx_claimVerdict {s : State} (h : s.bus.tx = none) (t : TxFrame) (p : ClaimPayload) (v : Judgement) :
    (s.claimVerdict t p v).bus.tx = none := by
  have hcount : (s.verdictCounted v).bus.tx = none := by simp [h]
  rw [claimVerdict_eq]
  split
  · exact Bus.tx_of_core (verdictTaken_core _ _ _ _) hcount
  · exact hcount

theorem tx_recountStart {s : State} (h : s.bus.tx = none) (a : Addr) (p : RecountPayload) :
    (s.recountStart a p).bus.tx = none := by
  have hrun (u : State) (hu : u.bus.tx = none) : (u.holdRecounted a p).bus.tx = none := by
    unfold holdRecounted
    split
    · exact Bus.tx_of_core (runOut_core _ _ _ _) hu
    · exact hu
  rw [recountStart_eq]
  split
  · exact h
  · split
    · refine hrun _ ?_
      unfold recountReplaced
      split <;> exact h
    · split
      · exact hrun _ h
      · exact h

/-- The effects of an accepted frame leave the transmit slot empty. -/
theorem tx_frameBody {c : Instr} {rx : Rx} {f : Frame} {body : Option TxFrame → State → State}
    (hc : frameBody c = some (rx, f, body)) (own : Option TxFrame) {s : State} (h : s.bus.tx = none) :
    (body own s).bus.tx = none := by
  cases c with
  | claim rx p =>
    cases hc
    have htab : (s.claimTabled rx.sender p).bus.tx = none := by simp [h]
    rw [applyClaim_eq]
    cases own with
    | none => dsimp only; split <;> assumption
    | some t =>
      dsimp only
      split
      · split
        · exact tx_of_bus (by simp) h
        · exact h
      · exact tx_claimVerdict htab _ _ _
  | renew rx p =>
    cases hc
    rw [applyRenew_atOwner]
    exact Bus.tx_of_core (atOwner_core _ own fun u => by simp) h
  | settled rx p =>
    cases hc
    rw [applySettled_atOwner]
    exact Bus.tx_of_core (atOwner_core _ own fun u => by simp) (tx_of_bus (by simp) h)
  | abandoned rx p =>
    cases hc
    rw [applyAbandoned_atOwner]
    exact Bus.tx_of_core (atOwner_core _ own fun u => by simp) (tx_of_bus (by simp) h)
  | expire rx p =>
    cases hc
    rw [applyExpire_eq]
    have hd : (s.dropNamed p.owner p.ch p.seq).bus.tx = none := tx_of_bus (by simp) h
    split
    · exact Bus.tx_of_core (ownEntryExpired_core _ _ _ _) hd
    · exact hd
  | stopped rx p =>
    cases hc
    rw [applyStopped_atOwner]
    exact Bus.tx_of_core (atOwner_core _ own fun u => by simp) (tx_of_bus (by simp) h)
  | shedCall rx p =>
    cases hc
    rw [applyShedCall_eq]
    split
    · simp [h]
    · refine Bus.tx_of_core (b := s.bus) ?_ h
      simp [shedCalled, slotsMarked, markSlots]
  | hello rx p =>
    cases hc
    refine tx_of_bus ?_ h
    unfold applyHello
    dsimp only
    cases own <;> dsimp only <;> repeat' split
    all_goals simp
  | presence rx p =>
    cases hc
    refine tx_of_bus ?_ h
    unfold applyPresence
    cases own with
    | some => rfl
    | none =>
      dsimp only
      split <;> simp
  | syncReq rx a =>
    cases hc
    refine tx_of_bus ?_ h
    unfold applySyncReq
    dsimp only
    repeat' split
    all_goals simp
  | recount rx p =>
    cases hc
    have hcount : (s.recountCounted rx.sender p.ch own).bus.tx = none := tx_of_bus (by simp) h
    rw [applyRecount_eq]
    split
    · rcases recountDraw_cases (s.recountCounted rx.sender p.ch own) rx.sender p with heq | heq <;> rw [heq] <;> exact hcount
    · exact tx_recountStart hcount _ _
  | recountEnd rx n =>
    cases hc
    refine tx_of_bus ?_ h
    unfold applyRecountEnd
    cases own <;> simp
  | absent rx a =>
    cases hc
    unfold applyAbsent
    split
    · exact h
    · split
      · exact Bus.tx_of_core (selfAbsent_core _ _) h
      · exact tx_of_bus (by simp) h
  | inquire rx p =>
    cases hc
    unfold applyInquire
    dsimp only
    repeat' split
    all_goals exact h
  | answer => cases hc; cases own <;> exact h
  | toolFrameReject => cases hc; exact h
  | _ => cases hc

theorem tx_ownLost (s : State) (t : TxFrame) : (s.ownLost t).bus.tx = none := by
  have hc : ({ s.clearTx with bus.receiving := true } : State).bus.tx = none := rfl
  unfold ownLost
  dsimp only
  split
  · rfl
  · split
    · exact tx_of_bus (by simp) hc
    · exact Bus.tx_of_core (settleEnded_core _ _) hc
    all_goals rfl

theorem tx_loseArbitration (s : State) (t : TxFrame) : (s.loseArbitration t).bus.tx = none := tx_ownLost _ t

theorem tx_yieldsLine (s : State) : s.yieldsLine.bus.tx = none := by
  unfold yieldsLine
  split
  · exact tx_ownLost s _
  · next h => exact h

theorem tx_meetClash (s : State) : s.meetClash.bus.tx = none := by
  rw [meetClash_eq]
  dsimp only
  split
  · rfl
  · exact tx_yieldsLine s

theorem tx_listens {s u : State} (h : s.listens u) : u.bus.tx = none := by
  rcases h with ⟨htx, rfl⟩ | ⟨t, -, rfl⟩
  · exact htx
  · exact tx_loseArbitration s t

theorem tx_ownVoided (s : State) (t : TxFrame) : (s.ownVoided t).bus.tx = none := by
  unfold ownVoided
  dsimp only
  generalize hu : tally s.clearTx _ = u
  have htx : u.bus.tx = none := by rw [← hu]; rfl
  have hrel (c : Chan) : (u.releaseVoided c).bus.tx = none := htx
  cases t.frame with
  | claim | renew => dsimp only; split <;> exact tx_of_bus (by simp) htx
  | settled =>
    dsimp only
    split
    · exact Bus.tx_of_core (settleEnded_core _ _) (hrel _)
    · exact hrel _
  | abandoned | stopped => exact hrel _
  | _ => exact tx_of_bus (by simp) htx

theorem tx_foundIncomplete (s : State) : s.foundIncomplete.bus.tx = none := by
  have hy : s.yieldsLine.countObjection.bus.tx = none := tx_yieldsLine s
  rw [foundIncomplete_eq]
  split
  · exact tx_of_bus (by simp) hy
  · exact hy

theorem tx_otherVoided {s : State} (h : s.bus.tx = none) (raw : RawFrame) : (s.otherVoided raw).bus.tx = none := by
  unfold otherVoided
  split
  · exact tx_foundIncomplete s
  · split <;> exact h

/-- After an accepted frame in which a station takes part its transmit slot is empty. -/
theorem tx_receives {c : Instr} {s v : State} {rx : Rx} {f : Frame} {body : Option TxFrame → State → State}
    (hc : frameBody c = some (rx, f, body)) (hv : s.Receives rx f body v) : v = s ∧ s.takesPart = false ∨ v.bus.tx = none := by
  cases hv with
  | aside hpart => exact .inl ⟨rfl, hpart⟩
  | own t =>
    refine .inr (tx_frameBody hc _ ?_)
    rw [ownAccepted_tx]
    rfl
  | clash => exact .inr (tx_meetClash s)
  | ignored _ _ hu => exact .inr (tx_listens hu)
  | tool u _ hu => exact .inr (show u.bus.tx = none from tx_listens hu)
  | inquiry _ _ hu => exact .inr (tx_frameBody hc _ (tx_listens hu))
  | peer u _ hu => exact .inr (tx_frameBody hc _ (tx_of_bus (by simp) (tx_listens hu)))

end State

end Sys2Proof.Machine
end

section
/-!
Membership states: a station that has left LOADING does not come back to it but by a start, and one that operates goes on
unless it halts (R132, R133, R143, R144, R153).
-/

namespace Sys2Proof.Machine

open Sys2Proof

namespace State

/-- The membership state is the same, or one that a running station enters: SYNCING, IN_STEP, ISOLATED, HALTED. -/
def moves (s t : State) : Prop :=
  t.member.state = s.member.state ∨ t.member.state = .syncing ∨ t.member.state = .inStep ∨ t.member.state = .isolated
    ∨ t.member.state = .halted

theorem moves_of_state {s t : State} (h : t.member.state = s.member.state) : s.moves t := .inl h

theorem moves_of_eq {s t : State} (h : t.member = s.member) : s.moves t := .inl (by rw [h])

theorem moves.trans {s t u : State} (h : s.moves t) (k : t.moves u) : s.moves u := by
  rcases k with k | k
  · unfold moves
    rw [k]
    exact h
  · exact .inr k

theorem moves.not_loading {s t : State} (h : s.moves t) (hs : s.member.state ≠ .loading) : t.member.state ≠ .loading := by
  rcases h with h | h | h | h | h <;> rw [h]
  · exact hs
  all_goals decide

theorem setMState_state (s : State) (m : MState) : (s.setMState m).member.state = m := by simp [setMState]

theorem judgeIsolated_state (s : State) :
    s.judgeIsolated.member.state = s.member.state ∨ s.judgeIsolated.member.state = .isolated := by
  unfold judgeIsolated
  split
  · exact .inr (setMState_state s _)
  · exact .inl rfl

theorem moves_judgeIsolated (s : State) : s.moves s.judgeIsolated := by
  rcases judgeIsolated_state s with h | h
  · exact .inl h
  · exact .inr (.inr (.inr (.inl h)))

theorem enterInStep_state (s : State) :
    s.enterInStep.member.state = .inStep ∨ s.enterInStep.member.state = .isolated := by
  rw [enterInStep_eq]
  rcases judgeIsolated_state s.steppedIn.judgeSampling.markAbsentees with h | h
  · refine .inl (h.trans ?_)
    have hmark : s.steppedIn.judgeSampling.markAbsentees.member.state = s.steppedIn.judgeSampling.member.state := rfl
    rw [hmark, (judgeSampling_keeps _).2.2.2.2.2.2.2.2.2.1]
    exact setMState_state s _
  · exact .inr h

theorem moves_enterInStep (s u : State) : s.moves u.enterInStep := by
  rcases enterInStep_state u with h | h
  · exact .inr (.inr (.inl h))
  · exact .inr (.inr (.inr (.inl h)))

theorem enterSyncing_state (s : State) (r : OwnRequest) : (s.enterSyncing r).member.state = .syncing := by
  rw [enterSyncing_eq]
  have hmark (u : State) : u.markAbsentees.member.state = u.member.state := rfl
  have hset : (s.syncEntered r).member.state = (s.setMState .syncing).member.state := rfl
  rw [hmark, hset, setMState_state]

theorem moves_enterSyncing (s u : State) (r : OwnRequest) : s.moves (u.enterSyncing r) :=
  .inr (.inl (enterSyncing_state u r))

theorem moves_judgeExit (s : State) : s.moves s.judgeExit := by
  unfold judgeExit
  split
  · exact moves_enterInStep s s
  · exact .inl rfl

theorem judgeDiscord_state (s : State) (a : Addr) : (s.judgeDiscord a).member.state = s.member.state := by
  unfold judgeDiscord
  dsimp only
  repeat' split
  all_goals simp

theorem modPeer_state (s : State) (a : Addr) (f : RosterSlot → RosterSlot) :
    (s.modPeer a f).member.state = s.member.state := rfl

theorem dropOwner_state (s : State) (a : Addr) (b : Bool) : (s.dropOwner a b).member.state = s.member.state := by simp

theorem peerJoins_state (s : State) (a : Addr) (b : Bool) : (s.peerJoins a b).member.state = s.member.state := by
  unfold peerJoins
  rw [judgeDiscord_state]
  rfl

theorem moves_hearPeer (s : State) (a : Addr) (b : Bool) : s.moves (s.hearPeer a b) := by
  rw [hearPeer_eq]
  dsimp only
  split
  · split
    · exact moves_enterSyncing _ _ _
    · exact .inl rfl
  · split
    · exact moves_enterSyncing _ _ _
    · exact .inl (peerJoins_state _ _ _)

theorem moves_ownAccepted (s : State) (b : Bool) : s.moves (s.ownAccepted b) := by
  unfold ownAccepted
  dsimp only
  split
  · exact .inl rfl
  · have h := moves_judgeIsolated
      (({ s.tally (fun k => { k with sent := satSucc 65535 k.sent }) with
          bus.degraded := false, bus.unackRun := satSucc 255 s.bus.unackRun,
          member.presenceTimer := some s.presenceMs, member.presenceDue := false } : State).tally
        fun k => { k with unacked := satSucc 65535 k.unacked })
    exact h

theorem moves_peerAbsent (s : State) (a : Addr) : s.moves (s.peerAbsent a) := by
  unfold peerAbsent
  split
  · exact .inl rfl
  · dsimp only
    have h : s.moves ((((s.dropOwner a false).modPeer a absentSlot).judgeDiscord a)) :=
      .inl (by rw [judgeDiscord_state, modPeer_state, dropOwner_state])
    have hexit := h.trans (moves_judgeExit _)
    split
    · exact hexit
    · exact hexit

theorem moves_selfAbsent (s : State) (a : Addr) : s.moves (s.selfAbsent a) := by
  have hclear : s.selfCleared.member = s.member := by
    unfold selfCleared
    dsimp only
    split <;> simp
  rw [selfAbsent_eq]
  dsimp only
  split
  · exact moves_enterSyncing _ _ _
  · exact moves_of_eq hclear

theorem moves_frameBody {c : Instr} {rx : Rx} {f : Frame} {body : Option TxFrame → State → State}
    (hc : frameBody c = some (rx, f, body)) (own : Option TxFrame) (s : State) : s.moves (body own s) := by
  cases c with
  | hello rx p =>
    cases hc
    unfold applyHello
    dsimp only
    cases own with
    | some => exact .inl (dropOwner_state s _ _)
    | none =>
      dsimp only
      refine moves.trans (t := if ((s.dropOwner rx.sender false).peer rx.sender).state = .present then _ else _) ?_
        (moves_judgeExit _)
      refine .inl ?_
      split <;> simp [judgeDiscord_state]
  | presence rx p =>
    cases hc
    unfold applyPresence
    cases own with
    | some => exact .inl rfl
    | none =>
      dsimp only
      refine .inl ?_
      split
      · rw [modPeer_state, judgeDiscord_state, modPeer_state]
      · rw [judgeDiscord_state, modPeer_state]
  | syncReq rx a =>
    cases hc
    unfold applySyncReq
    dsimp only
    split
    · exact .inl rfl
    · refine moves.trans (t := if (own.isSome && _) = true then _ else _) (.inl ?_) (moves_judgeExit _)
      repeat' split
      all_goals simp
  | recountEnd rx n =>
    cases hc
    unfold applyRecountEnd
    refine moves.trans ?_ (moves_judgeExit _)
    cases own <;> exact .inl (by simp)
  | absent rx a =>
    cases hc
    unfold applyAbsent
    repeat' split
    · exact .inl rfl
    · exact moves_selfAbsent s _
    · exact moves_peerAbsent s _
  | claim rx p =>
    cases hc
    refine moves_of_eq ?_
    rw [applyClaim_eq]
    cases own <;> dsimp only <;> repeat' split
    all_goals simp
  | renew rx p => cases hc; rw [applyRenew_eq]; refine moves_of_eq ?_; split <;> simp
  | settled rx p =>
    cases hc
    rw [applySettled_atOwner]
    unfold atOwner
    refine moves_of_eq ?_
    repeat' split
    all_goals simp
  | abandoned rx p =>
    cases hc
    rw [applyAbandoned_atOwner]
    unfold atOwner
    refine moves_of_eq ?_
    repeat' split
    all_goals simp
  | expire rx p =>
    cases hc
    rw [applyExpire_eq]
    refine moves_of_eq ?_
    split <;> simp
  | stopped rx p =>
    cases hc
    rw [applyStopped_atOwner]
    unfold atOwner
    refine moves_of_eq ?_
    repeat' split
    all_goals simp
  | shedCall rx p =>
    cases hc
    rw [applyShedCall_eq]
    refine moves_of_eq ?_
    split <;> simp [shedCalled, slotsMarked, markSlots]
  | recount rx p =>
    cases hc
    rw [applyRecount_eq]
    refine moves_of_state ?_
    split
    · rcases recountDraw_cases (s.recountCounted rx.sender p.ch own) rx.sender p with heq | heq <;> rw [heq] <;> simp
    · simp
  | inquire rx p =>
    cases hc
    unfold applyInquire
    refine moves_of_eq ?_
    dsimp only
    repeat' split
    all_goals rfl
  | answer => cases hc; cases own <;> exact .inl rfl
  | toolFrameReject => cases hc; exact .inl rfl
  | _ => cases hc

theorem moves_meetClash (s : State) : s.moves s.meetClash := by
  rw [meetClash_eq]
  dsimp only
  split
  · exact .inr (.inr (.inr (.inr rfl)))
  · exact .inl (by simp)

theorem moves_foundIncomplete (s : State) : s.moves s.foundIncomplete := by
  rw [foundIncomplete_eq]
  split
  · exact moves_enterSyncing _ _ _
  · exact .inl (by simp)

theorem moves_otherVoided (s : State) (raw : RawFrame) : s.moves (s.otherVoided raw) := by
  unfold otherVoided
  split
  · exact moves_foundIncomplete s
  · split <;> exact .inl (by simp)

theorem listens_member {s u : State} (h : s.listens u) : u.member = s.member := by
  rcases h with ⟨-, rfl⟩ | ⟨t, -, rfl⟩
  · rfl
  · simp

theorem moves_receives {c : Instr} {s v : State} {rx : Rx} {f : Frame} {body : Option TxFrame → State → State}
    (hc : frameBody c = some (rx, f, body)) (hv : s.Receives rx f body v) : s.moves v := by
  cases hv with
  | aside => exact .inl rfl
  | own t =>
    have hown : s.moves (s.clearTx.ownAccepted rx.acked) := moves_ownAccepted s.clearTx rx.acked
    exact hown.trans (moves_frameBody hc _ _)
  | clash => exact moves_meetClash s
  | ignored _ _ hu => exact moves_of_eq (listens_member hu)
  | tool u _ hu => exact moves.trans (moves_of_eq (listens_member hu)) (.inl rfl)
  | inquiry u _ hu => exact (moves_of_eq (listens_member hu)).trans (moves_frameBody hc _ _)
  | peer u _ hu =>
    have hheard := (moves_of_eq (listens_member hu)).trans (moves_hearPeer u rx.sender (isHello f))
    exact hheard.trans (moves_frameBody hc _ _)

theorem syncReqVoided_state (s : State) (a : Addr) : (s.syncReqVoided a).member.state = s.member.state := by
  unfold syncReqVoided
  repeat' split
  all_goals rfl

theorem helloVoided_state (s : State) : s.helloVoided.member.state = s.member.state := by
  unfold helloVoided
  dsimp only
  split <;> rfl

theorem ownVoided_state (s : State) (t : TxFrame) : (s.ownVoided t).member.state = s.member.state := by
  unfold ownVoided
  dsimp only
  generalize hu : tally s.clearTx _ = u
  have hm : u.member = s.member := by rw [← hu]; rfl
  rw [← hm]
  cases t.frame with
  | claim | renew | settled => dsimp only; split <;> simp
  | syncReq a => exact syncReqVoided_state u a
  | hello => exact helloVoided_state u
  | _ => simp

theorem moves_windowEnds (s : State) : s.moves s.windowEnds := by
  unfold windowEnds
  split
  · exact moves_enterSyncing _ _ _
  · exact moves_enterInStep _ _

theorem moves_syncEnds (s : State) : s.moves s.syncEnds := by
  unfold syncEnds
  split
  · exact moves_enterInStep _ _
  · exact moves_enterInStep _ _

/-- The end of loading in LISTEN. -/
theorem endLoading_state (s : State) (bytes : List Byte) : (s.endLoading bytes).member.state = .listen := by
  rw [endLoading_eq]
  simp [enterListen]

theorem failAttempt_state (s : State) :
    s.failAttempt.member.state = s.member.state ∨ s.failAttempt.member.state = .halted := by
  unfold failAttempt
  dsimp only
  split
  · exact .inr rfl
  · exact .inl rfl

theorem moves_failAttempt (s : State) : s.moves s.failAttempt := by
  rcases failAttempt_state s with h | h
  · exact .inl h
  · exact .inr (.inr (.inr (.inr h)))

theorem moves_driveFail (s : State) (ops : List LinkOp) : s.moves (s.drive ops).failAttempt := moves_failAttempt (s.drive ops)

theorem moves_readHeader (s : State) (n : Fin 10) (a b : Byte) : s.moves (s.readHeader n a b) := by
  unfold readHeader
  dsimp only
  split
  · exact .inl rfl
  · exact moves_failAttempt ((s.drive _).drive _)

/-- A station that has left LOADING stays out of it. -/
theorem not_loading_of_acts {s u : State} {c : Instr} (ha : s.Acts c u) (hs : s.member.state ≠ .loading) :
    u.member.state ≠ .loading := by
  have hno : ¬s.loading = true := fun hl => by
    simp only [loading, Bool.and_eq_true, decide_eq_true_eq] at hl
    exact hs hl.2
  refine moves.not_loading ?_ hs
  cases ha with
  | frame hc hv =>
    have hv' := moves_receives hc hv
    exact hv'
  | voidedOwn raw t => exact .inl (ownVoided_state s t)
  | voidedOther raw => exact moves_otherVoided s raw
  | addressClash => exact moves_meetClash s
  | incomplete => exact moves_foundIncomplete s
  | windowOut => exact moves_windowEnds s
  | syncOut => exact moves_syncEnds s
  | headerRead _ _ _ hl | readComplete _ hl | attemptFails _ _ hl | clockStretch _ _ _ _ hl | retryElapsed hl =>
    exact absurd hl hno
  | voidedAside | incompleteAside | busFree | inhLevel | inhReleased | presenceOut | sampleOut | absenceReached | requestOut =>
    exact .inl rfl
  | reqLevel c b => exact moves_of_eq (s := s.reqTaken c b) (by simp)
  | senseLevel c b => exact moves_of_eq (s := s.senseTaken c b) (by simp)
  | _ => exact moves_of_eq (by simp)

theorem moves.applies {s t : State} (h : s.moves t) (hs : s.member.state.applies = true) :
    t.member.state.applies = true ∨ t.member.state = .halted := by
  rcases h with h | h | h | h | h <;> rw [h]
  · exact .inl hs
  · exact .inl rfl
  · exact .inl rfl
  · exact .inl rfl
  · exact .inr rfl

end State

end Sys2Proof.Machine
end

section
/-!
Every step keeps the laws of channels, queue, engine, outputs and transmit slot.
-/

namespace Sys2Proof.Machine

open Sys2Proof

namespace State

/-! ## The PENDING slot -/

theorem waiting_freeLoop (n : Nat) {s : State} (h : s.engine.waiting = none) : (freeLoop n s).engine.waiting = none := by
  induction n generalizing s with
  | zero => exact h
  | succ n ih =>
    unfold freeLoop
    split
    · exact h
    · split
      · next c hc =>
        rw [h] at hc
        cases hc
      · split
        · next r rest hr => exact ih (((resume_engine _ r).1).trans h)
        · exact h

theorem waiting_freeEngine {s : State} (h : s.engine.waiting = none) : s.freeEngine.engine.waiting = none := by
  unfold freeEngine
  split
  · exact h
  · exact waiting_freeLoop 5 h

theorem waiting_takeSteps {s : State} (h : s.engine.waiting = none) (c : Chan) (i : Nat) :
    (s.takeSteps c i).engine.waiting = none := (takeSteps_engine s c i).2.1.trans h

theorem waiting_suspend {s : State} (h : s.engine.waiting = none) (c : Chan) (i : Nat) (l : Option Nat) :
    (s.suspend c i l).engine.waiting = none := by
  rw [suspend_engine]
  exact h

theorem waiting_stepCompletes {s : State} (h : s.engine.waiting = none) (r : RunSlot) :
    (s.stepCompletes r).engine.waiting = none := by
  unfold stepCompletes
  repeat' split
  · exact waiting_freeEngine (waiting_suspend h _ _ _)
  · exact waiting_freeEngine (waiting_takeSteps h _ _)
  · refine waiting_freeEngine ?_
    rw [completeRecipe_engine]
    exact h

theorem waiting_stepFails {s : State} (h : s.engine.waiting = none) (r : RunSlot) :
    (s.stepFails r).engine.waiting = none := by
  refine waiting_freeEngine ?_
  rw [failRecipe_engine]
  exact h

theorem waiting_removeStart {s : State} (h : s.engine.waiting = none) (c : Chan) :
    (s.removeStart c).engine.waiting = none := by
  unfold removeStart
  dsimp only
  repeat' split
  · rfl
  · exact waiting_freeEngine h
  · exact h
  · exact h
  · exact h

theorem waiting_abortStart {s : State} (h : s.engine.waiting = none) (c : Chan) (r : Release) (k : FaultKind)
    (a : Option Addr) : (s.abortStart c r k a).engine.waiting = none := by
  have hr : ((s.outsOff c).removeStart c).engine.waiting = none := waiting_removeStart (s := s.outsOff c) h c
  simpa [abortStart] using hr

theorem waiting_abortAll (s : State) (rel : Option Release) : (s.abortAll rel).engine.waiting = none := by
  rw [abortAll_eq]
  simp [engineEmptied]

/-! ## Channels outside the engine -/

theorem not_tracked_iff (s : State) (d : Chan) :
    s.tracked d = false ↔
      s.engine.running.map (·.ch) ≠ some d ∧ s.engine.waiting ≠ some d ∧ d ∉ s.engine.stack.map (·.ch) := by
  rw [← Bool.not_eq_true, tracked_iff, not_or, not_or]

theorem chan_freeEngine_other {s : State} {d : Chan} (hw : s.engine.waiting ≠ some d)
    (hs : d ∉ s.engine.stack.map (·.ch)) : s.freeEngine.chan d = s.chan d := by
  unfold freeEngine
  split
  · rfl
  · exact chan_freeLoop_other 5 s hw hs

theorem chan_stepCompletes_other {s : State} {d : Chan} {r : RunSlot} (hr : s.engine.running = some r)
    (hd : s.tracked d = false) : (s.stepCompletes r).chan d = s.chan d := by
  obtain ⟨hrun, hw, hs⟩ := (not_tracked_iff s d).mp hd
  have hne : d ≠ r.ch := fun heq => hrun (by rw [hr, heq]; rfl)
  unfold stepCompletes
  repeat' split
  · have heng := suspend_engine s r.ch (r.step + 1) none
    rw [chan_freeEngine_other, chan_suspend, if_neg hne]
    · rw [heng]; exact hw
    · rw [heng, List.map_cons, List.mem_cons, not_or]
      exact ⟨hne, hs⟩
  · obtain ⟨-, hwait, hstack, -⟩ := takeSteps_engine s r.ch (r.step + 1)
    rw [chan_freeEngine_other (by rw [hwait]; exact hw) (by rw [hstack]; exact hs), chan_takeSteps_other _ _ hne]
  · rw [chan_freeEngine_other, chan_completeRecipe, if_neg hne]
    · rw [completeRecipe_engine]; exact hw
    · rw [completeRecipe_engine]; exact hs

theorem chan_stepFails_other {s : State} {d : Chan} {r : RunSlot} (hr : s.engine.running = some r)
    (hd : s.tracked d = false) : (s.stepFails r).chan d = s.chan d := by
  obtain ⟨hrun, hw, hs⟩ := (not_tracked_iff s d).mp hd
  have hne : d ≠ r.ch := fun heq => hrun (by rw [hr, heq]; rfl)
  unfold stepFails
  rw [chan_freeEngine_other, chan_failRecipe, if_neg hne]
  · rw [failRecipe_engine]; exact hw
  · rw [failRecipe_engine]; exact hs

theorem chan_removeStart_other {s : State} {c d : Chan} (hd : s.tracked d = false) :
    (s.removeStart c).chan d = s.chan d := by
  obtain ⟨-, hw, hs⟩ := (not_tracked_iff s d).mp hd
  unfold removeStart
  dsimp only
  repeat' split
  · rfl
  · exact chan_freeEngine_other (s := (s.renewalsCleared c).idled) hw hs
  · rfl
  · rfl
  · rfl

theorem chan_abortStart_other {s : State} {c d : Chan} (hd : s.tracked d = false) (hne : d ≠ c) (r : Release)
    (k : FaultKind) (a : Option Addr) : (s.abortStart c r k a).chan d = s.chan d := by
  have hlog (u : State) (i : Option Nat) : (u.log k (some c) i a).chan d = u.chan d := rfl
  unfold abortStart
  dsimp only
  rw [chan_join, if_neg hne, hlog, chan_setRelease, if_neg hne,
    chan_removeStart_other (s := s.outsOff c) hd, chan_outsOff, if_neg hne]

theorem chan_joinAll_other (l : List Chan) {s : State} {d : Chan} (hd : d ∉ l) : (s.joinAll l).chan d = s.chan d := by
  induction l generalizing s with
  | nil => rfl
  | cons c cs ih =>
    rw [List.mem_cons, not_or] at hd
    unfold joinAll
    rw [ih hd.2, chan_join, if_neg hd.1]

theorem chan_abortAll_other {s : State} {d : Chan} (hd : (s.chan d).state.inEngine = false) (rel : Option Release) :
    (s.abortAll rel).chan d = s.chan d := by
  have hcut : ((s.allCut rel).engineEmptied s.startsInProgress).chan d = s.chan d := by
    have h := chan_allCut s rel d
    rw [cutChannel, hd] at h
    exact h
  rw [abortAll_eq]
  have hnote (u : State) : u.notify.chan d = u.chan d := rfl
  rw [hnote, chan_joinAll_other _ fun hm => ?_, hcut]
  rw [mem_startsInProgress, hd] at hm
  cases hm

/-! ## A CLAIM on the bus -/

theorem claimHeld_iff (s : State) :
    s.claimHeld ↔ ∀ p, s.bus.sending = some (.claim p, false) → (s.chan p.ch).state = .claiming ∧ s.engine.waiting = none := by
  constructor
  · intro h p hp
    obtain ⟨t, ht, hf⟩ := Option.map_eq_some_iff.mp hp
    rw [Prod.mk.injEq] at hf
    exact h t p ht hf.1 hf.2
  · intro h t p ht hf hw
    refine h p ?_
    rw [Bus.sending, ht, Option.map_some, hf, hw]

theorem claimOnBus_of_sending {s : State} {p : ClaimPayload} {b : Bool} (h : s.bus.sending = some (.claim p, b)) :
    s.claimOnBus p.ch = true := by
  obtain ⟨t, ht, hf⟩ := Option.map_eq_some_iff.mp h
  rw [Prod.mk.injEq] at hf
  exact (claimOnBus_iff s p.ch).mpr ⟨t, p, ht, hf.1, rfl⟩

/-- What keeps the law of a CLAIM on the bus. -/
structure keepsClaim (s u : State) : Prop where
  sent : u.bus.sending = s.bus.sending
  waiting : s.engine.waiting = none → u.engine.waiting = none
  claiming : ∀ d, s.claimOnBus d = true → (s.chan d).state = .claiming → (u.chan d).state = .claiming

theorem keepsClaim.held {s u : State} (k : s.keepsClaim u) (h : s.claimHeld) : u.claimHeld := by
  rw [claimHeld_iff] at h ⊢
  intro p hp
  rw [k.sent] at hp
  obtain ⟨hst, hw⟩ := h p hp
  exact ⟨k.claiming p.ch (claimOnBus_of_sending hp) hst, k.waiting hw⟩

theorem keepsClaim_of_core {s u : State} (hb : u.bus.core = s.bus.core)
    (hw : s.engine.waiting = none → u.engine.waiting = none)
    (hc : ∀ d, s.claimOnBus d = true → (s.chan d).state = .claiming → (u.chan d).state = .claiming) : s.keepsClaim u := by
  obtain ⟨-, -, -, -, -, -, hsent, -⟩ := Bus.of_core hb
  exact ⟨hsent, hw, hc⟩

theorem keepsClaim_of_eq {s u : State} (hb : u.bus = s.bus) (he : u.engine = s.engine) (hc : u.channels = s.channels) :
    s.keepsClaim u :=
  keepsClaim_of_core (by rw [hb]) (by rw [he]; exact id) fun d _ hd => by rw [chan_of_channels hc]; exact hd

theorem Form.not_tracked {s : State} (h : s.Form []) {d : Chan} (hd : (s.chan d).state = .claiming) : s.tracked d = false := by
  rw [← Bool.not_eq_true, h.tracked_iff, hd]
  decide

theorem Form.keepsClaim_ownHoldOut {s : State} (h : s.Form []) (c : Chan) (q : Seq) : s.keepsClaim (s.ownHoldOut c q) := by
  unfold State.ownHoldOut
  split
  · next hc =>
    simp only [Bool.and_eq_true] at hc
    refine keepsClaim_of_core (by simp) (fun hw => waiting_abortStart hw _ _ _ _) fun d _ hd => ?_
    have hfree := h.not_tracked hd
    have hne : d ≠ c := fun heq => by simp [heq, hc.1.2] at hfree
    rw [chan_abortStart_other hfree hne]
    exact hd
  · exact keepsClaim_of_eq rfl rfl rfl

theorem chan_latchOff_other {s : State} {c d : Chan} (hd : d ≠ c) : (s.latchOff c).chan d = s.chan d := by
  rw [latchOff, chan_clearMark, if_neg hd, chan_modChan, if_neg hd]

theorem latchOff_state (s : State) (c d : Chan) : ((s.latchOff c).chan d).state = (s.chan d).state := by
  by_cases hd : d = c
  · subst hd
    rw [latchOff, chan_clearMark, if_pos rfl, chan_modChan, if_pos rfl]
  · rw [chan_latchOff_other hd]

@[simp] theorem latchOff_keeps (s : State) (c : Chan) :
    (s.latchOff c).bus = s.bus ∧ (s.latchOff c).engine = s.engine ∧ (s.latchOff c).starts = s.starts
      ∧ (s.latchOff c).draws = s.draws ∧ (s.latchOff c).member = s.member ∧ (s.latchOff c).faults = s.faults
      ∧ (s.latchOff c).power = s.power ∧ (s.latchOff c).pins = s.pins ∧ (s.latchOff c).loader = s.loader := by
  simp [latchOff]

theorem claimTakenBack_of_idle {s : State} {c : Chan} (h : s.claimOnBus c = false) : s.claimTakenBack c = s := by
  simp [claimTakenBack, h]

/-- Demand off at a channel whose CLAIM is not on the bus leaves the bus but for releases. -/
theorem demandOff_core {s : State} {c : Chan} (h : (s.chan c).state = .claiming → s.claimOnBus c = false) :
    (s.demandOff c).bus.core = s.bus.core := by
  have hbus : (s.latchOff c).bus = s.bus := (latchOff_keeps s c).1
  have hon : (s.latchOff c).claimOnBus c = s.claimOnBus c := claimOnBus_of_tx (by rw [hbus]) c
  have hst := latchOff_state s c c
  rw [demandOff_eq, ← hbus]
  rw [← hst, ← hon] at h
  generalize s.latchOff c = u at h ⊢
  split
  case h_2 hcl =>
    rw [claimTakenBack_of_idle (h hcl)]
    simp
  case h_6 =>
    split <;> simp
  all_goals simp

/-- Demand off leaves the other channels outside the engine. -/
theorem chan_demandOff_other {s : State} {c d : Chan} (hne : d ≠ c) (hd : s.tracked d = false) :
    (s.demandOff c).chan d = s.chan d := by
  have hu : (s.latchOff c).chan d = s.chan d := chan_latchOff_other hne
  have ht : (s.latchOff c).tracked d = false := by
    have heng : (s.latchOff c).engine = s.engine := (latchOff_keeps s c).2.1
    rw [← hd, tracked, heng]
    rfl
  rw [demandOff_eq, ← hu]
  generalize s.latchOff c = u at ht ⊢
  have hoff : (u.outsOff c).chan d = u.chan d := by rw [chan_outsOff, if_neg hne]
  have hidle : ((u.outsOff c).enter c .idle).chan d = u.chan d := by rw [chan_enter, if_neg hne, hoff]
  split
  · rw [chan_enter, if_neg hne, chan_leave]
  · rw [chan_enter, if_neg hne, chan_leave, chan_claimTakenBack]
  iterate 3
    · rw [chan_enter, if_neg hne, chan_setRelease, if_neg hne, chan_removeStart_other (s := u.outsOff c) ht, hoff]
  · split
    · rw [chan_modChan, if_neg hne, hidle]
    · rw [chan_replaceSettled, if_neg hne, hidle]
  · rw [chan_modChan, if_neg hne, chan_enter, if_neg hne, chan_setRelease, if_neg hne, hoff]
  · rw [chan_modChan, if_neg hne, chan_enter, if_neg hne]
  · rw [chan_enter, if_neg hne]
  · rfl
  · rfl

theorem waiting_demandOff {s : State} (h : s.engine.waiting = none) (c : Chan) :
    (s.demandOff c).engine.waiting = none := by
  have hu : (s.latchOff c).engine.waiting = none := by rw [(latchOff_keeps s c).2.1, h]
  have hback (u : State) : (u.claimTakenBack c).engine = u.engine := by
    unfold claimTakenBack
    split <;> rfl
  rw [demandOff_eq]
  generalize s.latchOff c = u at hu ⊢
  have hcut : ((u.outsOff c).removeStart c).engine.waiting = none := waiting_removeStart (s := u.outsOff c) hu c
  split
  case h_2 =>
    simp only [enter_keeps, leave_keeps, hback]
    exact hu
  case h_6 => split <;> simpa using hu
  case h_3 | h_4 | h_5 => simpa using hcut
  all_goals simpa using hu

/-- The CLAIM that demand off takes back is a withdrawn claim. -/
theorem sending_claimTakenBack {s : State} {c : Chan} (h : s.claimOnBus c = true) (p : ClaimPayload) :
    (s.claimTakenBack c).bus.sending ≠ some (.claim p, false) := by
  unfold claimTakenBack
  rw [if_pos h]
  unfold Bus.sending
  rw [Option.map_map]
  intro hp
  obtain ⟨t, -, ht⟩ := Option.map_eq_some_iff.mp hp
  simp at ht

theorem claimHeld_demandOff {s : State} (hform : s.Form []) (h : s.claimHeld) (c : Chan) : (s.demandOff c).claimHeld := by
  by_cases hc : (s.chan c).state = .claiming ∧ s.claimOnBus c = true
  · have hon : (s.latchOff c).claimOnBus c = true := by
      rw [claimOnBus_of_tx (s := s) (by rw [(latchOff_keeps s c).1])]
      exact hc.2
    have hst : ((s.latchOff c).chan c).state = .claiming := by rw [latchOff_state]; exact hc.1
    rw [claimHeld_iff]
    intro p hp
    rw [demandOff_eq, hst] at hp
    have hcore : ((((s.latchOff c).claimTakenBack c).leave c).enter c .idle).bus.core
        = ((s.latchOff c).claimTakenBack c).bus.core := by simp
    obtain ⟨-, -, -, -, -, -, hsent, -⟩ := Bus.of_core hcore
    exact absurd (hsent.symm.trans hp) (sending_claimTakenBack hon p)
  · refine (keepsClaim_of_core (demandOff_core fun hcl => ?_) (fun hw => waiting_demandOff hw c) fun d hon hd => ?_).held h
    · exact Bool.eq_false_iff.mpr fun hon => hc ⟨hcl, hon⟩
    · have hne : d ≠ c := fun heq => hc ⟨heq ▸ hd, heq ▸ hon⟩
      rw [chan_demandOff_other hne (hform.not_tracked hd)]
      exact hd

theorem keepsClaim_demandOn (s : State) (c : Chan) : s.keepsClaim (s.demandOn c) := by
  refine keepsClaim_of_core (by simp) (by simp) fun d _ hd => ?_
  unfold demandOn
  dsimp only
  have hmod : ((s.modChan c fun k => { k with latch := true }).chan d).state = (s.chan d).state := by
    rw [chan_modChan]
    split
    · next hdc => rw [hdc]
    · rfl
  split
  · next hc =>
    have hne : d ≠ c := by
      rintro rfl
      rw [hmod, hd] at hc
      exact absurd hc.1 (by decide)
    rw [chan_join, if_neg hne, hmod, hd]
  · rw [hmod, hd]

theorem keepsClaim_modChan (s : State) (c : Chan) {f : Channel → Channel} (hf : ∀ k, (f k).state = k.state) :
    s.keepsClaim (s.modChan c f) := by
  refine keepsClaim_of_core rfl id fun d _ hd => ?_
  rw [chan_modChan]
  split
  · next hdc => rw [hf, ← hdc, hd]
  · exact hd

theorem claimHeld_debounced {s : State} (hform : s.Form []) (h : s.claimHeld) (c : Chan) : (s.debounced c).claimHeld := by
  let u := s.modChan c fun k => { k with debounceTimer := none, debounced := s.pins.req.get c }
  have hu : u.Form [] := hform.modChan c fun _ => rfl
  have hheld : u.claimHeld := 
    (keepsClaim_modChan s c (f := fun k => { k with debounceTimer := none, debounced := s.pins.req.get c })
      fun _ => rfl).held h
  unfold debounced
  dsimp only
  split
  · exact hheld
  · rw [writeLatch_eq]
    split
    · exact hheld
    · split
      · exact (keepsClaim_demandOn _ _).held hheld
      · exact claimHeld_demandOff hu hheld c

theorem keepsClaim.trans {s t u : State} (h : s.keepsClaim t) (k : t.keepsClaim u) : s.keepsClaim u := by
  have hon (d : Chan) (hd : s.claimOnBus d = true) : t.claimOnBus d = true := by
    obtain ⟨x, p, hx, hf, rfl⟩ := (claimOnBus_iff s d).mp hd
    have hsent : t.bus.sending = some (.claim p, x.withdrawn) := by
      rw [h.sent, Bus.sending, hx, Option.map_some, hf]
    exact claimOnBus_of_sending hsent
  exact ⟨k.sent.trans h.sent, fun hw => k.waiting (h.waiting hw), fun d hd hc => k.claiming d (hon d hd) (h.claiming d hd hc)⟩

theorem Form.keepsClaim_stepCompletes {s : State} (h : s.Form []) {r : RunSlot} (hr : s.engine.running = some r) :
    s.keepsClaim (s.stepCompletes r) := by
  refine keepsClaim_of_core (by simp) (fun hw => waiting_stepCompletes hw r) fun d _ hd => ?_
  rw [chan_stepCompletes_other hr (h.not_tracked hd)]
  exact hd

theorem Form.keepsClaim_stepFails {s : State} (h : s.Form []) {r : RunSlot} (hr : s.engine.running = some r) :
    s.keepsClaim (s.stepFails r) := by
  refine keepsClaim_of_core (by simp) (fun hw => waiting_stepFails hw r) fun d _ hd => ?_
  rw [chan_stepFails_other hr (h.not_tracked hd)]
  exact hd

theorem Form.keepsClaim_senseAwait {s : State} (h : s.Form []) (c : Chan) (b : Bool) : s.keepsClaim (s.senseAwait c b) := by
  unfold State.senseAwait
  split
  · next r hr =>
    repeat' split
    · exact h.keepsClaim_stepCompletes hr
    all_goals exact keepsClaim_of_eq rfl rfl rfl
  · exact keepsClaim_of_eq rfl rfl rfl

theorem keepsClaim_senseWatch (s : State) (c : Chan) (b : Bool) : s.keepsClaim (s.senseWatch c b) := by
  unfold senseWatch
  split
  · exact keepsClaim_modChan s c fun _ => rfl
  · exact keepsClaim_of_eq rfl rfl rfl

theorem keepsClaim_senseLost {s : State} {c : Chan} (hc : (s.chan c).state = .on) : s.keepsClaim (s.senseLost c) := by
  refine keepsClaim_of_core (by simp) (by simp [senseLost]) fun d _ hd => ?_
  have hne : d ≠ c := fun heq => by rw [← heq, hd] at hc; cases hc
  have hlog (u : State) : (u.log .senseLost (some c) none none).chan d = u.chan d := rfl
  unfold senseLost
  dsimp only
  rw [hlog, chan_clearMark, if_neg hne, chan_modChan, if_neg hne, chan_enter, if_neg hne, chan_setRelease, if_neg hne,
    chan_outsOff, if_neg hne]
  exact hd

theorem keepsClaim_join {s : State} {c : Chan} (hc : (s.chan c).state ≠ .claiming) : s.keepsClaim (s.join c) := by
  refine keepsClaim_of_core (by simp) (by simp) fun d _ hd => ?_
  rw [chan_join, if_neg fun heq : d = c => hc (heq ▸ hd)]
  exact hd

theorem keepsClaim_withdrawIdleClaim (s : State) (c : Chan) : s.keepsClaim (s.withdrawIdleClaim c) := by
  unfold withdrawIdleClaim
  split
  · next hc =>
    refine keepsClaim_of_core rfl id fun d hon hd => ?_
    have hne : d ≠ c := fun heq => by rw [heq, hc.2] at hon; cases hon
    rw [chan_requeue, if_neg hne]
    exact hd
  · exact keepsClaim_of_eq rfl rfl rfl

theorem keepsClaim_foldl_withdrawIdleClaim (l : List Chan) (s : State) :
    s.keepsClaim (l.foldl (fun s c => s.withdrawIdleClaim c) s) := by
  induction l generalizing s with
  | nil => exact keepsClaim_of_eq rfl rfl rfl
  | cons c cs ih => exact (keepsClaim_withdrawIdleClaim s c).trans (ih _)

theorem keepsClaim_inhibit (s : State) : s.keepsClaim s.inhibit := by
  have hinh : s.keepsClaim { s with inh := { asserted := true, timer := none } } := keepsClaim_of_eq rfl rfl rfl
  have hw : s.keepsClaim s.claimsWithdrawn := hinh.trans (keepsClaim_foldl_withdrawIdleClaim _ _)
  rw [inhibit_eq]
  split
  · exact hw
  · refine hw.trans (keepsClaim_of_core (by simp) (fun _ => waiting_abortAll _ _) fun d _ hd => ?_)
    rw [chan_abortAll_other (by rw [hd]; rfl)]
    exact hd

end State

end Sys2Proof.Machine
end

section
/-!
The laws of channels, queue, engine, outputs and transmit slot through every command (O60).
-/

namespace Sys2Proof.Machine

open Sys2Proof

namespace State

/-! ## Frames -/

theorem Form.recountStart {s : State} (h : s.Form []) (a : Addr) (p : RecountPayload) : (s.recountStart a p).Form [] := by
  have hrun (u : State) (hu : u.Form []) : (u.holdRecounted a p).Form [] := by
    unfold holdRecounted
    split
    · unfold runOut
      split
      · refine Form.ownHoldOut ?_ _ _
        exact hu.of_eq rfl rfl rfl
      · exact hu.of_eq rfl rfl rfl
    · exact hu
  rw [recountStart_eq]
  split
  · exact h
  · split
    · refine hrun _ (h.of_eq ?_ ?_ ?_) <;> unfold recountReplaced <;> split <;> rfl
    · split
      · exact hrun _ (h.of_eq rfl rfl rfl)
      · exact h.of_eq rfl rfl rfl

theorem Form.selfAbsent {s : State} (h : s.Form []) (a : Addr) : (s.selfAbsent a).Form [] := by
  have hdrop : (s.dropOwner s.own false).Form [] := h.of_eq (by simp) (by simp) (by simp)
  have hclear : s.selfCleared.Form [] := by
    unfold selfCleared
    dsimp only
    split
    · exact hdrop.abortAll none
    · exact hdrop
  rw [selfAbsent_eq]
  dsimp only
  split
  · exact hclear.of_eq (by simp) (by simp) (by simp)
  · exact hclear.of_eq rfl rfl rfl

theorem Form.applyShedCall {s : State} (h : s.Form []) (a : Addr) (p : ShedCallPayload) (own : Option TxFrame) :
    (Machine.applyShedCall a p own s).Form [] := by
  have hend : (s.callEnded p own).Form [] := by
    unfold callEnded
    split
    · exact h.congr ⟨⟨rfl, rfl, rfl, rfl, rfl⟩, fun _ => rfl⟩
    · exact h
  rw [applyShedCall_eq]
  split
  · exact hend
  · have hmark : ((s.callEnded p own).slotsMarked a p).Form [] := hend.of_eq rfl rfl rfl
    have hshed : (((s.callEnded p own).slotsMarked a p).ownShed ((s.callEnded p own).shedNumbers p)).Form [] := by
      unfold ownShed
      split
      · exact hmark.foldl_shedChannel _
      · exact hmark
    have hnote : ((((s.callEnded p own).slotsMarked a p).ownShed ((s.callEnded p own).shedNumbers p)).marksNoticed
        ((s.callEnded p own).shedNumbers p)).Form [] := hshed.of_eq (by simp) (by simp) (by simp)
    unfold shedCalled
    cases own with
    | none => exact hnote
    | some t =>
      unfold callerTold callAnswered
      dsimp only
      split
      · exact hnote.congr (sameCore_modEntry _ _ fun _ => rfl)
      · exact hnote

theorem Form.atOwner {s : State} (h : s.Form []) (own : Option TxFrame) {f : State → State}
    (hf : ∀ u : State, u.Form [] → (f u).Form []) : (s.atOwner own f).Form [] := by
  cases own with
  | none => exact h
  | some t =>
    unfold State.atOwner
    dsimp only
    split
    · exact hf s h
    · exact h

/-- The effects of an accepted frame keep the laws of queue, engine and outputs; an own CLAIM's channel is CLAIMING and no start
waits. -/
theorem Form.frameBody {c : Instr} {rx : Rx} {f : Frame} {body : Option TxFrame → State → State}
    (hc : Machine.frameBody c = some (rx, f, body)) (own : Option TxFrame) {s : State} (h : s.Form [])
    (hclaim : ∀ t p, own = some t → f = .claim p → s.live = true → t.withdrawn = false →
      (s.chan p.ch).state = .claiming ∧ s.engine.waiting = none) : (body own s).Form [] := by
  cases c with
  | claim rx p =>
    cases hc
    have htab : (s.claimTabled rx.sender p).Form [] := h.of_eq (by simp) (by simp) (by simp)
    rw [applyClaim_eq]
    cases own with
    | none => dsimp only; split <;> assumption
    | some t =>
      have hcl := hclaim t p rfl rfl
      dsimp only
      split
      · split
        · next hlive => exact h.claimVoided fun hw => .inr (hcl hlive hw).1
        · exact h
      · refine htab.claimVerdict _ fun hlive hw => ?_
        have hchan : (s.claimTabled rx.sender p).chan p.ch = s.chan p.ch := chan_of_channels (by simp) p.ch
        rw [hchan, show (s.claimTabled rx.sender p).engine = s.engine by simp]
        exact hcl (by simpa [live, operating] using hlive) hw
  | renew rx p =>
    cases hc
    rw [applyRenew_atOwner]
    exact (h.of_eq (t := s.modStarts _ _) rfl rfl rfl).atOwner own fun u hu => hu.ownRenewed _ _ _
  | settled rx p =>
    cases hc
    rw [applySettled_atOwner]
    exact (h.of_eq (t := s.settledMoved _ _) (by simp) (by simp) (by simp)).atOwner own fun u hu => hu.ownSettled _
  | abandoned rx p =>
    cases hc
    rw [applyAbandoned_atOwner]
    exact (h.of_eq (t := s.dropNamed _ _ _) (by simp) (by simp) (by simp)).atOwner own fun u hu => hu.clearRelease _
  | expire rx p =>
    cases hc
    have hd : (s.dropNamed p.owner p.ch p.seq).Form [] := h.of_eq (by simp) (by simp) (by simp)
    rw [applyExpire_eq]
    split
    · exact hd.ownEntryExpired _ _ _
    · exact hd
  | stopped rx p =>
    cases hc
    rw [applyStopped_atOwner]
    exact (h.of_eq (t := s.slotStopped _ _) (by simp) (by simp) (by simp)).atOwner own fun u hu => hu.clearRelease _
  | shedCall rx p => cases hc; exact h.applyShedCall _ _ _
  | recount rx p =>
    cases hc
    have hcount : (s.recountCounted rx.sender p.ch own).Form [] := h.of_eq (by simp) (by simp) (by simp)
    rw [applyRecount_eq]
    split
    · exact hcount.of_eq (by simp) (by simp) (by simp)
    · exact hcount.recountStart _ _
  | absent rx a =>
    cases hc
    unfold applyAbsent
    split
    · exact h
    · split
      · exact h.selfAbsent _
      · exact h.of_eq (by simp) (by simp) (by simp)
  | hello rx p =>
    cases hc
    unfold applyHello
    dsimp only
    cases own <;> dsimp only <;> repeat' split
    all_goals exact h.of_eq (by simp) (by simp) (by simp)
  | presence rx p =>
    cases hc
    unfold applyPresence
    cases own with
    | some => exact h
    | none =>
      dsimp only
      split <;> exact h.of_eq (by simp) (by simp) (by simp)
  | syncReq rx a =>
    cases hc
    unfold applySyncReq
    dsimp only
    repeat' split
    all_goals exact h.of_eq (by simp) (by simp) (by simp)
  | recountEnd rx n =>
    cases hc
    unfold applyRecountEnd
    cases own <;> exact h.of_eq (by simp) (by simp) (by simp)
  | inquire rx p =>
    cases hc
    unfold applyInquire
    dsimp only
    repeat' split
    all_goals exact h.of_eq rfl rfl rfl
  | answer => cases hc; cases own <;> exact h.of_eq rfl rfl rfl
  | toolFrameReject => cases hc; exact h
  | _ => cases hc

/-- A frame lost on the line keeps the laws of queue, engine and outputs. -/
theorem Form.ownLost {s : State} (h : s.Form []) (hop : s.operating = true) (t : TxFrame)
    (hclaim : ∀ p, t.frame = .claim p → s.live = true → t.withdrawn = false → (s.chan p.ch).state = .claiming) :
    (s.ownLost t).Form [] := by
  have hcut : ({ s.clearTx with bus.receiving := true } : State).Form [] := h.of_eq rfl rfl rfl
  unfold State.ownLost
  dsimp only
  split
  · exact hcut
  · next hw =>
    have hlive : s.live = true := by
      rw [live, hop, Bool.true_and, Bool.not_eq_true']
      simpa using hw
    split
    · next p hf => exact hcut.claimEnded fun hwd => .inr (hclaim p hf hlive hwd)
    · exact hcut.settleEnded _
    all_goals exact hcut

theorem Form.loseArbitration {s : State} (h : s.Form []) (hop : s.operating = true) (t : TxFrame)
    (hclaim : ∀ p, t.frame = .claim p → s.live = true → t.withdrawn = false → (s.chan p.ch).state = .claiming) :
    (s.loseArbitration t).Form [] := by
  refine Form.ownLost (s := s.tally _) ?_ hop t hclaim
  exact h.of_eq rfl rfl rfl

/-- What the laws say of an own CLAIM that is on the bus while the channels act. -/
def claimStands (s : State) : Prop := s.live = true → s.claimHeld

theorem claimStands.claiming {s : State} (h : s.claimStands) {t : TxFrame} (htx : s.bus.tx = some t) (p : ClaimPayload)
    (hf : t.frame = .claim p) (hlive : s.live = true) (hw : t.withdrawn = false) : (s.chan p.ch).state = .claiming :=
  (h hlive t p htx hf hw).1

theorem Form.yieldsLine {s : State} (h : s.Form []) (hop : s.operating = true) (hcl : s.claimStands) :
    s.yieldsLine.Form [] := by
  unfold State.yieldsLine
  split
  · next t ht => exact h.ownLost hop t fun p => hcl.claiming ht p
  · exact h

/-- Outputs off and timers stopped in every channel. -/
theorem Form.silenced {X : List Chan} {s t : State} (h : s.Form X)
    (hc : ∀ c, (t.chan c).state = (s.chan c).state ∧ (t.chan c).mark = (s.chan c).mark ∧ outsAreOff (t.chan c))
    (k : s.sameStores t) : t.Form X := by
  refine h.reshape k (funext fun c => (hc c).2.1) (fun d => .inl ?_) fun d => .inr (hc d).2.2
  unfold flying
  rw [(hc d).1]

theorem map_key_stopped (l : List QueueEntry) :
    (l.map fun e => { e with patience := none, shedWait := none }).map QueueEntry.key = l.map QueueEntry.key := by
  rw [List.map_map]
  rfl

theorem Form.enterHalted {X : List Chan} {s : State} (h : s.Form X) : s.enterHalted.Form X := by
  refine h.silenced (fun c => ?_) ⟨map_key_stopped _, rfl, rfl, rfl, rfl⟩
  have hchan : s.enterHalted.chan c = { s.chan c with
      debounceTimer := none, senseGrace := none, shedRest := none, pre := false, main := false } := by
    simp [State.enterHalted, chan]
  rw [hchan]
  exact ⟨rfl, rfl, rfl, rfl⟩

theorem Form.meetClash {s : State} (h : s.Form []) (hop : s.operating = true) (hcl : s.claimStands) :
    s.meetClash.Form [] := by
  have hy := h.yieldsLine hop hcl
  rw [meetClash_eq]
  dsimp only
  split
  · refine Form.enterHalted ?_
    exact hy.of_eq rfl rfl rfl
  · exact hy.of_eq rfl rfl rfl

theorem Form.listens {s u : State} (h : s.Form []) (hop : s.operating = true) (hcl : s.claimStands) (hu : s.listens u) :
    u.Form [] := by
  rcases hu with ⟨-, rfl⟩ | ⟨t, ht, rfl⟩
  · exact h
  · exact h.loseArbitration hop t fun p => hcl.claiming ht p

theorem Form.receives {c : Instr} {s v : State} {rx : Rx} {f : Frame} {body : Option TxFrame → State → State}
    (hc : Machine.frameBody c = some (rx, f, body)) (hv : s.Receives rx f body v) (h : s.Form []) (hcl : s.claimStands) :
    v.Form [] := by
  have hnone (u : State) (hu : u.Form []) : (body none u).Form [] := hu.frameBody hc none fun t p ht => by cases ht
  cases hv with
  | aside => exact h
  | own t hpart htx hown hf =>
    have hop := takesPart_operating hpart
    refine Form.frameBody hc _ (h.of_eq (by simp [clearTx]) (by simp [clearTx]) (by simp [clearTx])) ?_
    rintro t' p ht hp hlive hw
    cases ht
    have hchan : (s.clearTx.ownAccepted rx.acked).chan p.ch = s.chan p.ch := chan_of_channels (by simp [clearTx]) p.ch
    have heng : (s.clearTx.ownAccepted rx.acked).engine = s.engine := by simp [clearTx]
    have hpow : (s.clearTx.ownAccepted rx.acked).power = s.power := by simp [clearTx]
    have hs : s.live = true := by
      have hwarn := live_warning hlive
      rw [hpow] at hwarn
      rw [live, hop, hwarn]
      rfl
    rw [hchan, heng]
    exact hcl hs t p htx (hf.trans hp) hw
  | clash t hpart => exact h.meetClash (takesPart_operating hpart) hcl
  | ignored _ hpart hu => exact h.listens (takesPart_operating hpart) hcl hu
  | tool u hpart hu => exact (h.listens (takesPart_operating hpart) hcl hu).of_eq rfl rfl rfl
  | inquiry u hpart hu => exact hnone _ (h.listens (takesPart_operating hpart) hcl hu)
  | peer u hpart hu =>
    exact hnone _ ((h.listens (takesPart_operating hpart) hcl hu).of_eq (by simp) (by simp) (by simp))

/-! ## Other events -/

theorem Form.ownVoided {s : State} (h : s.Form []) {t : TxFrame}
    (hclaim : ∀ p, t.frame = .claim p → s.live = true → t.withdrawn = false → (s.chan p.ch).state = .claiming) :
    (s.ownVoided t).Form [] := by
  unfold State.ownVoided
  dsimp only
  generalize hu : tally s.clearTx _ = u
  have hform : u.Form [] := by rw [← hu]; exact h.of_eq rfl rfl rfl
  have hchan (c : Chan) : u.chan c = s.chan c := by rw [← hu]; rfl
  have hlive : u.live = s.live := by rw [← hu]; rfl
  cases hf : t.frame with
  | claim p =>
    dsimp only
    split
    · next hl => exact hform.claimVoided fun hw => .inr (by rw [hchan]; exact hclaim p hf (hlive ▸ hl) hw)
    · exact hform
  | renew p =>
    dsimp only
    split
    · unfold renewVoided
      dsimp only
      split
      · exact hform.forget rfl rfl rfl rfl rfl
      · exact hform.forget rfl rfl rfl rfl rfl
    · exact hform
  | settled p =>
    have hrel : (u.releaseVoided p.ch).Form [] := hform.of_eq rfl rfl rfl
    dsimp only
    split
    · exact hrel.settleEnded _
    · exact hrel
  | shedCall p =>
    dsimp only
    unfold shedCallVoided
    repeat' split
    · exact hform.congr ⟨⟨rfl, rfl, rfl, rfl, rfl⟩, fun _ => rfl⟩
    · exact hform.congr ⟨⟨rfl, rfl, rfl, rfl, rfl⟩, fun _ => rfl⟩
    · exact hform
    · exact hform
  | _ => exact hform.of_eq (by simp) (by simp) (by simp)

theorem Form.foundIncomplete {s : State} (h : s.Form []) (hop : s.operating = true) (hcl : s.claimStands) :
    s.foundIncomplete.Form [] := by
  have hy := h.yieldsLine hop hcl
  rw [foundIncomplete_eq]
  split
  · exact hy.of_eq (by simp) (by simp) (by simp)
  · exact hy.of_eq (by simp) (by simp) (by simp)

theorem Form.otherVoided {s : State} (h : s.Form []) (hop : s.operating = true) (hcl : s.claimStands) (raw : RawFrame) :
    (s.otherVoided raw).Form [] := by
  unfold State.otherVoided
  split
  · exact h.foundIncomplete hop hcl
  · split
    · exact h
    · exact h.of_eq (by simp) (by simp) (by simp)

/-- A station that may join the break does (R150). -/
def breakJoined (s : State) : State := if s.bus.lineBusy then s else s.select

/-- Without a frame of its own the station receives (R150). -/
def breakHeard (s : State) : State :=
  if s.bus.tx.isSome then s else { s with bus := { s.bus with lineBusy := true, receiving := true, free := false } }

theorem seeBreak_eq (s : State) :
    s.seeBreak =
      if s.operating && s.bus.tx.isNone then s.breakJoined.breakHeard
      else { s with bus := { s.bus with lineBusy := true, free := false } } := by
  unfold seeBreak breakHeard breakJoined
  dsimp only
  split
  · generalize (if s.bus.lineBusy = true then s else s.select) = u
    cases u.bus.tx <;> rfl
  · rfl

theorem Form.seeBreak {s : State} (h : s.Form []) : s.seeBreak.Form [] := by
  have hjoin : s.breakJoined.Form [] := by
    unfold breakJoined
    split
    · exact h
    · exact h.select
  rw [seeBreak_eq]
  split
  · unfold breakHeard
    split
    · exact hjoin
    · exact hjoin.of_eq rfl rfl rfl
  · exact h.of_eq rfl rfl rfl

theorem Form.senseAwait {s : State} (h : s.Form []) (c : Chan) (b : Bool) : (s.senseAwait c b).Form [] := by
  unfold State.senseAwait
  split
  · next r hr =>
    repeat' split
    · exact h.stepCompletes hr
    all_goals exact h
  · exact h

theorem Form.senseWatch {X : List Chan} {s : State} (h : s.Form X) (c : Chan) (b : Bool) : (s.senseWatch c b).Form X := by
  unfold State.senseWatch
  split
  · exact h.modChan c fun _ => rfl
  · exact h

theorem Form.debounce {X : List Chan} {s : State} (h : s.Form X) (c : Chan) (b : Bool) : (s.debounce c b).Form X := by
  unfold State.debounce
  split
  · exact h
  · exact h.modChan c fun _ => rfl

theorem Form.shedWaitEnds {X : List Chan} {s : State} (h : s.Form X) (c : Chan) : (s.shedWaitEnds c).Form X := by
  have hm := h.congr (sameCore_modEntry s c (f := fun e => { e with shedWait := none }) fun _ => rfl)
  unfold State.shedWaitEnds
  dsimp only
  split
  · exact hm.of_eq rfl rfl rfl
  · exact hm

end State

end Sys2Proof.Machine
end

section
/-!
Every command, and every millisecond, keeps the laws of channels, queue, engine, outputs and transmit slot.
-/

namespace Sys2Proof.Machine

open Sys2Proof

namespace State

/-! ## Loading -/

theorem Form.haltLoading {X : List Chan} {s : State} (h : s.Form X) (r : LoadResult) : (s.haltLoading r).Form X := by
  refine Form.enterHalted (s := State.log _ .configBad none none none) ?_
  exact h.of_eq rfl rfl rfl

theorem Form.failAttempt {X : List Chan} {s : State} (h : s.Form X) : s.failAttempt.Form X := by
  unfold State.failAttempt
  dsimp only
  split
  · refine Form.haltLoading ?_ _
    exact h.of_eq rfl rfl rfl
  · exact h.of_eq rfl rfl rfl

theorem Form.drive {X : List Chan} {s : State} (h : s.Form X) (ops : List LinkOp) : (s.drive ops).Form X :=
  h.of_eq rfl rfl rfl

theorem Form.readHeader {X : List Chan} {s : State} (h : s.Form X) (n : Fin 10) (a b : Byte) :
    (s.readHeader n a b).Form X := by
  unfold State.readHeader
  dsimp only
  split
  · exact h.of_eq rfl rfl rfl
  · exact ((h.drive _).drive _).failAttempt

theorem Form.invalidLogged {X : List Chan} {s : State} (h : s.Form X) : s.invalidLogged.Form X :=
  h.of_eq (by simp [State.invalidLogged]) (by simp [State.invalidLogged]) (by simp [State.invalidLogged])

/-- A channel record of LOADING that has been loaded: IDLE or DISABLED, its outputs off. -/
theorem loadedChannel_atStart (s : State) (c : Chan) :
    (s.loadedChannel c Channel.atStart).state.loose = true
      ∧ (s.loadedChannel c Channel.atStart).state.drives = false
      ∧ outsAreOff (s.loadedChannel c Channel.atStart) := by
  unfold loadedChannel
  split
  · exact ⟨rfl, rfl, rfl, rfl⟩
  · exact ⟨rfl, rfl, rfl, rfl⟩
  · exact ⟨rfl, rfl, rfl, rfl⟩

theorem chan_channelsLoaded (s : State) (c : Chan) : s.channelsLoaded.chan c = s.loadedChannel c (s.chan c) := by
  have h : s.channelsLoaded.chan c = (s.channels.mapChan s.loadedChannel).get c := rfl
  rw [h, Four.get_mapChan]
  rfl

/-- While no channel is in queue or engine both are empty. -/
theorem Form.empty_of_idle {s : State} (h : s.Form []) (hc : ∀ c, (s.chan c).state = .idle) :
    s.queue.entries = [] ∧ s.engine.running = none ∧ s.engine.waiting = none ∧ s.engine.stack = [] := by
  have hfly (c : Chan) : s.flying [] c = .idle := by rw [flying_of_not_mem s List.not_mem_nil]; exact hc c
  refine ⟨?_, ?_, ?_, ?_⟩
  · refine List.eq_nil_iff_forall_not_mem.mpr fun e he => ?_
    have := (h.queue.holds e.ch).mp (List.mem_map_of_mem he)
    rw [hfly] at this
    simp [inQueue] at this
  · cases hr : s.engine.running with
    | none => rfl
    | some r =>
      have := (h.engine.running r.ch).mp (by rw [hr]; rfl)
      rw [hfly] at this
      cases this
  · cases hw : s.engine.waiting with
    | none => rfl
    | some c =>
      have := (h.engine.waiting c).mp hw
      rw [hfly] at this
      cases this
  · refine List.eq_nil_iff_forall_not_mem.mpr fun k hk => ?_
    have := (h.engine.stacked k.ch).mp (List.mem_map_of_mem hk)
    rw [hfly] at this
    cases this

theorem Form.channelsLoaded {s : State} (h : s.Form []) (hc : ∀ c, s.chan c = Channel.atStart) :
    s.channelsLoaded.Form [] := by
  have hloaded (c : Chan) : s.channelsLoaded.chan c = s.loadedChannel c Channel.atStart := by
    rw [chan_channelsLoaded, hc]
  obtain ⟨hq, -⟩ := h.empty_of_idle fun c => by rw [hc]; rfl
  have hfly (u : State) (c : Chan) : u.flying [] c = (u.chan c).state := flying_of_not_mem u List.not_mem_nil
  have hloose (c : Chan) : (s.channelsLoaded.flying [] c).loose = true := by
    rw [hfly, hloaded]
    exact (loadedChannel_atStart s c).1
  have hidle (c : Chan) : s.flying [] c = .idle := by rw [hfly, hc]; rfl
  obtain ⟨-, hqueue, hengine, -⟩ := h
  refine ⟨?_, hqueue.congr rfl rfl fun c => ?_, hengine.congr rfl rfl rfl fun c => .inr ?_, fun c => .inr ?_⟩
  · have hnil : s.channelsLoaded.queue.entries = [] := hq
    unfold QueueOrdered
    rw [hnil]
    exact List.Pairwise.nil
  · have hno := ((ChanState.loose_iff _).mp (hloose c)).1
    rw [hidle]
    exact ⟨fun hin => absurd hin hno, fun hin => by simp [inQueue] at hin⟩
  · rw [hidle]
    exact ⟨rfl, ((ChanState.loose_iff _).mp (hloose c)).2⟩
  · rw [hloaded]
    exact (loadedChannel_atStart s c).2.2

theorem Form.foldl_joinLatched (l : List Chan) {s : State} (h : s.Form []) (hl : l.Nodup)
    (hc : ∀ c ∈ l, (s.chan c).state.loose = true ∧ (s.chan c).state.drives = false) :
    (l.foldl (fun s c => s.joinLatched c) s).Form [] := by
  induction l generalizing s with
  | nil => exact h
  | cons c cs ih =>
    rw [List.nodup_cons] at hl
    obtain ⟨hloose, hdrives⟩ := hc c List.mem_cons_self
    refine ih ?_ hl.2 fun d hd => ?_
    · dsimp only [joinLatched]
      split
      · exact (h.detach hloose).join List.not_mem_nil (h.off List.not_mem_nil hdrives)
      · exact h
    · have hne : d ≠ c := fun heq => hl.1 (heq ▸ hd)
      have hsame : (s.joinLatched c).chan d = s.chan d := by
        unfold joinLatched
        split
        · rw [chan_join, if_neg hne]
        · rfl
      rw [hsame]
      exact hc d (List.mem_cons_of_mem _ hd)

theorem Form.endLoading {s : State} (h : s.Form []) (hc : ∀ c, s.chan c = Channel.atStart) (bytes : List Byte) :
    (s.endLoading bytes).Form [] := by
  have himage : (s.imageHeld bytes).invalidLogged.Form [] := Form.invalidLogged (h.of_eq rfl rfl rfl)
  have hchan (c : Chan) : (s.imageHeld bytes).invalidLogged.chan c = Channel.atStart := by
    rw [chan_of_channels (s := s) ?_, hc]
    simp [State.invalidLogged]
    rfl
  have hloaded := himage.channelsLoaded hchan
  have hjoined : (s.imageHeld bytes).invalidLogged.channelsLoaded.latchedJoined.Form [] := by
    refine Form.foldl_joinLatched allChans hloaded allChans_nodup fun c _ => ?_
    rw [chan_channelsLoaded, hchan]
    obtain ⟨hloose, hdrives, -⟩ := loadedChannel_atStart (s.imageHeld bytes).invalidLogged c
    exact ⟨hloose, hdrives⟩
  rw [endLoading_eq]
  refine hjoined.of_eq ?_ ?_ ?_ <;> simp [enterListen] <;> rfl

theorem Form.judgeImage {s : State} (h : s.Form []) (hc : ∀ c, s.chan c = Channel.atStart) (bytes : List Byte) :
    (s.judgeImage bytes).Form [] := by
  unfold State.judgeImage
  split
  · split
    · exact h.endLoading hc bytes
    · exact h.haltLoading _
  · exact h.failAttempt

/-! ## Commands -/

theorem Form.of_acts {s u : State} {c : Instr} (ha : s.Acts c u) (h : s.Form []) (hcl : s.claimStands)
    (hload : s.loading = true → ∀ c, s.chan c = Channel.atStart) : u.Form [] := by
  cases ha with
  | frame hc hv => exact (h.receives hc hv hcl).of_eq rfl rfl rfl
  | voidedOwn raw t hpart htx => exact (h.ownVoided fun p => hcl.claiming htx p).of_eq rfl rfl rfl
  | voidedOther raw hpart => exact (h.otherVoided (takesPart_operating hpart) hcl raw).of_eq rfl rfl rfl
  | arbitrationLost t hop htx => exact h.loseArbitration hop t fun p => hcl.claiming htx p
  | addressClash hpart => exact h.meetClash (takesPart_operating hpart) hcl
  | incomplete hpart => exact (h.foundIncomplete (takesPart_operating hpart) hcl).of_eq rfl rfl rfl
  | frameBreak => exact h.seeBreak
  | holdAtOwner d e =>
    refine Form.ownHoldOut ?_ d e.seq
    exact h.of_eq rfl rfl rfl
  | reqLevel d b =>
    refine Form.debounce ?_ d b
    exact h.of_eq rfl rfl rfl
  | debounceOut d => exact h.debounced d
  | senseLevel d b =>
    refine (Form.senseWatch ?_ d b).senseAwait d b
    exact h.of_eq rfl rfl rfl
  | senseGraceOut d hlive hon => exact h.senseLost hon
  | shedRestOut d hlive hst =>
    have hm := h.modChan d (f := fun k => { k with shedRest := none }) fun _ => rfl
    have hself : ((s.modChan d fun k => { k with shedRest := none }).chan d).state = .shed := by
      rw [chan_modChan, if_pos rfl]
      exact hst
    exact (hm.detach (by rw [hself]; rfl)).join List.not_mem_nil (hm.off List.not_mem_nil (by rw [hself]; rfl))
  | inhAsserted => exact h.inhibit
  | inhReleased => exact Form.notify (h.of_eq rfl rfl rfl)
  | patienceOut d => exact h.age d
  | shedWaitOut d => exact h.shedWaitEnds d
  | dwellOut d i r time y hlive hr => exact h.stepCompletes hr
  | awaitOut d i r level time y hlive hr => exact h.stepFails hr
  | headerRead => exact h.readHeader _ _ _
  | readComplete rest hl => exact (h.drive _).judgeImage (hload hl) _
  | attemptFails how ops => exact (h.drive ops).failAttempt
  | clockStretch n m bytes ops => exact (h.drive ops).failAttempt
  | renewalNeed | windowOut | syncOut => exact h.of_eq (by simp) (by simp) (by simp)
  | _ => exact h.of_eq rfl rfl rfl

/-- What the law of the transmit slot says. -/
theorem transmit_iff (s : State) : TransmitLaw s ↔ s.lineHeld ∧ (s.bus.tx.isSome = true → s.operating = true) :=
  ⟨fun h => ⟨fun ht => (h ht).2, fun ht => (h ht).1⟩, fun h ht => ⟨h.2 ht, h.1 ht⟩⟩

theorem transmit_of_none {s : State} (h : s.bus.tx = none) : TransmitLaw s := by
  intro ht
  rw [h] at ht
  cases ht

theorem transmit_of_core {s u : State} (h : TransmitLaw s) (hb : u.bus.core = s.bus.core) (hp : u.power = s.power)
    (hm : u.member.state.applies = s.member.state.applies) : TransmitLaw u := by
  obtain ⟨hbusy, hrec, hfree, -, -, -, -, htx⟩ := Bus.of_core hb
  intro ht
  rw [hbusy, hrec, hfree]
  obtain ⟨hop, hrest⟩ := h (htx ▸ ht)
  refine ⟨?_, hrest⟩
  unfold operating at hop ⊢
  rw [hp, hm]
  exact hop

theorem transmit_claimTakenBack {s : State} (h : TransmitLaw s) (c : Chan) : TransmitLaw (s.claimTakenBack c) := by
  unfold claimTakenBack
  split
  · intro ht
    have hs : s.bus.tx.isSome = true := by simpa using ht
    exact h hs
  · exact h

theorem transmit_demandOff {s : State} (h : TransmitLaw s) (c : Chan) : TransmitLaw (s.demandOff c) := by
  by_cases hc : (s.chan c).state = .claiming
  · have hl : TransmitLaw (s.latchOff c) := transmit_of_core h (by simp) (by simp) (by simp)
    have hst : ((s.latchOff c).chan c).state = .claiming := by rw [latchOff_state]; exact hc
    rw [demandOff_eq, hst]
    exact transmit_of_core (transmit_claimTakenBack hl c) (by simp) (by simp) (by simp)
  · exact transmit_of_core h (demandOff_core fun hcl => absurd hcl hc) (by simp) (by simp)

theorem transmit_debounced {s : State} (h : TransmitLaw s) (c : Chan) : TransmitLaw (s.debounced c) := by
  unfold debounced
  dsimp only
  split
  · exact h
  · rw [writeLatch_eq]
    repeat' split
    · exact h
    · exact transmit_of_core h (by simp) (by simp) (by simp)
    · exact transmit_demandOff (s := s.modChan c _) h c

theorem transmit_seeBreak {s : State} (h : TransmitLaw s) (hcl : s.claimStands) :
    TransmitLaw s.seeBreak ∧ (s.live = true → s.seeBreak.claimHeld) := by
  rw [seeBreak_eq]
  split
  · next hop =>
    simp only [Bool.and_eq_true, Option.isNone_iff_eq_none] at hop
    have hheld : s.breakJoined.lineHeld ∧ s.breakJoined.claimHeld := by
      unfold breakJoined
      split
      · exact ⟨((transmit_iff s).mp h).1, claimHeld_of_no_tx hop.2⟩
      · exact select_held ((transmit_iff s).mp h).1 (claimHeld_of_no_tx hop.2)
    have hkeep : s.breakJoined.operating = true := by
      have : s.breakJoined.power = s.power ∧ s.breakJoined.member = s.member := by
        unfold breakJoined
        split <;> simp
      unfold operating at hop ⊢
      rw [this.1, this.2]
      exact hop.1
    unfold breakHeard
    split
    · exact ⟨(transmit_iff _).mpr ⟨hheld.1, fun _ => hkeep⟩, fun _ => hheld.2⟩
    · next hno =>
      have hnone : s.breakJoined.bus.tx = none := by simpa using hno
      exact ⟨transmit_of_none hnone, fun _ => claimHeld_of_no_tx hnone⟩
  · exact ⟨fun ht => ⟨(h ht).1, rfl, rfl, (h ht).2.2.2⟩, fun hl => (keepsClaim.held ⟨rfl, id, fun _ _ hd => hd⟩ (hcl hl))⟩

theorem windowEnds_applies (s : State) : s.windowEnds.member.state.applies = true := by
  unfold windowEnds
  split
  · rw [enterSyncing_state]; rfl
  · rcases enterInStep_state s with h | h <;> rw [h] <;> rfl

theorem syncEnds_applies (s : State) : s.syncEnds.member.state.applies = true := by
  unfold syncEnds
  split
  · rcases enterInStep_state s.suspectAwaited with h | h <;> rw [h] <;> rfl
  · rcases enterInStep_state ({ s.suspectPresent with member.ownRequest := none } : State) with h | h <;> rw [h] <;> rfl

theorem operating_applies {s : State} (h : s.operating = true) : s.member.state.applies = true := by
  rw [operating, Bool.and_eq_true] at h
  exact h.2

theorem loading_not_operating {s : State} (h : s.loading = true) : s.operating = false := by
  simp only [loading, Bool.and_eq_true, decide_eq_true_eq] at h
  simp [operating, h.2, MState.applies]

theorem tx_of_not_operating {s : State} (h : TransmitLaw s) (hop : s.operating = false) : s.bus.tx = none := by
  cases ht : s.bus.tx with
  | none => rfl
  | some t =>
    have := (h (by rw [ht]; rfl)).1
    rw [hop] at this
    cases this

theorem tx_failAttempt {s : State} (h : s.bus.tx = none) : s.failAttempt.bus.tx = none := by
  unfold failAttempt
  dsimp only
  split
  · rfl
  · exact h

theorem tx_judgeImage {s : State} (h : s.bus.tx = none) (bytes : List Byte) : (s.judgeImage bytes).bus.tx = none := by
  unfold judgeImage
  split
  · split
    · refine tx_of_bus ?_ h
      rw [endLoading_eq]
      simp only [enterListen, setMState_keeps]
      simp [inhLoaded, latchedJoined, channelsLoaded, invalidLogged, imageHeld]
    · rfl
  · exact tx_failAttempt h

theorem tx_readHeader {s : State} (h : s.bus.tx = none) (n : Fin 10) (a b : Byte) :
    (s.readHeader n a b).bus.tx = none := by
  unfold readHeader
  dsimp only
  split
  · exact h
  · exact tx_failAttempt (s := (s.drive _).drive _) h

theorem transmit_of_acts {s u : State} {c : Instr} (ha : s.Acts c u) (h : TransmitLaw s) (hcl : s.claimStands) :
    TransmitLaw u := by
  have haside (hpart : s.takesPart = false) : s.bus.tx = none := by
    cases htx : s.bus.tx with
    | none => rfl
    | some t => simp [takesPart, htx, (h (by rw [htx]; rfl)).1] at hpart
  have hidle (hl : s.loading = true) : s.bus.tx = none := tx_of_not_operating h (loading_not_operating hl)
  cases ha with
  | frame hc hv =>
    refine transmit_of_none ?_
    rcases tx_receives hc hv with ⟨rfl, hpart⟩ | hnone
    · exact haside hpart
    · exact hnone
  | voidedAside raw hpart => exact transmit_of_none (haside hpart)
  | incompleteAside hpart => exact transmit_of_none (haside hpart)
  | voidedOwn raw t => exact transmit_of_none (tx_ownVoided s t)
  | voidedOther raw hpart htx => exact transmit_of_none (tx_otherVoided htx raw)
  | arbitrationLost t => exact transmit_of_none (tx_loseArbitration s t)
  | addressClash => exact transmit_of_none (tx_meetClash s)
  | incomplete => exact transmit_of_none (tx_foundIncomplete s)
  | frameBreak => exact (transmit_seeBreak h hcl).1
  | busFree htx => exact transmit_of_none htx
  | debounceOut d => exact transmit_debounced h d
  | windowOut hop =>
    exact transmit_of_core h (by simp) (by simp) (by rw [windowEnds_applies, operating_applies hop])
  | syncOut hop => exact transmit_of_core h (by simp) (by simp) (by rw [syncEnds_applies, operating_applies hop])
  | headerRead _ _ _ hl => exact transmit_of_none (tx_readHeader (hidle hl) _ _ _)
  | readComplete rest hl => exact transmit_of_none (tx_judgeImage (s := s.drive _) (hidle hl) _)
  | attemptFails how ops hl => exact transmit_of_none (tx_failAttempt (s := s.drive ops) (hidle hl))
  | clockStretch n m bytes ops hl => exact transmit_of_none (tx_failAttempt (s := s.drive ops) (hidle hl))
  | retryElapsed hl => exact transmit_of_none (hidle hl)
  | inhLevel | inhReleased | presenceOut | absenceReached | requestOut | sampleOut => exact transmit_of_core h rfl rfl rfl
  | reqLevel d b =>
    exact transmit_of_core (s := s.reqTaken d b) h (by simp) (by simp) (by simp)
  | senseLevel d b =>
    refine transmit_of_core (s := s.senseTaken d b) h ?_ (by simp) (by simp)
    unfold senseAwait
    repeat' split
    all_goals simp
  | _ => exact transmit_of_core h (by simp) (by simp) (by simp)

/-- A CLAIM on the bus keeps its channel in CLAIMING, and no start comes to wait. -/
theorem claims_of_acts {s u : State} {c : Instr} (ha : s.Acts c u) (hform : s.Form []) (h : s.claimHeld)
    (hidle : s.loading = true → s.bus.tx = none) : u.claimHeld := by
  cases ha with
  | frame hc hv =>
    rcases tx_receives hc hv with ⟨rfl, hpart⟩ | hnone
    · exact (keepsClaim.held ⟨rfl, id, fun _ _ hd => hd⟩ h)
    · exact claimHeld_of_no_tx hnone
  | voidedOwn raw t => exact claimHeld_of_no_tx (tx_ownVoided s t)
  | voidedOther raw hpart htx => exact claimHeld_of_no_tx (tx_otherVoided htx raw)
  | arbitrationLost t => exact claimHeld_of_no_tx (tx_loseArbitration s t)
  | addressClash => exact claimHeld_of_no_tx (tx_meetClash s)
  | incomplete => exact claimHeld_of_no_tx (tx_foundIncomplete s)
  | frameBreak =>
    rw [seeBreak_eq]
    split
    · next hop =>
      simp only [Bool.and_eq_true, Option.isNone_iff_eq_none] at hop
      have hjoin : s.breakJoined.claimHeld := by
        unfold breakJoined
        split
        · exact h
        · exact (select_held (fun ht => by rw [hop.2] at ht; cases ht) h).2
      unfold breakHeard
      split
      · exact hjoin
      · exact (keepsClaim.held ⟨rfl, id, fun _ _ hd => hd⟩ hjoin)
    · exact (keepsClaim.held ⟨rfl, id, fun _ _ hd => hd⟩ h)
  | holdAtOwner d e =>
    have hform' : (s.holdEnds s.own d false).Form [] := hform.of_eq rfl rfl rfl
    have hheld : (s.holdEnds s.own d false).claimHeld := (keepsClaim_of_eq rfl rfl rfl).held h
    exact (hform'.keepsClaim_ownHoldOut d e.seq).held hheld
  | reqLevel d b =>
    have hheld : (s.reqTaken d b).claimHeld := (keepsClaim_of_eq rfl rfl rfl).held h
    unfold debounce
    split
    · exact hheld
    · refine keepsClaim.held (keepsClaim_modChan _ d ?_) hheld
      exact fun _ => rfl
  | debounceOut d => exact claimHeld_debounced hform h d
  | senseLevel d b =>
    have htaken : (s.senseTaken d b).Form [] := hform.of_eq rfl rfl rfl
    have hform' := htaken.senseWatch d b
    have hheld : ((s.senseTaken d b).senseWatch d b).claimHeld :=
      (keepsClaim_senseWatch _ d b).held ((keepsClaim_of_eq rfl rfl rfl).held h)
    exact (hform'.keepsClaim_senseAwait d b).held hheld
  | senseGraceOut d _ hon => exact (keepsClaim_senseLost hon).held h
  | shedRestOut d _ hst =>
    have hheld : (s.modChan d fun k => { k with shedRest := none }).claimHeld := by
      refine keepsClaim.held (keepsClaim_modChan s d ?_) h
      exact fun _ => rfl
    refine (keepsClaim_join ?_).held hheld
    rw [chan_modChan, if_pos rfl]
    exact fun hcl => by simp [hst] at hcl
  | inhAsserted => exact (keepsClaim_inhibit s).held h
  | patienceOut d | shedWaitOut d =>
    refine (keepsClaim_of_eq ?_ ?_ ?_).held h <;> simp
  | dwellOut d i r time y _ hr => exact (hform.keepsClaim_stepCompletes hr).held h
  | awaitOut d i r level time y _ hr => exact (hform.keepsClaim_stepFails hr).held h
  | headerRead _ _ _ hl => exact claimHeld_of_no_tx (tx_readHeader (hidle hl) _ _ _)
  | readComplete rest hl => exact claimHeld_of_no_tx (tx_judgeImage (s := s.drive _) (hidle hl) _)
  | attemptFails how ops hl => exact claimHeld_of_no_tx (tx_failAttempt (s := s.drive ops) (hidle hl))
  | clockStretch n m bytes ops hl => exact claimHeld_of_no_tx (tx_failAttempt (s := s.drive ops) (hidle hl))
  | retryElapsed hl => exact claimHeld_of_no_tx (hidle hl)
  | renewalNeed | windowOut | syncOut => exact (keepsClaim_of_eq (by simp) (by simp) (by simp)).held h
  | _ => exact (keepsClaim_of_eq rfl rfl rfl).held h

/-- A channel record of LOADING (R62). -/
def channelsFresh (s : State) : Prop := s.member.state = .loading → ∀ c, s.chan c = Channel.atStart

theorem channelLaws_iff (s : State) :
    ChannelLaws s ↔ s.Form [] ∧ TransmitLaw s ∧ s.claimStands ∧ s.channelsFresh := by
  rw [form_nil_iff]
  constructor
  · rintro ⟨hq, he, ho, ⟨hfresh, hclaim⟩, ht⟩
    exact ⟨⟨hq, he, ho⟩, ht, fun hl => hclaim hl, hfresh⟩
  · rintro ⟨⟨hq, he, ho⟩, ht, hclaim, hfresh⟩
    exact ⟨hq, he, ho, ⟨hfresh, fun hl => hclaim hl⟩, ht⟩

theorem live_of_acts {s u : State} {c : Instr} (ha : s.Acts c u) (hl : u.live = true) : s.live = true ∨ s.loading = true := by
  have hwarn := live_warning hl
  rw [(keepsFor_of_acts ha).power] at hwarn
  by_cases hop : s.operating = true
  · exact .inl (by rw [live, hop, hwarn]; rfl)
  · by_cases hload : s.loading = true
    · exact .inr hload
    · obtain ⟨a, b, d, rfl⟩ := lineSeen_of_acts (by simpa using hop) (by simpa using hload) ha
      exact .inl hl

theorem failAttempt_channels (s : State) : s.failAttempt.member.state = .halted ∨ s.failAttempt.channels = s.channels := by
  unfold failAttempt
  dsimp only
  split
  · exact .inl rfl
  · exact .inr rfl

theorem fresh_failAttempt {s : State} (h : s.channelsFresh) : s.failAttempt.channelsFresh := by
  intro hl c
  rcases failAttempt_channels s with hhalt | hc
  · rw [hhalt] at hl
    cases hl
  · rw [chan_of_channels hc]
    refine h ?_ c
    rcases failAttempt_state s with hst | hst <;> rw [hst] at hl
    · exact hl
    · cases hl

theorem fresh_of_acts {s u : State} {c : Instr} (ha : s.Acts c u) (h : s.channelsFresh) : u.channelsFresh := by
  intro hl
  have hs : s.member.state = .loading := by
    by_contra hno
    exact not_loading_of_acts ha hno hl
  have hop : s.operating = false := by simp [operating, hs, MState.applies]
  by_cases hload : s.loading = true
  · revert hl
    change u.channelsFresh
    have hpart : ¬s.takesPart = true := fun hp => by simp [takesPart_operating hp] at hop
    have hlive : ¬s.live = true := fun hl => by simp [live_operating hl] at hop
    cases ha with
    | frame hc hv =>
      cases hv with
      | aside => exact h
      | own _ hp | clash _ hp | ignored _ hp | tool _ hp | inquiry _ hp | peer _ hp => exact absurd hp hpart
    | voidedAside | incompleteAside | busFree | retryElapsed => exact h
    | frameBreak =>
      rw [seeBreak_eq, hop]
      exact h
    | headerRead n a b =>
      unfold readHeader
      dsimp only
      split
      · exact h
      · exact fresh_failAttempt (s := (s.drive _).drive _) h
    | readComplete rest =>
      unfold judgeImage
      split
      · split
        · intro hl
          rw [endLoading_state] at hl
          cases hl
        · intro hl
          cases hl
      · exact fresh_failAttempt (s := s.drive _) h
    | attemptFails how ops => exact fresh_failAttempt (s := s.drive ops) h
    | clockStretch n m bytes ops => exact fresh_failAttempt (s := s.drive ops) h
    | voidedOwn _ _ hp | voidedOther _ hp | addressClash hp | incomplete hp => exact absurd hp hpart
    | arbitrationLost _ ho | holdAtPeer _ _ ho | holdAtOwner _ _ ho | patienceOut _ _ ho | shedWaitOut _ _ ho | presenceOut ho
    | windowOut ho | syncOut ho | absenceReached _ ho | requestOut _ ho => simp [hop] at ho
    | renewalNeed _ hl | reqLevel _ _ hl | debounceOut _ hl | senseLevel _ _ hl | senseGraceOut _ hl | shedRestOut _ hl
    | inhLevel _ hl | inhAsserted hl | inhReleased hl | dwellOut _ _ _ _ _ hl | awaitOut _ _ _ _ _ _ hl | sampleOut hl =>
      exact absurd hl hlive
  · obtain ⟨a, b, d, rfl⟩ := lineSeen_of_acts hop (by simpa using hload) ha
    exact h hs

theorem laws_of_acts {s u : State} {c : Instr} (ha : s.Acts c u) (h : ChannelLaws s) : ChannelLaws u := by
  obtain ⟨hform, htr, hcl, hfresh⟩ := (channelLaws_iff s).mp h
  have hidle (hl : s.loading = true) : s.bus.tx = none := tx_of_not_operating htr (loading_not_operating hl)
  refine (channelLaws_iff u).mpr ⟨hform.of_acts ha hcl fun hl => hfresh ?_, transmit_of_acts ha htr hcl, fun hl => ?_,
    fresh_of_acts ha hfresh⟩
  · simp only [loading, Bool.and_eq_true, decide_eq_true_eq] at hl
    exact hl.2
  · refine claims_of_acts ha hform ?_ hidle
    rcases live_of_acts ha hl with hlive | hload
    · exact hcl hlive
    · exact claimHeld_of_no_tx (hidle hload)

/-! ## Supplies, reset and starts -/

theorem form_atStart {s : State} (hq : s.queue = ClaimQueue.atStart) (he : s.engine = Engine.atStart)
    (hc : ∀ c, s.chan c = Channel.atStart) : s.Form [] := by
  have hfly (c : Chan) : s.flying [] c = .idle := by rw [flying_of_not_mem s List.not_mem_nil, hc]; rfl
  refine ⟨?_, ?_, engineHolds_empty (by rw [he]; rfl) (by rw [he]; rfl) (by rw [he]; rfl) fun c => by rw [hfly]; rfl,
    fun c => .inr (by rw [hc]; exact ⟨rfl, rfl⟩)⟩
  · rw [hq]
    exact List.Pairwise.nil
  · rw [hq]
    refine ⟨List.nodup_nil, fun c => ?_, List.nodup_nil, fun e hmem => (by cases hmem), Nat.zero_le _⟩
    rw [hfly]
    simp [ClaimQueue.atStart, inQueue]

theorem laws_atStart {s : State} (hq : s.queue = ClaimQueue.atStart) (he : s.engine = Engine.atStart)
    (hc : ∀ c, s.chan c = Channel.atStart) (ht : s.bus.tx = none) : ChannelLaws s :=
  (channelLaws_iff s).mpr
    ⟨form_atStart hq he hc, transmit_of_none ht, fun _ => claimHeld_of_no_tx ht, fun _ => hc⟩

theorem chan_discard (s : State) (c : Chan) : s.discard.chan c = Channel.atStart := Four.get_same _ c

theorem laws_discard (s : State) : ChannelLaws s.discard := laws_atStart rfl rfl (chan_discard s) rfl

theorem chan_enterWarning (s : State) (c : Chan) :
    s.enterWarning.chan c = { s.chan c with
      debounceTimer := none, senseGrace := none, shedRest := none, pre := false, main := false } := by
  simp [enterWarning, chan]

theorem enterWarning_not_live (s : State) : s.enterWarning.live = false := by simp [live, enterWarning]

theorem laws_enterWarning {s : State} (h : ChannelLaws s) : ChannelLaws s.enterWarning := by
  obtain ⟨hform, htr, -, hfresh⟩ := (channelLaws_iff s).mp h
  refine (channelLaws_iff _).mpr ⟨?_, htr, fun hl => ?_, fun hl c => ?_⟩
  · exact hform.silenced (fun c => by rw [chan_enterWarning]; exact ⟨rfl, rfl, rfl, rfl⟩) ⟨rfl, rfl, rfl, rfl, rfl⟩
  · rw [enterWarning_not_live] at hl
    cases hl
  · rw [chan_enterWarning, hfresh hl]
    rfl

/-- Nothing that the laws read is changed. -/
theorem laws_of_eq {s t : State} (h : ChannelLaws s) (hq : t.queue = s.queue) (he : t.engine = s.engine)
    (hc : t.channels = s.channels) (hb : t.bus = s.bus) (hm : t.member.state = s.member.state)
    (hp : t.power.phase = s.power.phase) (hw : t.power.warning = s.power.warning) : ChannelLaws t := by
  obtain ⟨hform, htr, hcl, hfresh⟩ := (channelLaws_iff s).mp h
  have hop : t.operating = s.operating := by simp [operating, hp, hm]
  have hlive : t.live = s.live := by simp [live, hop, hw]
  refine (channelLaws_iff t).mpr ⟨hform.of_eq hc hq he, fun ht => ?_, fun hl => ?_, fun hl c => ?_⟩
  · rw [hb] at ht ⊢
    rw [hop]
    exact htr ht
  · exact (keepsClaim_of_eq hb he hc).held (hcl (hlive ▸ hl))
  · rw [chan_of_channels hc]
    exact hfresh (hm ▸ hl) c

theorem laws_sampleStraps {s : State} (h : ChannelLaws s) (straps : Addr) :
    ChannelLaws (s.sampleStraps straps) := by
  obtain ⟨hform, -⟩ := (channelLaws_iff s).mp h
  unfold sampleStraps
  dsimp only
  split
  · refine (channelLaws_iff _).mpr ⟨Form.haltLoading ?_ _, transmit_of_none rfl, fun _ => claimHeld_of_no_tx rfl, fun hl => ?_⟩
    · exact hform.of_eq rfl rfl rfl
    · cases hl
  · exact laws_of_eq h rfl rfl rfl rfl rfl rfl rfl

theorem laws_of_resets {s u : State} {c : Instr} (ha : s.Resets c u) (h : ChannelLaws s) : ChannelLaws u := by
  cases ha with
  | powerFail =>
    unfold failPower
    dsimp only
    split
    · exact laws_enterWarning (laws_of_eq h rfl rfl rfl rfl rfl rfl rfl)
    · exact laws_of_eq h rfl rfl rfl rfl rfl rfl rfl
  | vmainLost | powerUp | rstnLow => exact laws_discard _
  | suppliesLost => exact laws_atStart rfl rfl (fun c => Four.get_same _ c) rfl
  | retentionLost | rstnRelease => exact laws_of_eq h rfl rfl rfl rfl rfl rfl rfl
  | recover =>
    obtain ⟨hform, -, -, hfresh⟩ := (channelLaws_iff _).mp (laws_enterWarning h)
    exact (channelLaws_iff _).mpr ⟨hform.of_eq rfl rfl rfl, transmit_of_none rfl, fun _ => claimHeld_of_no_tx rfl, hfresh⟩
  | start straps =>
    refine laws_sampleStraps ?_ straps
    exact laws_atStart rfl rfl (chan_discard s) rfl

/-! ## The end of a step, and one millisecond -/

theorem laws_finish {u : State} (h : ChannelLaws u) : ChannelLaws u.finish := by
  obtain ⟨hform, htr, hcl, hfresh⟩ := (channelLaws_iff u).mp h
  have hop : u.finish.operating = u.operating := by simp [operating]
  cases hlive : u.live with
  | true =>
    obtain ⟨hline, hclaim⟩ := finish_held ((transmit_iff u).mp htr).1 (hcl hlive)
    refine (channelLaws_iff _).mpr ⟨hform.finish, (transmit_iff _).mpr ⟨hline, fun _ => ?_⟩, fun _ => hclaim, fun hl => ?_⟩
    · rw [hop]
      exact live_operating hlive
    · rw [show u.finish.member = u.member by simp] at hl
      have := operating_applies (live_operating hlive)
      rw [hl] at this
      cases this
  | false =>
    refine laws_of_eq h ?_ ?_ ?_ ?_ ?_ ?_ ?_ <;> rw [finish_of_not_live hlive] <;> simp

theorem laws_tick {s : State} (h : ChannelLaws s) : ChannelLaws s.tick := by
  obtain ⟨hform, htr, hcl, hfresh⟩ := (channelLaws_iff s).mp h
  obtain ⟨-, -, hpow, -, -, hbus, -, -, -, -, hstate, -, -, -, hstamp, -⟩ := tick_keeps s
  have hkeys : s.tick.queue.entries.map QueueEntry.key = s.queue.entries.map QueueEntry.key := by
    unfold tick
    repeat' split
    all_goals simp [tickStation, tickLive, tickHalted, QueueEntry.tick, QueueEntry.key, Function.comp_def]
  have hrun : s.tick.engine.running.map (·.ch) = s.engine.running.map (·.ch) ∧ s.tick.engine.waiting = s.engine.waiting
      ∧ s.tick.engine.stack = s.engine.stack := by
    unfold tick
    repeat' split
    all_goals simp [tickStation, tickLive, tickHalted, RunSlot.tick, Function.comp_def]
  obtain ⟨hrun, hwait, hstack⟩ := hrun
  have hcore (c : Chan) : (s.tick.chan c).core = (s.chan c).core := by rw [chan_tick]; rfl
  have hop : s.tick.operating = s.operating := by rw [operating, operating, hpow, hstate]
  have hlive : s.tick.live = s.live := by rw [live, live, hop, hpow]
  refine (channelLaws_iff _).mpr ⟨hform.congr ⟨⟨hkeys, hstamp, hrun, hwait, by rw [hstack]⟩, hcore⟩, fun ht => ?_, fun hl => ?_,
    fun hl c => ?_⟩
  · rw [hbus] at ht ⊢
    rw [hop]
    exact htr ht
  · refine keepsClaim.held (keepsClaim_of_core (by rw [hbus]) (by rw [hwait]; exact id) fun d _ hd => ?_) (hcl (hlive ▸ hl))
    rw [((core_iff _ _).mp (hcore d)).1]
    exact hd
  · rw [hstate] at hl
    have hno : s.live = false := live_of_not_operating (by simp [operating, hl, MState.applies])
    have hch : s.tick.channels = s.channels := by
      unfold tick
      repeat' split
      all_goals simp_all [tickStation]
    rw [chan_of_channels hch]
    exact hfresh hl c

theorem laws_of_exec {c : Instr} {s t : State} (hx : exec c s = .next t) (h : ChannelLaws s) : ChannelLaws t := by
  cases hr : resets c with
  | false =>
    cases runs_of_exec hx hr with
    | nothing => exact h
    | pinTaken => exact laws_of_eq h rfl rfl rfl rfl rfl rfl rfl
    | acts ha => exact laws_finish (laws_of_acts ha h)
  | true =>
    cases resetRuns_of_exec hx hr with
    | nothing => exact h
    | unpowered => exact laws_of_eq h rfl rfl rfl rfl rfl rfl rfl
    | acts ha => exact laws_finish (laws_of_resets ha h)

end State

/-- Settles O60: each operation keeps the laws of queue, engine and outputs with the starts it moves taken to be in flight; own
frames act only where the channel of a CLAIM is CLAIMING; and the selector begins a CLAIM only of a CLAIMING head. -/
theorem stepKeepsTheChannelLaws : Obligations.StepKeepsTheChannelLaws := by
  intro s t h hstep
  rcases step_cases hstep with ⟨c, rest, -, hx⟩ | ⟨-, rfl⟩
  · refine State.laws_of_exec hx ?_
    exact State.laws_of_eq h rfl rfl rfl rfl rfl rfl rfl
  · exact State.laws_tick h

end Sys2Proof.Machine
end

section
/-!
A taken frame from its acceptance to the end of its step: what the statements about single frames read of it.
-/

namespace Sys2Proof.Machine

open Sys2Proof

namespace State

/-! ## The hearing of a frame -/

theorem heard_of_own {s : State} {x : TxFrame} (h : s.bus.tx = some x) (rx : Rx) (f : Frame) :
    s.heard rx f = s.clearTx.ownAccepted rx.acked := by
  simp [heard, h]

theorem heard_of_other {s : State} (h : s.bus.tx = none) (rx : Rx) (f : Frame) :
    s.heard rx f = s.hearPeer rx.sender (isHello f) := by
  simp [heard, h]

/-- An accepted frame of a peer moves the membership from ISOLATED to SYNCING and no other way (R144). -/
theorem hearPeer_state (s : State) (a : Addr) (hello : Bool) :
    (s.hearPeer a hello).member.state = if s.member.state = .isolated then .syncing else s.member.state := by
  rw [hearPeer_eq]
  dsimp only
  have hstate : ∀ u : State, u.member.state = s.member.state →
      (if u.member.state = .isolated then u.enterSyncing .all else u).member.state
        = if s.member.state = .isolated then .syncing else s.member.state := by
    intro u hu
    rw [hu]
    split
    · exact enterSyncing_state _ _
    · exact hu
  split
  · exact hstate _ rfl
  · exact hstate _ (peerJoins_state _ _ _)

@[simp] theorem hearPeer_live (s : State) (a : Addr) (hello : Bool) : (s.hearPeer a hello).live = s.live := by
  simp only [live, operating, hearPeer_keeps, hearPeer_state]
  split
  · next h => rw [h]; rfl
  · rfl

/-- The hearing of a frame leaves frames applied and channels acting. -/
@[simp] theorem heard_live (s : State) (rx : Rx) (f : Frame) : (s.heard rx f).live = s.live := by
  cases h : s.bus.tx with
  | some x => exact heard_live_of_own rx f h
  | none => rw [heard_of_other h, hearPeer_live]

theorem chan_heard (s : State) (rx : Rx) (f : Frame) (c : Chan) : (s.heard rx f).chan c = s.chan c :=
  chan_of_channels (by simp) c

@[simp] theorem heard_own (s : State) (rx : Rx) (f : Frame) : (s.heard rx f).own = s.own := by simp [own]

theorem heard_cfg (s : State) (rx : Rx) (f : Frame) (c : Chan) : (s.heard rx f).cfg c = s.cfg c := by simp [cfg, image]

theorem heard_namedEntry (s : State) (rx : Rx) (f : Frame) (a : Addr) (c : Chan) (q : Seq) :
    (s.heard rx f).namedEntry a c q = s.namedEntry a c q := by
  simp [namedEntry]

/-- The outcome of a taken frame other than the tool's INQUIRE. -/
theorem exec_taken {c : Instr} {rx : Rx} {f : Frame} {body : Option TxFrame → State → State} {s : State}
    (hc : frameBody c = some (rx, f, body)) (h : s.takes rx f = true) (hf : f.isInquire = false) :
    exec c s = .next (body s.bus.tx (s.heard rx f)).frameEnds.finish := by
  have hrec := receive_of_takes body h hf
  cases c <;> cases hc <;> exact congrArg Host.Outcome.next hrec

/-! ## The end of the step -/

/-- Records of a channel that are the same but for an offer stay so under a change of other fields than the state. -/
theorem sameButOffer_map {a b : Channel} (g : Channel → Channel) (hst : ∀ k, (g k).state = k.state)
    (hg : ∀ k st, g { k with state := st } = { g k with state := st }) (h : sameButOffer a b) :
    sameButOffer (g a) (g b) := by
  rcases h with rfl | ⟨ha, hb, he⟩
  · exact Or.inl rfl
  · exact Or.inr ⟨by rw [hst]; exact ha, by rw [hst]; exact hb, by rw [← hg, ← hg, he]⟩

/-- A channel that was in no queue state is the same after an offer. -/
theorem eq_of_sameButOffer {a b : Channel} (h : sameButOffer a b) (hb : ¬inQueue b.state) : a = b := by
  rcases h with h | ⟨-, hq, -⟩
  · exact h
  · exact absurd hq hb

/-- An offer keeps everything but the state of a channel. -/
theorem fields_of_sameButOffer {a b : Channel} (h : sameButOffer a b) :
    a.latch = b.latch ∧ a.mark = b.mark ∧ a.release = b.release ∧ a.settleWithdrawn = b.settleWithdrawn ∧ a.seq = b.seq
      ∧ a.renewals = b.renewals ∧ a.debounced = b.debounced ∧ a.debounceTimer = b.debounceTimer
      ∧ a.senseGrace = b.senseGrace ∧ a.shedRest = b.shedRest ∧ a.pre = b.pre ∧ a.main = b.main := by
  rcases h with rfl | ⟨-, -, he⟩
  · simp
  · simpa using he

/-- A channel in a queue state stays in one. -/
theorem inQueue_of_sameButOffer {a b : Channel} (h : sameButOffer a b) (hb : inQueue b.state) : inQueue a.state := by
  rcases h with rfl | ⟨ha, -, -⟩
  · exact hb
  · exact ha

theorem chan_frameEnds (s : State) (c : Chan) : s.frameEnds.chan c = s.chan c := rfl

/-- What a frame's end and the step's end may change in a channel. -/
theorem sameButOffer_frameEnds_finish (s : State) (c : Chan) : sameButOffer (s.frameEnds.finish.chan c) (s.chan c) :=
  finish_same s.frameEnds c

/-- A frame whose own effects keep the channels changes none but for an offer. -/
theorem sameButOffer_taken {s u v : State} (hu : u.channels = s.channels) (hv : v.channels = u.channels) (c : Chan) :
    sameButOffer (v.frameEnds.finish.chan c) (s.chan c) := by
  have h := sameButOffer_frameEnds_finish v c
  rwa [chan_of_channels (hv.trans hu)] at h

/-- A frame whose effects keep what is local changes nothing local but for an offer. -/
theorem sameLocal_taken {s v : State} (h : sameLocal s v) : sameLocal s v.frameEnds.finish :=
  sameLocal_trans h v.frameEnds_finish_sameLocal

end State

end Sys2Proof.Machine
end

section
/-!
The Start Table and Draw Table frames SETTLED, ABANDONED, STOPPED and EXPIRE (R22-R25, R31).
-/

namespace Sys2Proof.Machine

open Sys2Proof

namespace State

/-! ## The tables after the frame -/

theorem dropNamed_starts (s : State) (a : Addr) (c : Chan) (q : Seq) :
    (s.dropNamed a c q).starts = s.starts.filter fun x => !x.isNamed a c q := by
  unfold dropNamed
  split
  · rfl
  · next h =>
    refine (List.filter_eq_self.mpr fun e he => ?_).symm
    have hnone := List.find?_eq_none.mp h e he
    simpa using hnone

theorem slotStopped_draws (s : State) (a : Addr) (c : Chan) :
    (s.slotStopped a c).draws = s.draws.filter fun kv => kv.1 ≠ slotNo a c := by
  unfold slotStopped
  split
  · rfl
  · next h =>
    refine (List.filter_eq_self.mpr fun kv hkv => ?_).symm
    have hnone := (slotGet_eq_none s.draws (slotNo a c)).mp h
    simpa using fun he => hnone (List.mem_map.mpr ⟨kv, hkv, he⟩)

theorem settledMoved_of_named {s : State} {a : Addr} {p : SettledPayload} {e : StartEntry}
    (h : s.namedEntry a p.ch p.seq = some e) :
    (s.settledMoved a p).starts = s.starts.filter (fun x => !x.isNamed a p.ch p.seq)
      ∧ (s.settledMoved a p).draws = slotPut s.draws (slotNo a p.ch) (settledSlot e) := by
  simp only [settledMoved, h]
  exact ⟨rfl, rfl⟩

theorem settledMoved_of_none {s : State} {a : Addr} {p : SettledPayload} (h : s.namedEntry a p.ch p.seq = none) :
    s.settledMoved a p = s := by
  simp only [settledMoved, h]

/-! ## The own part of a frame -/

theorem atOwner_none (u : State) (f : State → State) : u.atOwner none f = u := rfl

theorem atOwner_some {u : State} (x : TxFrame) (f : State → State) (h : u.live = true) : u.atOwner (some x) f = f u :=
  if_pos h

/-- The own part of a frame leaves the tables where it does nothing to them while it acts. -/
theorem atOwner_tables (u : State) (own : Option TxFrame) {f : State → State}
    (h : (f u).starts = u.starts ∧ (f u).draws = u.draws) :
    (u.atOwner own f).starts = u.starts ∧ (u.atOwner own f).draws = u.draws := by
  cases own with
  | none => exact ⟨rfl, rfl⟩
  | some x =>
    unfold atOwner
    dsimp only
    split
    · exact h
    · exact ⟨rfl, rfl⟩

theorem live_of_keeps {s t : State} (hp : t.power = s.power) (hm : t.member.state = s.member.state) : t.live = s.live := by
  simp only [live, operating, hp, hm]

/-- The clearing of a pending release changes no other field of a channel. -/
theorem clearRelease_sameButOffer {s v : State} {c : Chan} (hv : ∀ d, v.chan d = s.chan d) (d : Chan) :
    ((v.clearRelease c).frameEnds.finish.chan c).release = .none
      ∧ sameButOffer { (v.clearRelease c).frameEnds.finish.chan d with release := (s.chan d).release } (s.chan d)
      ∧ (d ≠ c → ((v.clearRelease c).frameEnds.finish.chan d).release = (s.chan d).release) := by
  have hend := sameButOffer_frameEnds_finish (v.clearRelease c)
  have hself : ((v.clearRelease c).chan c).release = .none := by rw [chan_clearRelease, if_pos rfl]
  have hrest : ∀ e, { (v.clearRelease c).chan e with release := (s.chan e).release } = s.chan e := by
    intro e
    rw [chan_clearRelease, hv, hv]
    split
    · next he => rw [he]
    · rfl
  refine ⟨?_, ?_, fun hd => ?_⟩
  · obtain ⟨-, -, hrelease, -⟩ := fields_of_sameButOffer (hend c)
    rw [hrelease, hself]
  · have h := sameButOffer_map (fun k => { k with release := (s.chan d).release }) (fun _ => rfl) (fun _ _ => rfl) (hend d)
    rwa [hrest] at h
  · obtain ⟨-, -, hrelease, -⟩ := fields_of_sameButOffer (hend d)
    rw [hrelease, chan_clearRelease, if_neg hd, hv]

/-! ## SETTLED at its channel -/

/-- The record of a channel that enters ON (R75, R79). -/
theorem chan_enterOn (s : State) (c d : Chan) :
    (s.enterOn c).chan d =
      if d = c then
        { s.chan c with
          release := .none, state := .on, mark := false,
          senseGrace := if (s.cfg c).senseRequired && !s.pins.sense.get c then some ((s.cfg c).senseGrace * 10)
            else (s.chan c).senseGrace }
      else s.chan d := by
  unfold enterOn
  have hcfg : (((s.clearRelease c).enter c .on).clearMark c).cfg c = s.cfg c := by simp [cfg, image]
  have hpins : (((s.clearRelease c).enter c .on).clearMark c).pins = s.pins := by simp
  have hchan : (((s.clearRelease c).enter c .on).clearMark c).chan d =
      if d = c then { s.chan c with release := .none, state := .on, mark := false } else s.chan d := by
    simp only [chan_clearMark, chan_enter, chan_clearRelease]
    split <;> simp_all
  dsimp only
  rw [hcfg, hpins]
  by_cases hd : d = c
  · subst hd
    rw [if_pos rfl] at hchan
    split
    · next hgrace => rw [chan_modChan, if_pos rfl, hchan, if_pos rfl]
    · rw [hchan, if_pos rfl]
  · rw [if_neg hd] at hchan
    rw [if_neg hd]
    split
    · rw [chan_modChan, if_neg hd, hchan]
    · exact hchan

theorem ownSettled_of_withdrawn {s : State} {c : Chan} (h : (s.chan c).settleWithdrawn = true) :
    s.ownSettled c = s.replaceSettled c (.stopped .requestOff) := by
  simp [ownSettled, h]

theorem ownSettled_of_settling {s : State} {c : Chan} (h : (s.chan c).settleWithdrawn = false)
    (hst : (s.chan c).state = .settling) : s.ownSettled c = s.enterOn c := by
  simp [ownSettled, h, hst]

theorem chan_ownSettled_other (s : State) {c d : Chan} (h : d ≠ c) : (s.ownSettled c).chan d = s.chan d := by
  unfold ownSettled
  split
  · rw [chan_replaceSettled, if_neg h]
  · split
    · rw [chan_enterOn, if_neg h]
    · rw [chan_clearRelease, if_neg h]

/-- The taking back of a settle replaces the pending release and clears the mark. -/
theorem replaceSettled_sameButOffer {s v : State} {c : Chan} (r : Release) (hv : v.chan c = s.chan c)
    (hback : (s.chan c).settleWithdrawn = true) {t : Channel} (ht : sameButOffer t ((v.replaceSettled c r).chan c)) :
    t.release = r ∧ t.settleWithdrawn = false
      ∧ sameButOffer { t with release := (s.chan c).release, settleWithdrawn := true } (s.chan c) := by
  rw [chan_replaceSettled, if_pos rfl, hv] at ht
  obtain ⟨-, -, hrelease, hmark, -⟩ := fields_of_sameButOffer ht
  refine ⟨hrelease, hmark, ?_⟩
  have h := sameButOffer_map (fun k => { k with release := (s.chan c).release, settleWithdrawn := true }) (fun _ => rfl)
    (fun _ _ => rfl) ht
  have hid : { s.chan c with settleWithdrawn := true } = s.chan c := by rw [← hback]
  exact hid ▸ h

end State

open State

/-- Settles O11: the entry moves to its pair's slot at every station; at the owner the three branches of an own SETTLED. -/
theorem settledMovesTheEntry : Obligations.SettledMovesTheEntry := by
  refine ⟨fun rx p s htakes => ?_, fun rx p s hown hlive => ?_⟩
  · refine ⟨_, exec_taken rfl htakes rfl, fun e he => ?_, fun hnone => ?_, fun hother => ?_⟩
    all_goals rw [applySettled_atOwner]
    all_goals
      obtain ⟨hownStarts, hownDraws⟩ := atOwner_tables ((s.heard rx (.settled p)).settledMoved rx.sender p) s.bus.tx
        (f := fun u => u.ownSettled p.ch) (by simp)
    · obtain ⟨hstarts, hdraws⟩ := settledMoved_of_named (s := s.heard rx (.settled p)) (by rwa [heard_namedEntry])
      rw [hstarts] at hownStarts
      rw [hdraws] at hownDraws
      exact ⟨by simp [hownStarts], by simp [hownDraws, settledSlot]⟩
    · have hmoved := settledMoved_of_none (s := s.heard rx (.settled p)) (a := rx.sender) (by rwa [heard_namedEntry])
      rw [hmoved] at hownStarts hownDraws ⊢
      exact ⟨by simp [hownStarts], by simp [hownDraws]⟩
    · rw [(takes_of_takesOther hother).2, atOwner_none]
      exact sameLocal_taken (sameLocal_of_keeps (by simp) (by simp))
  · obtain ⟨htakes, x, hx⟩ := takes_of_takesOwn hown
    refine ⟨_, exec_taken rfl htakes rfl, ?_⟩
    generalize hv : (s.heard rx (.settled p)).settledMoved rx.sender p = v
    have hvlive : v.live = true := by
      rw [← hlive, ← heard_live s rx (.settled p), ← hv]
      exact live_of_keeps (by simp) (by simp)
    have hvchan : ∀ c, v.chan c = s.chan c := chan_of_channels (by simp [← hv])
    have hvcfg : v.cfg p.ch = s.cfg p.ch := by simp [← hv, cfg, image]
    have hvpins : v.pins = s.pins := by simp [← hv]
    have hvengine : v.engine = s.engine := by simp [← hv]
    rw [hx, applySettled_atOwner, hv, atOwner_some x _ hvlive]
    have hend := sameButOffer_frameEnds_finish (v.ownSettled p.ch)
    refine ⟨by simp [hvengine], fun c hc => ?_, fun hback hst => ?_, fun hback => ?_⟩
    · have h := hend c
      rwa [chan_ownSettled_other v hc, hvchan] at h
    · have h := hend p.ch
      rw [ownSettled_of_settling (by rwa [hvchan]) (by rwa [hvchan]), chan_enterOn, if_pos rfl, hvchan, hvcfg, hvpins] at h
      have ht := eq_of_sameButOffer h (by simp [inQueue])
      rw [ownSettled_of_settling (by rwa [hvchan]) (by rwa [hvchan]), ht]
      exact ⟨rfl, rfl, rfl, rfl, rfl, fun hreq hsense => by simp [hreq, hsense]⟩
    · have h := hend p.ch
      rw [ownSettled_of_withdrawn (by rwa [hvchan])] at h ⊢
      exact replaceSettled_sameButOffer _ (hvchan p.ch) hback h

/-- Settles O12: each frame takes one entry or slot from the tables, and at its sender the pending release is cleared. -/
theorem abandonedAndStoppedReleaseThePair : Obligations.AbandonedAndStoppedReleaseThePair := by
  refine ⟨fun rx p s htakes => ⟨_, exec_taken rfl htakes rfl, ?_⟩, fun rx p s htakes => ⟨_, exec_taken rfl htakes rfl, ?_⟩⟩
  · rw [applyAbandoned_atOwner]
    have htab := atOwner_tables ((s.heard rx (.abandoned p)).dropNamed rx.sender p.ch p.seq) s.bus.tx
      (f := fun u => u.clearRelease p.ch) (by simp)
    refine ⟨?_, ?_, fun hother => ?_, fun hown hlive => ?_⟩
    · simp [htab.1, dropNamed_starts]
    · simp [htab.2]
    · rw [(takes_of_takesOther hother).2, atOwner_none]
      exact sameLocal_taken (sameLocal_of_keeps (by simp) (by simp))
    · obtain ⟨-, x, hx⟩ := takes_of_takesOwn hown
      generalize hv : (s.heard rx (.abandoned p)).dropNamed rx.sender p.ch p.seq = v
      have hvlive : v.live = true := by
        rw [← hlive, ← heard_live s rx (.abandoned p), ← hv]
        exact live_of_keeps (by simp) (by simp)
      have hvchan : ∀ c, v.chan c = s.chan c := chan_of_channels (by simp [← hv])
      have hvengine : v.engine = s.engine := by simp [← hv]
      rw [hx, atOwner_some x _ hvlive]
      have hclear := clearRelease_sameButOffer (c := p.ch) hvchan
      exact ⟨(hclear p.ch).1, by simp [hvengine], fun c => (hclear c).2⟩
  · rw [applyStopped_atOwner]
    have htab := atOwner_tables ((s.heard rx (.stopped p)).slotStopped rx.sender p.ch) s.bus.tx
      (f := fun u => u.clearRelease p.ch) (by simp)
    refine ⟨?_, ?_, fun hother => ?_, fun hown hlive => ?_⟩
    · simp [htab.2, slotStopped_draws]
    · simp [htab.1]
    · rw [(takes_of_takesOther hother).2, atOwner_none]
      exact sameLocal_taken (sameLocal_of_keeps (by simp) (by simp))
    · obtain ⟨-, x, hx⟩ := takes_of_takesOwn hown
      generalize hv : (s.heard rx (.stopped p)).slotStopped rx.sender p.ch = v
      have hvlive : v.live = true := by
        rw [← hlive, ← heard_live s rx (.stopped p), ← hv]
        exact live_of_keeps (by simp) (by simp)
      have hvchan : ∀ c, v.chan c = s.chan c := chan_of_channels (by simp [← hv])
      have hvengine : v.engine = s.engine := by simp [← hv]
      rw [hx, atOwner_some x _ hvlive]
      have hclear := clearRelease_sameButOffer (c := p.ch) hvchan
      exact ⟨(hclear p.ch).1, by simp [hvengine], fun c => (hclear c).2⟩

/-- Settles O13: only the entry's removal touches the tables, and without an own entry removed nothing else is done. -/
theorem expireRemovesTheEntry : Obligations.ExpireRemovesTheEntry := by
  intro rx p s htakes
  refine ⟨_, exec_taken rfl htakes rfl, ?_, ?_, fun hother hnot => ?_⟩
  · rw [applyExpire_eq]
    split <;> simp [dropNamed_starts]
  · rw [applyExpire_eq]
    split <;> simp
  · rw [applyExpire_eq, if_neg]
    · exact sameLocal_taken (sameLocal_of_keeps (by simp) (by simp))
    · rw [heard_namedEntry, heard_own]
      rintro ⟨hsome, hown, -⟩
      rcases hnot with h | h
      · exact h hown
      · simp [h] at hsome

end Sys2Proof.Machine
end

section
/-!
The roster under the updates of every listed slot and under the moves of the membership (R131, R137, R143-R145).
-/

namespace Sys2Proof.Machine

open Sys2Proof

/-- A record that a filter keeps is still the one listed for its number. -/
theorem slotGet_filter_of_get {α : Type} {t : List (Nat × α)} {n : Nat} {x : α} (p : Nat × α → Bool)
    (h : slotGet t n = some x) (hp : p (n, x) = true) : slotGet (t.filter p) n = some x := by
  induction t with
  | nil => cases h
  | cons kv t ih =>
    obtain ⟨k, v⟩ := kv
    by_cases hk : k = n
    · subst hk
      simp only [slotGet, if_true, Option.some.injEq] at h
      subst h
      simp [hp, slotGet]
    · simp only [slotGet, if_neg hk] at h
      by_cases hkeep : p (k, v) = true
      · simp [hkeep, slotGet, hk, ih h]
      · simp [hkeep, ih h]

/-- In a table whose numbers rise, a listed record is the one read for its number. -/
theorem slotGet_of_mem {α : Type} {t : List (Nat × α)} (h : slotsRise t = true) {kv : Nat × α} (hkv : kv ∈ t) :
    slotGet t kv.1 = some kv.2 := by
  rw [slotsRise_iff] at h
  induction t with
  | nil => cases hkv
  | cons a t ih =>
    obtain ⟨hhead, htail⟩ := List.pairwise_cons.mp h
    rcases List.mem_cons.mp hkv with rfl | hmem
    · simp [slotGet]
    · have hne : a.1 ≠ kv.1 := (hhead kv.1 (List.mem_map_of_mem hmem)).ne
      simp only [slotGet, if_neg hne, ih htail hmem]

namespace State

/-! ## Slots of the roster -/

theorem peer_of_roster {s t : State} (h : t.member.roster = s.member.roster) (a : Addr) : t.peer a = s.peer a := by
  simp only [peer, h]

theorem peer_notify (s : State) (a : Addr) : s.notify.peer a = s.peer a := rfl

/-- A slot that does not read as at start is listed. -/
theorem listed_of_peer {s : State} {a : Addr} (h : s.peer a ≠ RosterSlot.atStart) :
    slotGet s.member.roster a.val = some (s.peer a) := by
  cases hget : slotGet s.member.roster a.val with
  | none => simp [peer, hget] at h
  | some x => simp [peer, hget]

/-- A listed slot after a rewriting of every slot that leaves it listed. -/
theorem peer_mapPeers {s : State} {a : Addr} {f : Nat → RosterSlot → RosterSlot} (h : s.peer a ≠ RosterSlot.atStart)
    (hf : f a.val (s.peer a) ≠ RosterSlot.atStart) : (s.mapPeers f).peer a = f a.val (s.peer a) := by
  have hmap : slotGet (slotMap f s.member.roster) a.val = some (f a.val (s.peer a)) := by
    rw [slotGet_slotMap, listed_of_peer h]
    rfl
  have hget := slotGet_filter_of_get (fun kv => decide (kv.2 ≠ RosterSlot.atStart)) hmap (by simpa using hf)
  have hread : (s.mapPeers f).peer a
      = (slotGet ((slotMap f s.member.roster).filter fun kv => decide (kv.2 ≠ RosterSlot.atStart)) a.val).getD
        RosterSlot.atStart := rfl
  rw [hread, hget]
  rfl

/-- In a canonical roster every slot, listed or not, is rewritten by a map that keeps the slot at start. -/
theorem peer_mapPeers_of_canonical {s : State} (h : TablesCanonical s) (a : Addr) {f : Nat → RosterSlot → RosterSlot}
    (hf : f a.val RosterSlot.atStart = RosterSlot.atStart) : (s.mapPeers f).peer a = f a.val (s.peer a) := by
  obtain ⟨-, hrise, -⟩ := h
  by_cases hne : f a.val (s.peer a) = RosterSlot.atStart
  · rw [hne]
    have hnone : slotGet (s.mapPeers f).member.roster a.val = none := by
      rw [slotGet_eq_none]
      intro hmem
      obtain ⟨kv, hkv, hk⟩ := List.mem_map.mp hmem
      obtain ⟨hkv, hkeep⟩ := List.mem_filter.mp hkv
      obtain ⟨x, hx, rfl⟩ := List.mem_map.mp hkv
      have hnum : x.1 = a.val := hk
      have hget : s.peer a = x.2 := by simp [peer, ← hnum, slotGet_of_mem hrise hx]
      simp only [decide_eq_true_eq] at hkeep
      exact hkeep (by rw [hnum, ← hget, hne])
    simp only [peer, hnone]
    rfl
  · refine peer_mapPeers (fun hstart => hne ?_) hne
    rw [hstart, hf]

/-! ## Doubts about absence (R145) -/

/-- A slot after a look for absentees: one PRESENT and silent for the absence time gets its mark. -/
def absentee (ms : Nat) (x : RosterSlot) : RosterSlot :=
  if x.state = .present ∧ 3 * ms ≤ x.lastHeard.getD 0 then { x with absentPending := true } else x

theorem absentee_ne_atStart {ms : Nat} {x : RosterSlot} (h : x ≠ RosterSlot.atStart) :
    absentee ms x ≠ RosterSlot.atStart := by
  unfold absentee
  split
  · next hx =>
    intro heq
    have := congrArg RosterSlot.state heq
    simp only [hx.1] at this
    cases this
  · exact h

theorem peer_markAbsentees {s : State} {a : Addr} (h : s.peer a ≠ RosterSlot.atStart) :
    s.markAbsentees.peer a = absentee s.presenceMs (s.peer a) :=
  peer_mapPeers h (absentee_ne_atStart h)

theorem peer_markAbsentees_of_canonical {s : State} (h : TablesCanonical s) (a : Addr) :
    s.markAbsentees.peer a = absentee s.presenceMs (s.peer a) :=
  peer_mapPeers_of_canonical h a (by simp [RosterSlot.atStart])

/-- How one slot may stand after a frame's common effects: its doubts only grow. -/
def slotGrows (ms : Nat) (x y : RosterSlot) : Prop :=
  y.state = x.state ∧ y.lastHeard = x.lastHeard ∧ (x.suspect = true → y.suspect = true)
    ∧ (y.absentPending = x.absentPending ∨ 3 * ms ≤ x.lastHeard.getD 0)

theorem slotGrows_refl (ms : Nat) (x : RosterSlot) : slotGrows ms x x := ⟨rfl, rfl, id, .inl rfl⟩

theorem slotGrows.trans {ms : Nat} {x y z : RosterSlot} (h : slotGrows ms x y) (k : slotGrows ms y z) : slotGrows ms x z := by
  obtain ⟨hstate, hheard, hsuspect, habsent⟩ := h
  obtain ⟨kstate, kheard, ksuspect, kabsent⟩ := k
  refine ⟨kstate.trans hstate, kheard.trans hheard, fun hx => ksuspect (hsuspect hx), ?_⟩
  rw [hheard] at kabsent
  rcases kabsent with k | k
  · rw [k]
    exact habsent
  · exact .inr k

theorem slotGrows_absentee (ms : Nat) (x : RosterSlot) : slotGrows ms x (absentee ms x) := by
  unfold absentee
  split
  · next h => exact ⟨rfl, rfl, id, .inr h.2⟩
  · exact slotGrows_refl ms x

/-! ## The moves of the membership -/

@[simp] theorem judgeDiscord_member (s : State) (a : Addr) :
    (s.judgeDiscord a).member = { s.member with discord := s.discordSeen } := by
  unfold judgeDiscord
  dsimp only
  split
  · next h => rw [h]
  · split <;> simp

@[simp] theorem judgeDiscord_loader (s : State) (a : Addr) : (s.judgeDiscord a).loader = s.loader := by simp

theorem presenceMs_of_loader {s t : State} (h : t.loader = s.loader) : t.presenceMs = s.presenceMs := by
  simp only [presenceMs, group, image, h]

theorem peer_enterSyncing {s : State} {a : Addr} (r : OwnRequest) (h : s.peer a ≠ RosterSlot.atStart) :
    (s.enterSyncing r).peer a = absentee s.presenceMs (s.peer a) := by
  have hpeer : (s.syncEntered r).peer a = s.peer a := peer_of_roster (by simp) a
  have hms : (s.syncEntered r).presenceMs = s.presenceMs := presenceMs_of_loader (by simp [syncEntered])
  rw [enterSyncing_eq, peer_markAbsentees (by rwa [hpeer]), hpeer, hms]

theorem peer_enterInStep {s : State} {a : Addr} (h : s.peer a ≠ RosterSlot.atStart) :
    s.enterInStep.peer a = absentee s.presenceMs (s.peer a) := by
  have hpeer : s.steppedIn.judgeSampling.peer a = s.peer a := peer_of_roster (by simp) a
  have hms : s.steppedIn.judgeSampling.presenceMs = s.presenceMs := presenceMs_of_loader (by simp [steppedIn])
  rw [enterInStep_eq, peer_of_roster (judgeIsolated_roster _), peer_markAbsentees (by rwa [hpeer]), hpeer, hms]

theorem judgeExit_of_not_leaving {s : State} (h : s.mayLeaveSyncing = false) : s.judgeExit = s := by
  simp [judgeExit, h]

theorem slotGrows_judgeExit {s : State} {a : Addr} (h : s.peer a ≠ RosterSlot.atStart) :
    slotGrows s.presenceMs (s.peer a) (s.judgeExit.peer a) := by
  unfold judgeExit
  split
  · rw [peer_enterInStep h]
    exact slotGrows_absentee _ _
  · exact slotGrows_refl _ _

/-! ## The hearing of a peer -/

/-- The slot of a peer just heard, before the membership moves (R131). -/
def heardSlot (s : State) (a : Addr) (hello : Bool) : RosterSlot :=
  let x : RosterSlot := { s.peer a with lastHeard := some 0, absentPending := false }
  if (s.peer a).state = .present ∨ hello = true then x
  else
    { x with
      state := .present
      suspect := x.suspect || decide ((s.peer a).state = .absent ∨ s.member.state.joinedUp = true) }

theorem heardSlot_ne_atStart (s : State) (a : Addr) (hello : Bool) : s.heardSlot a hello ≠ RosterSlot.atStart := by
  intro heq
  have := congrArg RosterSlot.lastHeard heq
  unfold heardSlot at this
  split at this <;> cases this

/-- The station after a peer was heard, before the membership moves. -/
def heardFrom (s : State) (a : Addr) (hello : Bool) : State :=
  if (s.peer a).state = .present ∨ hello = true then s.peerHeard a
  else (s.peerHeard a).peerJoins a (decide ((s.peer a).state = .absent ∨ s.member.state.joinedUp = true))

theorem hearPeer_heardFrom (s : State) (a : Addr) (hello : Bool) :
    s.hearPeer a hello =
      if (s.heardFrom a hello).member.state = .isolated then (s.heardFrom a hello).enterSyncing .all
      else s.heardFrom a hello := rfl

theorem peer_heardFrom_self (s : State) (a : Addr) (hello : Bool) :
    (s.heardFrom a hello).peer a = s.heardSlot a hello := by
  unfold heardFrom heardSlot
  dsimp only
  split
  · exact peer_modPeer_self s a _
  · rw [peerJoins, peer_of_roster (judgeDiscord_roster _ _), peer_notify, peer_modPeer_self, peerHeard, peer_modPeer_self]

theorem peer_heardFrom_other (s : State) {a b : Addr} (hello : Bool) (h : b ≠ a) :
    (s.heardFrom a hello).peer b = s.peer b := by
  unfold heardFrom
  split
  · exact peer_modPeer_other s a b _ h
  · rw [peerJoins, peer_of_roster (judgeDiscord_roster _ _), peer_notify, peer_modPeer_other _ _ _ _ h, peerHeard, peer_modPeer_other _ _ _ _ h]

theorem heardFrom_loader (s : State) (a : Addr) (hello : Bool) : (s.heardFrom a hello).loader = s.loader := by
  unfold heardFrom peerJoins peerHeard
  split <;> simp

theorem heardFrom_state (s : State) (a : Addr) (hello : Bool) : (s.heardFrom a hello).member.state = s.member.state := by
  unfold heardFrom
  split
  · rfl
  · exact peerJoins_state _ _ _

theorem slotGrows_hearPeer_self (s : State) (a : Addr) (hello : Bool) :
    slotGrows s.presenceMs (s.heardSlot a hello) ((s.hearPeer a hello).peer a) := by
  rw [hearPeer_heardFrom]
  split
  · rw [peer_enterSyncing _ (by rw [peer_heardFrom_self]; exact heardSlot_ne_atStart _ _ _), peer_heardFrom_self,
      presenceMs_of_loader (heardFrom_loader s a hello)]
    exact slotGrows_absentee _ _
  · rw [peer_heardFrom_self]
    exact slotGrows_refl _ _

/-- The hearing of a peer touches another listed slot at most by its absent-pending mark. -/
theorem peer_hearPeer_other (s : State) {a b : Addr} (hello : Bool) (h : b ≠ a) (hb : s.peer b ≠ RosterSlot.atStart) :
    (s.hearPeer a hello).peer b = if s.member.state = .isolated then absentee s.presenceMs (s.peer b) else s.peer b := by
  rw [hearPeer_heardFrom, heardFrom_state]
  split
  · rw [peer_enterSyncing _ (by rwa [peer_heardFrom_other s hello h]), peer_heardFrom_other s hello h,
      presenceMs_of_loader (heardFrom_loader s a hello)]
  · exact peer_heardFrom_other s hello h

/-- SYNCING with the own request for all not yet accepted (R143, R144). -/
def asksAll (s : State) : Prop :=
  s.member.state = .syncing ∧ s.member.ownRequest = some .all ∧ s.member.ownAccepted = false

theorem markAbsentees_member (s : State) :
    s.markAbsentees.member = { s.member with roster := s.markAbsentees.member.roster } := rfl

theorem enterSyncing_member (s : State) (r : OwnRequest) :
    (s.enterSyncing r).member =
      { s.member with
        state := .syncing
        roster := (s.enterSyncing r).member.roster
        listenWindow := none
        ownRequest := some (if s.member.ownRequest = some .all then .all else r)
        ownVoids := 0
        ownAccepted := false
        awaited := []
        syncTimeout := some (2 * s.presenceMs) } := by
  have hms : (s.setMState .syncing).presenceMs = s.presenceMs := presenceMs_of_loader (by simp)
  rw [enterSyncing_eq, markAbsentees_member]
  simp only [syncEntered, setMState_keeps, hms]

theorem judgeIsolated_member (s : State) :
    s.judgeIsolated.member =
      { s.member with
        state := if s.member.state = .inStep ∧ 3 ≤ s.bus.unackRun then .isolated else s.member.state } := by
  unfold judgeIsolated
  split <;> simp

/-- The membership past SYNCING: IN_STEP, or ISOLATED with three unacknowledged frames (section 8.9). -/
theorem enterInStep_member (s : State) :
    s.enterInStep.member =
      { s.member with
        state := if 3 ≤ s.bus.unackRun then .isolated else .inStep
        roster := s.enterInStep.member.roster
        syncTimeout := none
        listenWindow := none
        ownAccepted := false
        awaited := [] } := by
  have hroster : s.enterInStep.member.roster = s.steppedIn.judgeSampling.markAbsentees.member.roster := by
    rw [enterInStep_eq, judgeIsolated_roster]
  rw [hroster, enterInStep_eq, judgeIsolated_member, markAbsentees_member]
  simp [steppedIn]

theorem asksAll_enterSyncing (s : State) : (s.enterSyncing .all).asksAll := by
  unfold asksAll
  rw [enterSyncing_member]
  exact ⟨rfl, by simp, rfl⟩

theorem asksAll_hearPeer {s : State} (h : s.member.state = .isolated) (a : Addr) (hello : Bool) :
    (s.hearPeer a hello).asksAll := by
  rw [hearPeer_heardFrom, heardFrom_state, if_pos h]
  exact asksAll_enterSyncing _

theorem asksAll.not_leaving {s : State} (h : s.asksAll) : s.mayLeaveSyncing = false := by
  obtain ⟨-, -, haccepted⟩ := h
  simp [mayLeaveSyncing, haccepted]

theorem asksAll_of_eq {s t : State} (h : s.asksAll) (hst : t.member.state = s.member.state)
    (hr : t.member.ownRequest = s.member.ownRequest) (ha : t.member.ownAccepted = s.member.ownAccepted) : t.asksAll := by
  unfold asksAll
  rw [hst, hr, ha]
  exact h

end State
end Sys2Proof.Machine
end

section
/-!
The frames that move the membership, in stages, and what every accepted own frame does (R134, R155, R157, R159; O18).
-/

namespace Sys2Proof.Machine

open Sys2Proof

/-- The frames whose own effects reach the roster or the membership. -/
def movesMembers : Frame → Bool
  | .hello _ | .presence _ | .syncReq _ | .recount _ | .recountEnd _ | .absent _ => true
  | .claim _ | .renew _ | .settled _ | .abandoned _ | .stopped _ | .expire _ | .shedCall _ | .inquire _ | .answer _ => false

namespace State

/-! ## The stages -/

/-- A peer's HELLO before SYNCING is judged (R138). -/
def helloTaken (s : State) (a : Addr) (p : HelloPayload) : State :=
  let u := ((s.dropOwner a false).modPeer a (helloSlot p)).judgeDiscord a
  if ((s.dropOwner a false).peer a).state = .present then u else u.notify

theorem applyHello_peer (a : Addr) (p : HelloPayload) (s : State) :
    applyHello a p none s = (s.helloTaken a p).judgeExit := rfl

/-- The own HELLO: no candidate any more (R133). -/
def helloSent (s : State) (a : Addr) : State := { s.dropOwner a false with member.helloDue := false }

theorem applyHello_own (a : Addr) (p : HelloPayload) (x : TxFrame) (s : State) :
    applyHello a p (some x) s = s.helloSent a := rfl

/-- A peer's PRESENCE before the counts are compared (R135, R137). -/
def presenceTaken (s : State) (a : Addr) (p : PresencePayload) : State := (s.modPeer a (presenceSlot p)).judgeDiscord a

/-- The counts of a PRESENCE call for doubt (R135). -/
def presenceDiffers (s : State) (a : Addr) (p : PresencePayload) : Bool :=
  s.member.state.joinedUp && !(s.peer a).owed && !(s.peer a).suspect && s.countsDiffer a p

/-- A peer is in doubt. -/
def doubted (s : State) (a : Addr) : State := s.modPeer a fun x => { x with suspect := true }

theorem applyPresence_peer (a : Addr) (p : PresencePayload) (s : State) :
    applyPresence a p none s =
      if (s.presenceTaken a p).presenceDiffers a p then (s.presenceTaken a p).doubted a else s.presenceTaken a p := rfl

/-- A SYNC_REQ before SYNCING is judged: marks, rounds, and the own request's acceptance (R139, R143). -/
def syncReqTaken (s : State) (target : Addr) (own : Option TxFrame) : State :=
  let u := (s.markUnconfirmed target).markOwed target
  let v := if covers target u.own && u.member.state.joinedUp then u.beginRound else u
  if own.isSome && v.isOwnRequest target then v.requestAccepted target else v

theorem applySyncReq_eq (target : Addr) (own : Option TxFrame) (s : State) :
    applySyncReq target own s = if target = toolAddr then s else (s.syncReqTaken target own).judgeExit := rfl

/-- A RECOUNT_END before SYNCING is judged (R142). -/
def roundClosed (s : State) (a : Addr) (n : Fin 8) (own : Option TxFrame) : State :=
  match own with
  | some _ => { s.dropOwner a true with member.round.active := false }
  | none => (s.dropOwner a true).modPeer a (recountEndSlot n)

theorem applyRecountEnd_eq (a : Addr) (n : Fin 8) (own : Option TxFrame) (s : State) :
    applyRecountEnd a n own s = (s.roundClosed a n own).judgeExit := by cases own <;> rfl

/-- A peer's removal before SYNCING is judged (R146). -/
def peerRemoved (s : State) (a : Addr) : State := ((s.dropOwner a false).modPeer a absentSlot).judgeDiscord a

theorem peerAbsent_eq (s : State) (a : Addr) :
    s.peerAbsent a =
      if (s.peer a).state = .absent then s
      else if (s.peer a).state = .present then (s.peerRemoved a).judgeExit.notify else (s.peerRemoved a).judgeExit := rfl

/-- Judging SYNCING moves a station that is SYNCING or leaves it. -/
theorem judgeExit_of_not_syncing {s : State} (h : s.member.state ≠ .syncing) : s.judgeExit = s :=
  judgeExit_of_not_leaving (by simp [mayLeaveSyncing, h])

/-! ## The membership after a frame's effects -/

/-- The other frames leave roster and membership. -/
theorem member_frameBody {c : Instr} {rx : Rx} {f : Frame} {body : Option TxFrame → State → State}
    (hc : frameBody c = some (rx, f, body)) (hf : movesMembers f = false ∨ c = .toolFrameReject f)
    (own : Option TxFrame) (s : State) : (body own s).member = s.member := by
  cases c with
  | claim rx p =>
    cases hc
    rw [applyClaim_eq]
    cases own <;> dsimp only <;> repeat' split
    all_goals simp
  | renew rx p => cases hc; rw [applyRenew_eq]; split <;> simp
  | settled rx p =>
    cases hc
    rw [applySettled_atOwner]
    unfold atOwner
    repeat' split
    all_goals simp
  | abandoned rx p =>
    cases hc
    rw [applyAbandoned_atOwner]
    unfold atOwner
    repeat' split
    all_goals simp
  | expire rx p =>
    cases hc
    rw [applyExpire_eq]
    split <;> simp
  | stopped rx p =>
    cases hc
    rw [applyStopped_atOwner]
    unfold atOwner
    repeat' split
    all_goals simp
  | shedCall rx p =>
    cases hc
    rw [applyShedCall_eq]
    split <;> simp [shedCalled, slotsMarked, markSlots]
  | inquire rx p =>
    cases hc
    unfold applyInquire
    dsimp only
    repeat' split
    all_goals rfl
  | answer => cases hc; cases own <;> rfl
  | toolFrameReject => cases hc; rfl
  | hello | presence | syncReq | recount | recountEnd | absent =>
    cases hc
    rcases hf with hf | hf <;> cases hf
  | _ => cases hc

/-- A frame's effects at an ISOLATED station do not make it IN_STEP. -/
theorem isolated_frameBody {c : Instr} {rx : Rx} {f : Frame} {body : Option TxFrame → State → State}
    (hc : frameBody c = some (rx, f, body)) (own : Option TxFrame) {s : State} (h : s.member.state = .isolated) :
    (body own s).member.state ≠ .inStep := by
  have hkeep : ∀ u : State, u.member.state = s.member.state → u.judgeExit.member.state ≠ .inStep := by
    intro u hu
    rw [judgeExit_of_not_syncing (by simp [hu, h]), hu, h]
    decide
  have hstay : ∀ u : State, u.member.state = s.member.state → u.member.state ≠ .inStep := by
    intro u hu
    rw [hu, h]
    decide
  cases c with
  | hello rx p =>
    cases hc
    cases own with
    | some x => exact hstay _ (dropOwner_state s _ _)
    | none =>
      rw [applyHello_peer]
      refine hkeep _ ?_
      unfold helloTaken
      dsimp only
      split <;> simp
  | presence rx p =>
    cases hc
    cases own with
    | some x => exact hstay _ rfl
    | none =>
      rw [applyPresence_peer]
      refine hstay _ ?_
      split <;> simp [presenceTaken, doubted]
  | syncReq rx a =>
    cases hc
    rw [applySyncReq_eq]
    split
    · exact hstay _ rfl
    · refine hkeep _ ?_
      unfold syncReqTaken
      dsimp only
      repeat' split
      all_goals simp
  | recountEnd rx n =>
    cases hc
    rw [applyRecountEnd_eq]
    refine hkeep _ ?_
    cases own <;> simp [roundClosed]
  | absent rx a =>
    cases hc
    unfold applyAbsent
    split
    · exact hstay _ rfl
    · split
      · rw [selfAbsent_eq]
        dsimp only
        split
        · rw [enterSyncing_state]
          decide
        · refine hstay _ ?_
          unfold selfCleared
          dsimp only
          split <;> simp
      · rw [peerAbsent_eq]
        split
        · exact hstay _ rfl
        · have hremoved := hkeep (s.peerRemoved a) (by simp [peerRemoved])
          split <;> exact hremoved
  | recount rx p =>
    cases hc
    rw [applyRecount_eq]
    refine hstay _ ?_
    split
    · rcases recountDraw_cases (s.recountCounted rx.sender p.ch own) rx.sender p with heq | heq <;> rw [heq] <;> simp
    · simp
  | claim | renew | settled | abandoned | expire | stopped | shedCall | inquire | answer =>
    exact hstay _ (by rw [member_frameBody hc (.inl (by cases hc; rfl))])
  | toolFrameReject => exact hstay _ (by rw [member_frameBody hc (.inr (by cases hc; rfl))])
  | _ => cases hc

/-! ## The link after a frame's effects -/

/-- The counters of sent and unacknowledged frames, LINK_DEGRADED and the PRESENCE's timer and candidate stand. -/
def linkKept (s t : State) : Prop :=
  t.bus.counters.sent = s.bus.counters.sent ∧ t.bus.counters.unacked = s.bus.counters.unacked
    ∧ t.bus.unackRun = s.bus.unackRun ∧ t.bus.degraded = s.bus.degraded
    ∧ t.member.presenceTimer = s.member.presenceTimer ∧ t.member.presenceDue = s.member.presenceDue

theorem linkKept_of_core {s t : State} (hb : t.bus.core = s.bus.core)
    (hm : t.member.presenceTimer = s.member.presenceTimer ∧ t.member.presenceDue = s.member.presenceDue) :
    s.linkKept t := by
  obtain ⟨-, -, -, hcounters, hrun, hdegraded, -⟩ := Bus.of_core hb
  exact ⟨by rw [hcounters], by rw [hcounters], hrun, hdegraded, hm⟩

theorem linkKept.trans {s t u : State} (h : s.linkKept t) (k : t.linkKept u) : s.linkKept u := by
  obtain ⟨h1, h2, h3, h4, h5, h6⟩ := h
  obtain ⟨k1, k2, k3, k4, k5, k6⟩ := k
  exact ⟨k1.trans h1, k2.trans h2, k3.trans h3, k4.trans h4, k5.trans h5, k6.trans h6⟩

theorem linkKept_of_eq {s t : State} (hb : t.bus = s.bus) (hm : t.member = s.member) : s.linkKept t :=
  linkKept_of_core (by rw [hb]) (by rw [hm]; exact ⟨rfl, rfl⟩)

theorem linkKept_judgeExit (s : State) : s.linkKept s.judgeExit := by
  unfold judgeExit
  split
  · exact linkKept_of_core (by simp) (by rw [enterInStep_member]; exact ⟨rfl, rfl⟩)
  · exact linkKept_of_eq rfl rfl

theorem linkKept_tally {s : State} {f : LinkCounters → LinkCounters} (h : ∀ k, (f k).sent = k.sent ∧ (f k).unacked = k.unacked) :
    s.linkKept (s.tally f) := by
  obtain ⟨hsent, hunacked⟩ := h s.bus.counters
  exact ⟨hsent, hunacked, rfl, rfl, rfl, rfl⟩

theorem linkKept_claimVerdict (s : State) (t : TxFrame) (p : ClaimPayload) (v : Judgement) :
    s.linkKept (s.claimVerdict t p v) := by
  have hcounted : s.linkKept (s.verdictCounted v) := by
    unfold verdictCounted
    dsimp only
    split
    · exact linkKept_of_eq rfl rfl
    · exact linkKept_tally (s := { s with queue.claimSeq := s.queue.claimSeq + 1 }) fun _ => ⟨rfl, rfl⟩
  have hmember : ((s.verdictCounted v).verdictTaken t p v).member = (s.verdictCounted v).member := by
    unfold verdictTaken
    repeat' split
    all_goals simp
  rw [claimVerdict_eq]
  split
  · exact hcounted.trans (linkKept_of_core (by simp) (by rw [hmember]; exact ⟨rfl, rfl⟩))
  · exact hcounted

theorem linkKept_recountStart (s : State) (a : Addr) (p : RecountPayload) : s.linkKept (s.recountStart a p) := by
  have hrun (u : State) (hu : s.linkKept u) : s.linkKept (u.holdRecounted a p) := by
    unfold holdRecounted
    split
    · exact hu.trans (linkKept_of_core (by simp) (by simp))
    · exact hu
  rw [recountStart_eq]
  split
  · exact linkKept_of_eq rfl rfl
  · split
    · refine hrun _ ?_
      unfold recountReplaced
      split <;> exact linkKept_of_eq rfl rfl
    · split
      · exact hrun _ (linkKept_of_eq rfl rfl)
      · exact linkKept_tally fun _ => ⟨rfl, rfl⟩

/-- No frame's own effects reach what every accepted own frame writes. -/
theorem linkKept_frameBody {c : Instr} {rx : Rx} {f : Frame} {body : Option TxFrame → State → State}
    (hc : frameBody c = some (rx, f, body)) (own : Option TxFrame) (s : State) : s.linkKept (body own s) := by
  have hplain (hf : movesMembers f = false ∨ c = .toolFrameReject f) (hcore : (body own s).bus.core = s.bus.core) :
      s.linkKept (body own s) :=
    linkKept_of_core hcore (by rw [member_frameBody hc hf]; exact ⟨rfl, rfl⟩)
  cases c with
  | claim rx p =>
    cases hc
    have htab : s.linkKept (s.claimTabled rx.sender p) := linkKept_of_eq (by simp) (by simp)
    rw [applyClaim_eq]
    cases own with
    | none => dsimp only; split; exacts [linkKept_of_eq rfl rfl, htab]
    | some t =>
      dsimp only
      split
      · split
        · exact linkKept_of_eq (by simp) (by simp)
        · exact linkKept_of_eq rfl rfl
      · exact htab.trans (linkKept_claimVerdict _ _ _ _)
  | renew rx p =>
    cases hc
    refine hplain (.inl rfl) ?_
    rw [applyRenew_atOwner]
    exact atOwner_core _ own fun u => by simp
  | settled rx p =>
    cases hc
    refine hplain (.inl rfl) ?_
    rw [applySettled_atOwner]
    exact (atOwner_core _ own fun u => by simp).trans (by simp)
  | abandoned rx p =>
    cases hc
    refine hplain (.inl rfl) ?_
    rw [applyAbandoned_atOwner]
    exact (atOwner_core _ own fun u => by simp).trans (by simp)
  | stopped rx p =>
    cases hc
    refine hplain (.inl rfl) ?_
    rw [applyStopped_atOwner]
    exact (atOwner_core _ own fun u => by simp).trans (by simp)
  | expire rx p =>
    cases hc
    refine hplain (.inl rfl) ?_
    rw [applyExpire_eq]
    split <;> simp
  | shedCall rx p =>
    cases hc
    refine hplain (.inl rfl) ?_
    rw [applyShedCall_eq]
    split <;> simp [shedCalled, slotsMarked, markSlots]
  | answer => exact hplain (.inl (by cases hc; rfl)) (by cases hc; cases own <;> rfl)
  | toolFrameReject => exact hplain (.inr (by cases hc; rfl)) (by cases hc; rfl)
  | inquire rx p =>
    cases hc
    unfold applyInquire
    dsimp only
    split
    · split
      · exact linkKept_tally (s := s) fun _ => ⟨rfl, rfl⟩
      · exact linkKept_of_eq rfl rfl
    · exact linkKept_of_eq rfl rfl
  | hello rx p =>
    cases hc
    cases own with
    | some x => rw [applyHello_own]; exact linkKept_of_core (by simp [helloSent]) (by simp [helloSent])
    | none =>
      rw [applyHello_peer]
      refine linkKept.trans ?_ (linkKept_judgeExit _)
      unfold helloTaken
      dsimp only
      split <;> exact linkKept_of_core (by simp) (by simp)
  | presence rx p =>
    cases hc
    cases own with
    | some x => exact linkKept_of_eq rfl rfl
    | none =>
      rw [applyPresence_peer]
      split <;> exact linkKept_of_core (by simp [presenceTaken, doubted]) (by simp [presenceTaken, doubted])
  | syncReq rx a =>
    cases hc
    rw [applySyncReq_eq]
    split
    · exact linkKept_of_eq rfl rfl
    · refine linkKept.trans ?_ (linkKept_judgeExit _)
      unfold syncReqTaken
      dsimp only
      repeat' split
      all_goals exact linkKept_of_core (by simp) (by simp)
  | recount rx p =>
    cases hc
    have hcount : s.linkKept (s.recountCounted rx.sender p.ch own) := by
      refine linkKept_of_core (by simp) ?_
      unfold recountCounted countHeard
      cases own with
      | some x => exact ⟨rfl, rfl⟩
      | none =>
        dsimp only
        repeat' split
        all_goals exact ⟨rfl, rfl⟩
    rw [applyRecount_eq]
    refine hcount.trans ?_
    split
    · rcases recountDraw_cases (s.recountCounted rx.sender p.ch own) rx.sender p with heq | heq <;> rw [heq]
      all_goals exact linkKept_of_eq rfl rfl
    · exact linkKept_recountStart _ _ _
  | recountEnd rx n =>
    cases hc
    rw [applyRecountEnd_eq]
    refine linkKept.trans ?_ (linkKept_judgeExit _)
    cases own with
    | some x => exact linkKept_of_core (by simp [roundClosed]) (by simp [roundClosed])
    | none => exact linkKept_of_core (by simp [roundClosed]) (by simp [roundClosed])
  | absent rx a =>
    cases hc
    unfold applyAbsent
    split
    · exact linkKept_of_eq rfl rfl
    · split
      · refine linkKept_of_core (by simp) ?_
        rw [selfAbsent_eq]
        dsimp only
        split
        · rw [enterSyncing_member]
          simp
        · simp
      · have hremoved : s.linkKept (s.peerRemoved a).judgeExit :=
          (linkKept_of_core (t := s.peerRemoved a) (by simp [peerRemoved]) (by simp [peerRemoved])).trans (linkKept_judgeExit _)
        rw [peerAbsent_eq]
        split
        · exact linkKept_of_eq rfl rfl
        · split <;> exact hremoved
  | _ => cases hc

/-! ## The command of an accepted frame -/

/-- Every accepted frame but one that the tool may not send has its command's effects. -/
theorem frameBody_commandOf {rx : Rx} {f : Frame} (h : rx.sender ≠ toolAddr) :
    ∃ body, frameBody (commandOf rx f) = some (rx, f, body) := by
  unfold commandOf
  rw [if_neg fun hf => h hf.1]
  cases f <;> exact ⟨_, rfl⟩

/-- The outcome of an accepted own frame. -/
theorem exec_own {c : Instr} {rx : Rx} {f : Frame} {body : Option TxFrame → State → State} {s : State}
    (hc : frameBody c = some (rx, f, body)) (h : s.takesOwn rx f = true) :
    ∃ x, s.bus.tx = some x ∧ rx.sender = s.own
      ∧ exec c s = .next (body (some x) (s.clearTx.ownAccepted rx.acked)).frameEnds.finish := by
  obtain ⟨htakes, x, hx⟩ := takes_of_takesOwn h
  unfold takes at htakes
  simp only [hx, Bool.and_eq_true, decide_eq_true_eq] at htakes
  obtain ⟨hpart, hown, hf⟩ := htakes
  have hrec : s.receive rx f body = (body (some x) (s.clearTx.ownAccepted rx.acked)).frameEnds.finish := by
    simp [receive, applyFrame, takeLine, hpart, hx, hown, hf]
  refine ⟨x, hx, hown, ?_⟩
  cases c <;> cases hc <;> exact congrArg Host.Outcome.next hrec

theorem ownAccepted_acked (s : State) :
    (s.ownAccepted true).bus =
        { s.bus with
          counters := { s.bus.counters with sent := satSucc 65535 s.bus.counters.sent }, degraded := false, unackRun := 0 }
      ∧ (s.ownAccepted true).member = { s.member with presenceTimer := some s.presenceMs, presenceDue := false } :=
  ⟨rfl, rfl⟩

theorem ownAccepted_unacked (s : State) :
    (s.ownAccepted false).bus =
        { s.bus with
          counters :=
            { s.bus.counters with
              sent := satSucc 65535 s.bus.counters.sent, unacked := satSucc 65535 s.bus.counters.unacked }
          degraded := false, unackRun := satSucc 255 s.bus.unackRun }
      ∧ (s.ownAccepted false).member =
        { s.member with
          state := if s.member.state = .inStep ∧ 3 ≤ satSucc 255 s.bus.unackRun then .isolated else s.member.state
          presenceTimer := some s.presenceMs
          presenceDue := false } := by
  have h : s.ownAccepted false =
      ({ s with
        bus := { s.bus with
          counters :=
            { s.bus.counters with
              sent := satSucc 65535 s.bus.counters.sent, unacked := satSucc 65535 s.bus.counters.unacked }
          degraded := false, unackRun := satSucc 255 s.bus.unackRun }
        member := { s.member with presenceTimer := some s.presenceMs, presenceDue := false } } : State).judgeIsolated := rfl
  rw [h]
  exact ⟨by simp, judgeIsolated_member _⟩

end State

open State

/-- Settles O18: what an accepted own frame writes is written before the frame's own effects, which do not reach it; a third
frame in a row without acknowledgement makes the station ISOLATED, and no frame's effects make it IN_STEP again. -/
theorem everyOwnFrameAccepted : Obligations.EveryOwnFrameAccepted := by
  intro rx f s hown hnotTool
  have hsender : rx.sender = s.own := by
    obtain ⟨htakes, x, hx⟩ := takes_of_takesOwn hown
    unfold takes at htakes
    simp only [hx, Bool.and_eq_true, decide_eq_true_eq] at htakes
    exact htakes.2.1
  obtain ⟨body, hc⟩ := frameBody_commandOf (f := f) (hsender ▸ hnotTool)
  obtain ⟨x, hx, -, hexec⟩ := exec_own hc hown
  generalize hu : s.clearTx.ownAccepted rx.acked = u at hexec
  have hbus : (body (some x) u).frameEnds.finish.bus = (body (some x) u).frameEnds.bus := frameEnds_finish_bus _
  have hmember : (body (some x) u).frameEnds.finish.member = (body (some x) u).member := by simp
  obtain ⟨hsent, hunacked, hrun, hdegraded, htimer, hdue⟩ := linkKept_frameBody hc (some x) u
  have htx : u.bus.tx = none := by rw [← hu]; simp [ownAccepted_tx, clearTx]
  refine ⟨_, hexec, ?_⟩
  rw [hbus, hmember]
  simp only [frameEnds_keeps]
  rw [hsent, hunacked, hrun, hdegraded, htimer, hdue]
  refine ⟨tx_frameBody hc _ htx, ?_⟩
  cases hacked : rx.acked with
  | true =>
    obtain ⟨hubus, humember⟩ := ownAccepted_acked s.clearTx
    rw [hacked] at hu
    rw [hu] at hubus humember
    rw [hubus, humember]
    exact ⟨rfl, rfl, rfl, rfl, fun _ => ⟨rfl, rfl⟩, (by simp)⟩
  | false =>
    obtain ⟨hubus, humember⟩ := ownAccepted_unacked s.clearTx
    rw [hacked] at hu
    rw [hu] at hubus humember
    have hisolated : s.member.state = .inStep → 2 ≤ s.bus.unackRun → u.member.state = .isolated := by
      intro hstep hthird
      rw [humember]
      refine if_pos ⟨hstep, ?_⟩
      show 3 ≤ satSucc 255 s.bus.unackRun
      unfold satSucc
      split <;> omega
    refine ⟨by rw [hubus]; rfl, by rw [hubus], by rw [humember]; rfl, by rw [humember], (by simp), fun _ => ?_⟩
    exact ⟨by rw [hubus]; rfl, by rw [hubus]; rfl, fun hstep hthird => isolated_frameBody hc _ (hisolated hstep hthird)⟩

end Sys2Proof.Machine
end

section
/-!
What every accepted frame of a peer does to its sender's roster slot and to an ISOLATED station (R131, R144, R145; O19).
-/

namespace Sys2Proof.Machine

open Sys2Proof

namespace State

/-- The outcome of an accepted frame of a peer. -/
theorem exec_other {c : Instr} {rx : Rx} {f : Frame} {body : Option TxFrame → State → State} {s : State}
    (hc : frameBody c = some (rx, f, body)) (h : s.takesOther rx f = true) (htool : rx.sender ≠ toolAddr) :
    exec c s = .next (body none (s.hearPeer rx.sender (isHello f))).frameEnds.finish := by
  obtain ⟨htakes, hx⟩ := takes_of_takesOther h
  unfold takes at htakes
  simp only [hx, Bool.and_eq_true, decide_eq_true_eq] at htakes
  obtain ⟨hpart, ⟨hown, hzero⟩, -⟩ := htakes
  have hrec : s.receive rx f body = (body none (s.hearPeer rx.sender (isHello f))).frameEnds.finish := by
    simp [receive, applyFrame, takeLine, hpart, hx, hown, hzero, htool]
  cases c <;> cases hc <;> exact congrArg Host.Outcome.next hrec

theorem present_ne_atStart {x : RosterSlot} (h : x.state = .present) : x ≠ RosterSlot.atStart := by
  rintro rfl
  cases h

/-! ## One slot under the roster's updates -/

theorem slotGrows_of_eq {ms : Nat} {x y : RosterSlot} (hst : y.state = x.state) (hh : y.lastHeard = x.lastHeard)
    (hs : y.suspect = x.suspect) (ha : y.absentPending = x.absentPending) : slotGrows ms x y :=
  ⟨hst, hh, fun h => hs.trans h, .inl ha⟩

/-- The slot of a listed peer after a SYNC_REQ (R136; R139, steps 2 and 4). -/
def owedSlot (ms : Nat) (target : Addr) (n : Nat) (x : RosterSlot) : RosterSlot :=
  if target = 0 ∨ n = target.val then
    let x := if x.state = .present then { x with owed := true, heard := 0 } else x
    if x.suspect then { x with requestTimer := some ms, requestVoids := 0 } else x
  else x

theorem markOwed_eq (s : State) (target : Addr) : s.markOwed target = s.mapPeers (owedSlot s.presenceMs target) := rfl

theorem owedSlot_fields (ms : Nat) (target : Addr) (n : Nat) (x : RosterSlot) :
    (owedSlot ms target n x).state = x.state ∧ (owedSlot ms target n x).lastHeard = x.lastHeard
      ∧ (owedSlot ms target n x).suspect = x.suspect ∧ (owedSlot ms target n x).absentPending = x.absentPending := by
  unfold owedSlot
  dsimp only
  repeat' split
  all_goals exact ⟨rfl, rfl, rfl, rfl⟩

theorem owedSlot_ne_atStart {ms : Nat} {target : Addr} {n : Nat} {x : RosterSlot} (h : x.state = .present ∨ x.suspect = true) :
    owedSlot ms target n x ≠ RosterSlot.atStart := by
  obtain ⟨hst, -, hs, -⟩ := owedSlot_fields ms target n x
  intro heq
  rw [heq] at hst hs
  rcases h with h | h
  · rw [h] at hst
    cases hst
  · rw [h] at hs
    cases hs

theorem slot_of_suspect {x : RosterSlot} (h : x.state = .present ∨ x.suspect = true) : x ≠ RosterSlot.atStart := by
  rintro rfl
  rcases h with h | h <;> cases h

/-- A PRESENT or SUSPECT slot after a SYNC_REQ's marks. -/
theorem peer_markOwed {s : State} {a : Addr} (target : Addr) (h : (s.peer a).state = .present ∨ (s.peer a).suspect = true) :
    (s.markOwed target).peer a = owedSlot s.presenceMs target a.val (s.peer a) := by
  rw [markOwed_eq]
  exact peer_mapPeers (slot_of_suspect h) (owedSlot_ne_atStart h)

theorem peer_syncReqTaken (s : State) (target : Addr) (own : Option TxFrame) (a : Addr) :
    (s.syncReqTaken target own).peer a = (s.markOwed target).peer a := by
  unfold syncReqTaken
  dsimp only
  repeat' split
  all_goals rfl

theorem peer_countHeard (s : State) (b a : Addr) (ms : Nat) : slotGrows ms (s.peer a) ((s.countHeard b).peer a) := by
  have hmod (f : RosterSlot → RosterSlot) (hf : ∀ x, slotGrows ms x (f x)) :
      slotGrows ms (s.peer a) ((s.modPeer b f).peer a) := by
    by_cases hab : a = b
    · subst hab
      rw [peer_modPeer_self]
      exact hf _
    · rw [peer_modPeer_other _ _ _ _ hab]
      exact slotGrows_refl _ _
  unfold countHeard
  split
  · split
    · exact hmod (fun x => { x with heard := Fin.ofNat 256 (x.heard.val + 1) }) fun _ => slotGrows_of_eq rfl rfl rfl rfl
    · exact hmod (fun x => { x with heard := Config.freeHeard s.freeCount }) fun _ => slotGrows_of_eq rfl rfl rfl rfl
  · exact slotGrows_refl _ _

theorem presence_loader (s : State) (a : Addr) (p : PresencePayload) : (s.presenceTaken a p).loader = s.loader := by
  simp [presenceTaken]

theorem dropOwner_peer (s : State) (a b : Addr) (u : Bool) : (s.dropOwner a u).peer b = s.peer b :=
  peer_of_roster (by simp) b

theorem peer_peerRemoved_other (s : State) {a b : Addr} (h : b ≠ a) : (s.peerRemoved a).peer b = s.peer b := by
  rw [peerRemoved, peer_of_roster (judgeDiscord_roster _ _), peer_modPeer_other _ _ _ _ h, dropOwner_peer]

/-- A frame other than HELLO leaves the slot of a PRESENT sender at most in more doubt, a RECOUNT_END where no round is owed
and an ABSENT where it names another. -/
theorem slotGrows_frameBody {c : Instr} {rx : Rx} {f : Frame} {body : Option TxFrame → State → State}
    (hc : frameBody c = some (rx, f, body)) {u : State} (hpresent : (u.peer rx.sender).state = .present)
    (hello : isHello f = false) (hround : (∀ n, f ≠ .recountEnd n) ∨ (u.peer rx.sender).owed = false)
    (habsent : f ≠ .absent rx.sender) :
    slotGrows u.presenceMs (u.peer rx.sender) ((body none u).peer rx.sender) := by
  have hne := present_ne_atStart hpresent
  have hplain (h : (body none u).member = u.member) :
      slotGrows u.presenceMs (u.peer rx.sender) ((body none u).peer rx.sender) := by
    rw [peer_of_roster (by rw [h])]
    exact slotGrows_refl _ _
  have hexit (v : State) (hv : slotGrows u.presenceMs (u.peer rx.sender) (v.peer rx.sender)) (hl : v.loader = u.loader) :
      slotGrows u.presenceMs (u.peer rx.sender) (v.judgeExit.peer rx.sender) := by
    have hvne := present_ne_atStart (hv.1.trans hpresent)
    have h := slotGrows_judgeExit hvne
    rw [presenceMs_of_loader hl] at h
    exact hv.trans h
  cases c with
  | hello rx p => cases hc; cases hello
  | presence rx p =>
    cases hc
    have htaken : slotGrows u.presenceMs (u.peer rx.sender) ((u.presenceTaken rx.sender p).peer rx.sender) := by
      rw [presenceTaken, peer_of_roster (judgeDiscord_roster _ _), peer_modPeer_self]
      exact slotGrows_of_eq rfl rfl rfl rfl
    rw [applyPresence_peer]
    split
    · rw [doubted, peer_modPeer_self]
      exact htaken.trans ⟨rfl, rfl, fun _ => rfl, .inl rfl⟩
    · exact htaken
  | syncReq rx target =>
    cases hc
    rw [applySyncReq_eq]
    split
    · exact slotGrows_refl _ _
    · refine hexit _ ?_ (by unfold syncReqTaken; dsimp only; repeat' split; all_goals simp)
      rw [peer_syncReqTaken, peer_markOwed target (.inl hpresent)]
      obtain ⟨hst, hh, hs, ha⟩ := owedSlot_fields u.presenceMs target rx.sender.val (u.peer rx.sender)
      exact slotGrows_of_eq hst hh hs ha
  | recount rx p =>
    cases hc
    have hcount : slotGrows u.presenceMs (u.peer rx.sender) ((u.recountCounted rx.sender p.ch none).peer rx.sender) :=
      peer_countHeard u rx.sender rx.sender _
    rw [applyRecount_eq]
    split
    · rcases recountDraw_cases (u.recountCounted rx.sender p.ch none) rx.sender p with heq | heq <;> rw [heq] <;> exact hcount
    · rw [peer_of_roster (s := u.recountCounted rx.sender p.ch none)
        (t := (u.recountCounted rx.sender p.ch none).recountStart rx.sender p) (by simp)]
      exact hcount
  | recountEnd rx n =>
    cases hc
    have howed : (u.peer rx.sender).owed = false := hround.resolve_left fun h => h n rfl
    rw [applyRecountEnd_eq]
    refine hexit _ ?_ (by simp [roundClosed])
    rw [roundClosed, peer_modPeer_self, dropOwner_peer]
    have hsame : recountEndSlot n (u.peer rx.sender) = u.peer rx.sender := by simp [recountEndSlot, howed]
    rw [hsame]
    exact slotGrows_refl _ _
  | absent rx target =>
    cases hc
    have hne' : rx.sender ≠ target := fun h => habsent (by rw [h])
    unfold applyAbsent
    split
    · exact slotGrows_refl _ _
    · split
      · have hclear : u.selfCleared.peer rx.sender = u.peer rx.sender := peer_of_roster (by simp) _
        have hms : u.selfCleared.presenceMs = u.presenceMs := presenceMs_of_loader (by simp)
        rw [selfAbsent_eq]
        dsimp only
        split
        · have hlog : (u.selfCleared.log .absentSelf none none (some rx.sender)).peer rx.sender = u.peer rx.sender := hclear
          rw [peer_enterSyncing _ (by rwa [hlog]), hlog]
          rw [show (u.selfCleared.log .absentSelf none none (some rx.sender)).presenceMs = u.presenceMs from hms]
          exact slotGrows_absentee _ _
        · rw [show (u.selfCleared.log .absentSelf none none (some rx.sender)).peer rx.sender = u.peer rx.sender from hclear]
          exact slotGrows_refl _ _
      · have hremoved := hexit (u.peerRemoved target)
          (by rw [peer_peerRemoved_other u hne']; exact slotGrows_refl _ _) (by simp [peerRemoved])
        rw [peerAbsent_eq]
        split
        · exact slotGrows_refl _ _
        · split <;> exact hremoved
  | claim | renew | settled | abandoned | expire | stopped | shedCall | inquire | answer =>
    exact hplain (member_frameBody hc (.inl (by cases hc; rfl)) none u)
  | toolFrameReject => exact hplain (member_frameBody hc (.inr (by cases hc; rfl)) none u)
  | _ => cases hc

/-- A peer's frame leaves a request for all that is pending as it is (R143). -/
theorem asksAll_frameBody {c : Instr} {rx : Rx} {f : Frame} {body : Option TxFrame → State → State}
    (hc : frameBody c = some (rx, f, body)) {u : State} (h : u.asksAll) : (body none u).asksAll := by
  have hplain (hm : (body none u).member = u.member) : (body none u).asksAll :=
    asksAll_of_eq h (by rw [hm]) (by rw [hm]) (by rw [hm])
  have hexit (v : State) (hv : v.asksAll) : v.judgeExit.asksAll := by
    rw [judgeExit_of_not_leaving hv.not_leaving]
    exact hv
  cases c with
  | hello rx p =>
    cases hc
    rw [applyHello_peer]
    refine hexit _ ?_
    unfold helloTaken
    dsimp only
    split <;> exact asksAll_of_eq h (by simp) (by simp) (by simp)
  | presence rx p =>
    cases hc
    rw [applyPresence_peer]
    split <;> exact asksAll_of_eq h (by simp [presenceTaken, doubted]) (by simp [presenceTaken, doubted])
      (by simp [presenceTaken, doubted])
  | syncReq rx target =>
    cases hc
    rw [applySyncReq_eq]
    split
    · exact h
    · refine hexit _ ?_
      unfold syncReqTaken
      dsimp only
      rw [if_neg (by simp)]
      split <;> exact asksAll_of_eq h (by simp) (by simp) (by simp)
  | recount rx p =>
    cases hc
    rw [applyRecount_eq]
    have hcount : (u.recountCounted rx.sender p.ch none).asksAll := by
      refine asksAll_of_eq h ?_ ?_ ?_
      all_goals
        unfold recountCounted countHeard
        dsimp only
        repeat' split
        all_goals rfl
    split
    · rcases recountDraw_cases (u.recountCounted rx.sender p.ch none) rx.sender p with heq | heq <;> rw [heq] <;> exact hcount
    · exact asksAll_of_eq hcount (by simp) (by simp) (by simp)
  | recountEnd rx n =>
    cases hc
    rw [applyRecountEnd_eq]
    exact hexit _ (asksAll_of_eq h (by simp [roundClosed]) (by simp [roundClosed]) (by simp [roundClosed]))
  | absent rx target =>
    cases hc
    unfold applyAbsent
    split
    · exact h
    · split
      · rw [selfAbsent_eq]
        dsimp only
        have hjoined : (u.selfCleared.log .absentSelf none none (some rx.sender)).member.state.joinedUp = true := by
          simp [h.1, MState.joinedUp]
        rw [if_pos hjoined]
        unfold asksAll
        rw [enterSyncing_member]
        exact ⟨rfl, by simp [h.2.1], rfl⟩
      · have hremoved := hexit (u.peerRemoved target)
          (asksAll_of_eq h (by simp [peerRemoved]) (by simp [peerRemoved]) (by simp [peerRemoved]))
        rw [peerAbsent_eq]
        split
        · exact h
        · split <;> exact hremoved
  | claim | renew | settled | abandoned | expire | stopped | shedCall | inquire | answer =>
    exact hplain (member_frameBody hc (.inl (by cases hc; rfl)) none u)
  | toolFrameReject => exact hplain (member_frameBody hc (.inr (by cases hc; rfl)) none u)
  | _ => cases hc

/-! ## The sender's slot after its frame -/

/-- A slot of a peer just heard: PRESENT, its last-heard timer at 0, and not absent-pending where there is a presence
interval. -/
def justHeard (ms : Nat) (x : RosterSlot) : Prop :=
  x.state = .present ∧ x.lastHeard = some 0 ∧ (ms ≠ 0 → x.absentPending = false)

theorem justHeard_of_grows {ms : Nat} {x y : RosterSlot} (h : justHeard ms x) (k : slotGrows ms x y) : justHeard ms y := by
  obtain ⟨hst, hh, ha⟩ := h
  obtain ⟨kst, kh, -, ka⟩ := k
  refine ⟨kst.trans hst, kh.trans hh, fun hms => ?_⟩
  rcases ka with ka | ka
  · rw [ka, ha hms]
  · rw [hh] at ka
    simp only [Option.getD_some] at ka
    omega

/-- The sender of a frame other than HELLO stands PRESENT once heard, SUSPECT where it was unknown or absent. -/
theorem heardSlot_justHeard (s : State) (a : Addr) :
    justHeard s.presenceMs (s.heardSlot a false)
      ∧ ((s.peer a).state ≠ .present → (s.peer a).state = .absent ∨ s.member.state.joinedUp = true →
        (s.heardSlot a false).suspect = true)
      ∧ (s.heardSlot a false).owed = (s.peer a).owed := by
  unfold heardSlot
  dsimp only
  split
  · next h =>
    have hpresent : (s.peer a).state = .present := h.resolve_right (by decide)
    exact ⟨⟨hpresent, rfl, fun _ => rfl⟩, fun hn => absurd hpresent hn, rfl⟩
  · exact ⟨⟨rfl, rfl, fun _ => rfl⟩, fun _ hd => by simp [hd], rfl⟩

theorem hearPeer_loader (s : State) (a : Addr) (hello : Bool) : (s.hearPeer a hello).loader = s.loader := by simp

/-- The round of a peer is not touched by the hearing of its frame. -/
theorem hearPeer_owed (s : State) (a : Addr) : ((s.hearPeer a false).peer a).owed = (s.peer a).owed := by
  have howed : (s.heardSlot a false).owed = (s.peer a).owed := (heardSlot_justHeard s a).2.2
  rw [hearPeer_heardFrom]
  split
  · rw [peer_enterSyncing _ (by rw [peer_heardFrom_self]; exact heardSlot_ne_atStart _ _ _), peer_heardFrom_self, ← howed]
    unfold absentee
    split <;> rfl
  · rw [peer_heardFrom_self, howed]

/-- Every membership state of a station that takes part in frames but LISTEN is past it. -/
theorem joinedUp_of_operating {s : State} (hop : s.operating = true) (h : s.member.state ≠ .listen) :
    s.member.state.joinedUp = true := by
  simp only [operating, Bool.and_eq_true] at hop
  obtain ⟨-, happlies⟩ := hop
  revert h happlies
  cases s.member.state <;> simp [MState.joinedUp, MState.applies]

end State

open State

/-- Settles O19: the hearing of the frame makes the slot PRESENT and restarts its timer; the frame's own effects leave that
slot at most in more doubt; a HELLO writes it itself. -/
theorem everyPeerFrameAccepted : Obligations.EveryPeerFrameAccepted := by
  intro rx f s hother htool habsent
  obtain ⟨body, hc⟩ := frameBody_commandOf (f := f) htool
  have hexec := exec_other hc hother htool
  generalize hu : s.hearPeer rx.sender (isHello f) = u at hexec
  have hms : u.presenceMs = s.presenceMs := presenceMs_of_loader (by simp [← hu])
  have hpeer : (body none u).frameEnds.finish.peer rx.sender = (body none u).peer rx.sender := peer_of_roster (by simp) _
  refine ⟨_, hexec, ?_⟩
  have hsync : s.member.state = .isolated →
      (body none u).frameEnds.finish.member.state = .syncing
        ∧ (body none u).frameEnds.finish.member.ownRequest = some .all := by
    intro hiso
    obtain ⟨hst, hreq, -⟩ := asksAll_frameBody hc (hu ▸ asksAll_hearPeer hiso rx.sender (isHello f))
    exact ⟨by simpa using hst, by simpa using hreq⟩
  rw [hpeer]
  cases hello : isHello f with
  | true =>
    obtain ⟨p, rfl⟩ : ∃ p, f = .hello p := by
      cases f with
      | hello p => exact ⟨p, rfl⟩
      | _ => cases hello
    obtain rfl : body = applyHello rx.sender p := by
      unfold commandOf at hc
      rw [if_neg fun h => htool h.1] at hc
      cases hc
      rfl
    have htaken : (u.helloTaken rx.sender p).peer rx.sender = helloSlot p (u.peer rx.sender) := by
      unfold helloTaken
      dsimp only
      split
      · rw [peer_of_roster (judgeDiscord_roster _ _), peer_modPeer_self, dropOwner_peer]
      · rw [peer_notify, peer_of_roster (judgeDiscord_roster _ _), peer_modPeer_self, dropOwner_peer]
    have hheard : justHeard u.presenceMs ((u.helloTaken rx.sender p).peer rx.sender) := by
      rw [htaken]
      exact ⟨rfl, rfl, fun _ => rfl⟩
    have hgrows := slotGrows_judgeExit (s := u.helloTaken rx.sender p) (a := rx.sender) (present_ne_atStart hheard.1)
    rw [presenceMs_of_loader (s := u) (by unfold helloTaken; dsimp only; split <;> simp)] at hgrows
    obtain ⟨hst, hh, ha⟩ := justHeard_of_grows hheard hgrows
    rw [applyHello_peer] at hsync ⊢
    rw [hms] at ha
    exact ⟨hst, hh, ha, by simp, hsync⟩
  | false =>
    rw [hello] at hu
    obtain ⟨hjust, hdoubt, -⟩ := heardSlot_justHeard s rx.sender
    have hgrowsU := slotGrows_hearPeer_self s rx.sender false
    rw [hu] at hgrowsU
    have hpresent : (u.peer rx.sender).state = .present := hgrowsU.1.trans hjust.1
    have hsuspectU : (s.peer rx.sender).state ≠ .present →
        (s.peer rx.sender).state = .absent ∨ s.member.state ≠ .listen → (u.peer rx.sender).suspect = true := by
      intro hn hd
      have hpart : s.takesPart = true := by
        obtain ⟨htakes, -⟩ := takes_of_takesOther hother
        unfold takes at htakes
        exact (Bool.and_eq_true _ _ ▸ htakes).1
      exact hgrowsU.2.2.1 (hdoubt hn (hd.imp_right (joinedUp_of_operating (takesPart_operating hpart))))
    by_cases hround : (∀ n, f ≠ .recountEnd n) ∨ (s.peer rx.sender).owed = false
    · have howed : (u.peer rx.sender).owed = (s.peer rx.sender).owed := hu ▸ hearPeer_owed s rx.sender
      have hgrows := slotGrows_frameBody hc hpresent hello (by rwa [howed]) habsent
      rw [hms] at hgrows
      obtain ⟨hst, hh, ha⟩ := justHeard_of_grows (justHeard_of_grows hjust hgrowsU) hgrows
      exact ⟨hst, hh, ha, fun _ _ hn hd => hgrows.2.2.1 (hsuspectU hn hd), hsync⟩
    · obtain ⟨hend, -⟩ := not_or.mp hround
      obtain ⟨n, rfl⟩ : ∃ n, f = .recountEnd n := by simpa using hend
      obtain rfl : body = applyRecountEnd rx.sender n := by
        unfold commandOf at hc
        rw [if_neg fun h => htool h.1] at hc
        cases hc
        rfl
      have hclosed : justHeard u.presenceMs ((u.roundClosed rx.sender n none).peer rx.sender) := by
        obtain ⟨hst, hh, ha⟩ := justHeard_of_grows hjust hgrowsU
        rw [roundClosed, peer_modPeer_self, dropOwner_peer, hms]
        unfold recountEndSlot
        repeat' split
        all_goals exact ⟨hst, hh, ha⟩
      have hgrows := slotGrows_judgeExit (s := u.roundClosed rx.sender n none) (a := rx.sender)
        (present_ne_atStart hclosed.1)
      rw [presenceMs_of_loader (s := u) (by simp [roundClosed])] at hgrows
      obtain ⟨hst, hh, ha⟩ := justHeard_of_grows hclosed hgrows
      rw [hms] at ha
      rw [applyRecountEnd_eq] at hsync ⊢
      exact ⟨hst, hh, ha, fun _ h => absurd h hround, hsync⟩

end Sys2Proof.Machine
end

section
/-!
The membership frames HELLO, PRESENCE and RECOUNT_END (R135, R137, R138, R142; O20, O21, O25).
-/

namespace Sys2Proof.Machine

open Sys2Proof

namespace State

/-! ## The hearing of a frame, seen from its effects -/

/-- A taken frame that is no INQUIRE comes from a peer where the transmit slot is empty. -/
theorem sender_of_takes {s : State} {rx : Rx} {f : Frame} (h : s.takes rx f = true) (htx : s.bus.tx = none)
    (hf : f.isInquire = false) : rx.sender ≠ s.own ∧ rx.sender ≠ toolAddr := by
  unfold takes at h
  simp only [htx, hf, Bool.and_eq_true, Bool.or_false, decide_eq_true_eq] at h
  exact ⟨h.2.1.1, h.2.2⟩

theorem takesPart_of_takes {s : State} {rx : Rx} {f : Frame} (h : s.takes rx f = true) : s.takesPart = true := by
  unfold takes at h
  exact (Bool.and_eq_true _ _ ▸ h).1

theorem absentee_cases (ms : Nat) (x : RosterSlot) :
    absentee ms x = x ∨ absentee ms x = { x with absentPending := true } := by
  unfold absentee
  split
  · exact .inr rfl
  · exact .inl rfl

theorem peer_hearPeer_self (s : State) (a : Addr) (hello : Bool) :
    (s.hearPeer a hello).peer a = s.heardSlot a hello
      ∨ (s.hearPeer a hello).peer a = { s.heardSlot a hello with absentPending := true } := by
  rw [hearPeer_heardFrom]
  split
  · rw [peer_enterSyncing _ (by rw [peer_heardFrom_self]; exact heardSlot_ne_atStart _ _ _), peer_heardFrom_self]
    exact absentee_cases _ _
  · exact .inl (peer_heardFrom_self s a hello)

theorem peer_judgeExit {s : State} {a : Addr} (h : s.peer a ≠ RosterSlot.atStart) :
    s.judgeExit.peer a = s.peer a ∨ s.judgeExit.peer a = { s.peer a with absentPending := true } := by
  unfold judgeExit
  split
  · rw [peer_enterInStep h]
    exact absentee_cases _ _
  · exact .inl rfl

/-! ## Discord (R137) -/

theorem discordSeen_iff (s : State) :
    s.discordSeen = true ↔
      ∃ kv ∈ s.member.roster, kv.2.state = .present ∧ ∃ d, kv.2.digest = some d ∧ d ≠ s.digest := by
  unfold discordSeen
  rw [List.any_eq_true]
  refine exists_congr fun kv => and_congr_right fun _ => ?_
  cases kv.2.digest <;> simp

theorem discordSeen_congr {s t : State} (hr : t.member.roster = s.member.roster) (hl : t.loader = s.loader) :
    t.discordSeen = s.discordSeen := by
  unfold discordSeen digest
  rw [hr, hl]

/-- The look for absentees changes no digest and no PRESENT slot. -/
theorem discordSeen_markAbsentees (s : State) : s.markAbsentees.discordSeen = s.discordSeen := by
  rw [Bool.eq_iff_iff, discordSeen_iff, discordSeen_iff]
  have hroster : s.markAbsentees.member.roster =
      (slotMap (fun _ => absentee s.presenceMs) s.member.roster).filter fun kv => kv.2 ≠ RosterSlot.atStart := rfl
  have hdigest : s.markAbsentees.digest = s.digest := rfl
  rw [hroster, hdigest]
  constructor
  · rintro ⟨kv, hkv, hpresent, hd⟩
    obtain ⟨x, hx, rfl⟩ := List.mem_map.mp (List.mem_filter.mp hkv).1
    refine ⟨x, hx, ?_⟩
    dsimp only at hpresent hd
    rcases absentee_cases s.presenceMs x.2 with h | h <;> rw [h] at hpresent hd <;> exact ⟨hpresent, hd⟩
  · rintro ⟨kv, hkv, hpresent, hd⟩
    refine ⟨(kv.1, absentee s.presenceMs kv.2), List.mem_filter.mpr ⟨List.mem_map_of_mem hkv, ?_⟩, ?_⟩
    · simpa using absentee_ne_atStart (present_ne_atStart hpresent)
    · rcases absentee_cases s.presenceMs kv.2 with h | h <;> rw [h] <;> exact ⟨hpresent, hd⟩

/-- The discord flag says whether discord is seen. -/
def discordTrue (s : State) : Prop := s.member.discord = s.discordSeen

theorem discordTrue_judgeDiscord (s : State) (a : Addr) : (s.judgeDiscord a).discordTrue := by
  unfold discordTrue
  rw [discordSeen_congr (s := s) (by simp) (by simp), judgeDiscord_member]

theorem discordTrue_of_eq {s t : State} (h : s.discordTrue) (hd : t.member.discord = s.member.discord)
    (hr : t.member.roster = s.member.roster) (hl : t.loader = s.loader) : t.discordTrue := by
  unfold discordTrue
  rw [discordSeen_congr hr hl, hd]
  exact h

theorem discordTrue_judgeExit {s : State} (h : s.discordTrue) : s.judgeExit.discordTrue := by
  unfold judgeExit
  split
  · have hstep : s.steppedIn.judgeSampling.discordTrue := discordTrue_of_eq h (by simp [steppedIn]) (by simp) (by simp [steppedIn])
    have hmark : s.steppedIn.judgeSampling.markAbsentees.discordTrue := by
      unfold discordTrue
      rw [discordSeen_markAbsentees]
      exact hstep
    rw [enterInStep_eq]
    exact discordTrue_of_eq hmark (by rw [judgeIsolated_member]) (by simp) (by simp)
  · exact h

/-- The newest record says that discord rose by a frame of this peer, as the first record since `s`. -/
def riseOnTop (s t : State) (a : Addr) : Prop :=
  ∃ r, t.faults.records.head? = some r ∧ r.kind = .discordSeen ∧ r.peer = some a ∧ r.number = s.faults.counter

/-- Either no discord stands and nothing was recorded, or its rise was recorded. -/
def riseNoted (s t : State) (a : Addr) : Prop :=
  t.member.discord = false ∧ t.faults = s.faults ∨ t.member.discord = true ∧ s.riseOnTop t a

theorem riseNoted_of_eq {s t u : State} {a : Addr} (h : s.riseNoted t a) (hd : u.member.discord = t.member.discord)
    (hf : u.faults = t.faults) : s.riseNoted u a := by
  unfold riseNoted riseOnTop
  rw [hd, hf]
  exact h

theorem judgeDiscord_faults (s : State) (a : Addr) :
    (s.judgeDiscord a).faults =
      if s.discordSeen = s.member.discord then s.faults
      else if s.discordSeen then (s.log .discordSeen none none (some a)).faults else s.faults := by
  unfold judgeDiscord
  dsimp only
  split
  · rfl
  · split <;> simp [log]

/-- Discord that stands after it was judged has its rise on top. -/
theorem riseOnTop_judgeDiscord {s t : State} {a : Addr} (h : s.riseNoted t a)
    (hd : (t.judgeDiscord a).member.discord = true) : s.riseOnTop (t.judgeDiscord a) a := by
  rw [judgeDiscord_member] at hd
  have hseen : t.discordSeen = true := hd
  unfold riseOnTop
  rw [judgeDiscord_faults, hseen]
  rcases h with ⟨hno, hf⟩ | ⟨hyes, hr⟩
  · rw [hno, if_neg (by decide), if_pos rfl]
    exact ⟨_, rfl, rfl, rfl, by rw [hf]⟩
  · rw [hyes, if_pos rfl]
    exact hr

theorem riseNoted_judgeDiscord {s t : State} {a : Addr} (h : t.member.discord = false) (hf : t.faults = s.faults) :
    s.riseNoted (t.judgeDiscord a) a := by
  cases hd : (t.judgeDiscord a).member.discord with
  | true => exact .inr ⟨hd, riseOnTop_judgeDiscord (.inl ⟨h, hf⟩) hd⟩
  | false =>
    refine .inl ⟨hd, ?_⟩
    rw [judgeDiscord_member] at hd
    have hseen : t.discordSeen = false := hd
    rw [judgeDiscord_faults, hseen, h, if_pos rfl, hf]

theorem riseNoted_hearPeer {s : State} (h : s.member.discord = false) (a : Addr) (hello : Bool) :
    s.riseNoted (s.hearPeer a hello) a := by
  have hfrom : s.riseNoted (s.heardFrom a hello) a := by
    unfold heardFrom
    split
    · exact .inl ⟨h, rfl⟩
    · exact riseNoted_judgeDiscord h rfl
  rw [hearPeer_heardFrom]
  split
  · exact riseNoted_of_eq hfrom (by rw [enterSyncing_member]) (by simp)
  · exact hfrom

/-- A record on top stays among the eight when one more is written. -/
theorem mem_judgeExit_of_head {s : State} {r : FaultRecord} (h : s.faults.records.head? = some r) :
    r ∈ s.judgeExit.faults.records := by
  have hmem : r ∈ s.faults.records := List.mem_of_head? h
  have hlog : r ∈ (s.log .isolatedEntered none none none).faults.records := by
    obtain ⟨l, hl⟩ : ∃ l, s.faults.records = r :: l := List.head?_eq_some_iff.mp h
    simp [log, hl]
  unfold judgeExit
  split
  · rw [enterInStep_eq]
    unfold judgeIsolated
    split
    · rwa [show ((s.steppedIn.judgeSampling.markAbsentees.setMState .isolated).log .isolatedEntered none none none).faults
        = (s.log .isolatedEntered none none none).faults by simp [log, steppedIn]]
    · simpa [steppedIn] using hmem
  · exact hmem

/-- The discord flag, once judged and then kept exact, says what the statement asks. -/
theorem discordJudged_of {s t : State} {a : Addr} (htrue : t.discordTrue) (hl : t.loader = s.loader)
    (hrise : s.member.discord = false → t.member.discord = true →
      ∃ r ∈ t.faults.records, r.kind = .discordSeen ∧ r.peer = some a ∧ r.number = s.faults.counter) :
    discordJudged s t a := by
  refine ⟨?_, hrise⟩
  rw [htrue, discordSeen_iff]
  simp only [digest, hl]

theorem discordJudged_finish {s t : State} {a : Addr} (h : discordJudged s t a) : discordJudged s t.frameEnds.finish a := by
  have hm : t.frameEnds.finish.member = t.member := by simp
  have hf : t.frameEnds.finish.faults = t.faults := by simp
  unfold discordJudged
  rw [hm, hf]
  exact h

/-! ## HELLO -/

theorem helloTaken_keeps (s : State) (a : Addr) (p : HelloPayload) :
    (s.helloTaken a p).engine = s.engine ∧ (s.helloTaken a p).channels = s.channels
      ∧ (s.helloTaken a p).loader = s.loader
      ∧ (s.helloTaken a p).starts = (s.dropOwner a false).starts ∧ (s.helloTaken a p).draws = (s.dropOwner a false).draws := by
  unfold helloTaken
  dsimp only
  split <;> simp

theorem helloTaken_judged (s : State) (a : Addr) (p : HelloPayload) :
    (s.helloTaken a p).peer a = helloSlot p (s.peer a) ∧ (s.helloTaken a p).discordTrue
      ∧ ∀ r : State, r.riseNoted s a → (s.helloTaken a p).member.discord = true → r.riseOnTop (s.helloTaken a p) a := by
  have hpeer : (((s.dropOwner a false).modPeer a (helloSlot p)).judgeDiscord a).peer a = helloSlot p (s.peer a) := by
    rw [peer_of_roster (judgeDiscord_roster _ _), peer_modPeer_self, dropOwner_peer]
  have htrue := discordTrue_judgeDiscord ((s.dropOwner a false).modPeer a (helloSlot p)) a
  have hrise : ∀ r : State, r.riseNoted s a →
      (((s.dropOwner a false).modPeer a (helloSlot p)).judgeDiscord a).member.discord = true →
      r.riseOnTop (((s.dropOwner a false).modPeer a (helloSlot p)).judgeDiscord a) a :=
    fun r hr hd => riseOnTop_judgeDiscord (riseNoted_of_eq hr (by simp) (by simp)) hd
  unfold helloTaken
  dsimp only
  split
  · exact ⟨hpeer, htrue, hrise⟩
  · exact ⟨hpeer, htrue, hrise⟩

/-! ## The tables without an owner -/

theorem dropOwner_all (s : State) (a : Addr) :
    (s.dropOwner a false).starts = s.starts.filter (fun e => decide (e.owner ≠ a))
      ∧ (s.dropOwner a false).draws = s.draws.filter fun kv => decide (kv.1 / 4 ≠ a.val) := by
  rw [dropOwner_starts, dropOwner_draws]
  simp [ownedSlot]

theorem dropOwner_unconfirmed (s : State) (a : Addr) :
    (s.dropOwner a true).starts = s.starts.filter (fun e => !(decide (e.owner = a) && e.unconfirmed))
      ∧ (s.dropOwner a true).draws = s.draws.filter fun kv => !(decide (kv.1 / 4 = a.val) && kv.2.unconfirmed) := by
  rw [dropOwner_starts, dropOwner_draws]
  simp [ownedSlot]

end State

open State

/-- Settles O20: the sender's entries and slots go first; a peer's slot is written by the frame, and what follows it may
only judge its absence. -/
theorem helloBeginsThePeerAfresh : Obligations.HelloBeginsThePeerAfresh := by
  intro rx p s htakes
  refine ⟨_, exec_taken rfl htakes rfl, ?_⟩
  generalize hu : s.heard rx (.hello p) = u
  obtain ⟨hstarts, hdraws⟩ := u.dropOwner_all rx.sender
  have hustarts : u.starts = s.starts := by simp [← hu]
  have hudraws : u.draws = s.draws := by simp [← hu]
  have huchannels : u.channels = s.channels := by simp [← hu]
  have huengine : u.engine = s.engine := by simp [← hu]
  have huloader : u.loader = s.loader := by simp [← hu]
  rw [hustarts] at hstarts
  rw [hudraws] at hdraws
  cases htx : s.bus.tx with
  | some x =>
    rw [applyHello_own]
    exact ⟨by simp [helloSent, huengine], sameButOffer_taken huchannels (by simp [helloSent]), by simp [helloSent, hstarts],
      by simp [helloSent, hdraws], fun _ => by simp [helloSent], fun hother => by simp [takesOther, htx] at hother⟩
  | none =>
    obtain ⟨hengine, hchannels, hloader, hst, hdr⟩ := helloTaken_keeps u rx.sender p
    rw [applyHello_peer]
    refine ⟨by simp [hengine, huengine], sameButOffer_taken huchannels (by simp [hchannels]), by simp [hst, hstarts],
      by simp [hdr, hdraws], fun hown => by simp [takesOwn, htx] at hown, fun _ => ?_⟩
    have hheard : u = s.hearPeer rx.sender true := hu ▸ heard_of_other htx rx _
    obtain ⟨hpeer, htrue, hrise⟩ := helloTaken_judged u rx.sender p
    have hne : (u.helloTaken rx.sender p).peer rx.sender ≠ RosterSlot.atStart := by
      rw [hpeer]
      exact present_ne_atStart rfl
    have hend : (u.helloTaken rx.sender p).judgeExit.frameEnds.finish.peer rx.sender
        = (u.helloTaken rx.sender p).judgeExit.peer rx.sender := peer_of_roster (by simp) _
    have hjudged : discordJudged s (u.helloTaken rx.sender p).judgeExit rx.sender := by
      refine discordJudged_of (discordTrue_judgeExit htrue) (by simp [hloader, huloader]) fun hno hd => ?_
      have hd' : (u.helloTaken rx.sender p).member.discord = true := by
        revert hd
        unfold judgeExit
        split
        · rw [enterInStep_member]
          exact id
        · exact id
      obtain ⟨r, hhead, hr⟩ := hrise s (hheard ▸ riseNoted_hearPeer hno rx.sender true) hd'
      exact ⟨r, mem_judgeExit_of_head hhead, hr⟩
    rw [hend]
    rw [hpeer] at hne
    rcases peer_judgeExit (s := u.helloTaken rx.sender p) (a := rx.sender) (by rwa [hpeer]) with h | h
    all_goals
      rw [h, hpeer]
      exact ⟨rfl, rfl, rfl, rfl, rfl, rfl, rfl, rfl, discordJudged_finish hjudged⟩

end Sys2Proof.Machine
end

section
/-!
PRESENCE and RECOUNT_END (R135, R137, R142, R143; O21, O25).
-/

namespace Sys2Proof.Machine

open Sys2Proof

/-- A test that a rewritten record passes as the record before finds the same in the table. -/
theorem any_slotPut {α : Type} {t : List (Nat × α)} {n : Nat} {x y : α} (p : Nat × α → Bool) (h : slotGet t n = some x)
    (hp : p (n, y) = p (n, x)) : (slotPut t n y).any p = t.any p := by
  induction t with
  | nil => cases h
  | cons kv t ih =>
    obtain ⟨k, v⟩ := kv
    by_cases hk : k = n
    · subst hk
      simp only [slotGet, if_true, Option.some.injEq] at h
      subst h
      simp [slotPut, hp]
    · simp only [slotGet, if_neg hk] at h
      simp only [slotPut, if_neg hk]
      split
      · rw [List.any_cons, hp]
        have hmem : p (n, x) = true → ((k, v) :: t).any p = true := fun hx =>
          List.any_eq_true.mpr ⟨(n, x), List.mem_cons_of_mem _ (slotGet_mem t n x h), hx⟩
        cases hx : p (n, x) with
        | true => rw [hmem hx, Bool.or_true]
        | false => rw [Bool.false_or]
      · rw [List.any_cons, List.any_cons, ih h]

namespace State

/-! ## PRESENCE -/

/-- A doubt about a PRESENT peer changes no digest and no PRESENT slot. -/
theorem discordTrue_doubted {s : State} {a : Addr} (h : s.discordTrue) (hpresent : (s.peer a).state = .present) :
    (s.doubted a).discordTrue := by
  have hroster : (s.doubted a).member.roster = slotPut s.member.roster a.val { s.peer a with suspect := true } := by
    rw [doubted, roster_modPeer, if_neg]
    intro heq
    have := congrArg RosterSlot.suspect heq
    cases this
  have hseen : (s.doubted a).discordSeen = s.discordSeen := by
    unfold discordSeen
    rw [hroster]
    exact any_slotPut _ (listed_of_peer (present_ne_atStart hpresent)) rfl
  unfold discordTrue
  rw [hseen]
  exact h

theorem presenceTaken_peer (s : State) (a : Addr) (p : PresencePayload) :
    (s.presenceTaken a p).peer a = presenceSlot p (s.peer a) := by
  rw [presenceTaken, peer_of_roster (judgeDiscord_roster _ _), peer_modPeer_self]

theorem presenceTaken_keeps (s : State) (a : Addr) (p : PresencePayload) :
    (s.presenceTaken a p).starts = s.starts ∧ (s.presenceTaken a p).draws = s.draws
      ∧ (s.presenceTaken a p).loader = s.loader ∧ (s.presenceTaken a p).member.state = s.member.state := by
  simp [presenceTaken]

theorem countsDiffer_congr {s t : State} (hs : t.starts = s.starts) (hd : t.draws = s.draws) (a : Addr) (p : PresencePayload) :
    t.countsDiffer a p = s.countsDiffer a p := by
  unfold countsDiffer startCount drawCount
  rw [hs, hd]

/-- What a PRESENCE leaves of its sender's slot: what it reports, and doubt where the counts differ. -/
theorem applyPresence_slot (a : Addr) (p : PresencePayload) (u : State) :
    (applyPresence a p none u).peer a =
      { presenceSlot p (u.peer a) with
        suspect := (u.peer a).suspect
          || (u.member.state.joinedUp && !(u.peer a).owed && u.countsDiffer a p) } := by
  obtain ⟨hst, hdr, -, hms⟩ := presenceTaken_keeps u a p
  have hdiff : (u.presenceTaken a p).presenceDiffers a p
      = (u.member.state.joinedUp && !(u.peer a).owed && !(u.peer a).suspect && u.countsDiffer a p) := by
    unfold presenceDiffers
    rw [hms, presenceTaken_peer, countsDiffer_congr hst hdr]
    rfl
  rw [applyPresence_peer, hdiff]
  cases hs : (u.peer a).suspect with
  | true =>
    simp only [Bool.not_true, Bool.and_false, Bool.false_and, Bool.true_or, Bool.false_eq_true, if_false,
      presenceTaken_peer]
    rw [← hs]
    rfl
  | false =>
    simp only [Bool.not_false, Bool.and_true, Bool.false_or]
    split
    · next h => rw [doubted, peer_modPeer_self, presenceTaken_peer, h]
    · next h =>
      rw [Bool.not_eq_true] at h
      rw [presenceTaken_peer, h, ← hs]
      rfl

/-- SYNCING, IN_STEP and ISOLATED are not told apart by the hearing of a frame. -/
theorem hearPeer_joinedUp (s : State) (a : Addr) (hello : Bool) :
    (s.hearPeer a hello).member.state.joinedUp = s.member.state.joinedUp := by
  rw [hearPeer_state]
  split
  · next h => rw [h]; rfl
  · rfl

theorem joinedUp_iff_of_operating {s : State} (hop : s.operating = true) :
    s.member.state.joinedUp = true ↔ s.member.state ≠ .listen :=
  ⟨fun h hl => (by rw [hl] at h; cases h), joinedUp_of_operating hop⟩

end State

open State

/-- Settles O21: the hearing of the frame settles doubt where the sender was not PRESENT, the counts where it was; the discord
flag is judged on the digest the frame wrote. -/
theorem presenceIsCompared : Obligations.PresenceIsCompared := by
  intro rx p s hother
  obtain ⟨htakes, htx⟩ := takes_of_takesOther hother
  obtain ⟨-, htool⟩ := sender_of_takes htakes htx rfl
  refine ⟨_, exec_other rfl hother htool, ?_⟩
  have hop : s.operating = true := takesPart_operating (takesPart_of_takes htakes)
  generalize hu : s.hearPeer rx.sender (isHello (.presence p)) = u
  have hutables : u.starts = s.starts ∧ u.draws = s.draws := by simp [← hu]
  obtain ⟨hustarts, hudraws⟩ := hutables
  have hjoined : u.member.state.joinedUp = s.member.state.joinedUp := hu ▸ hearPeer_joinedUp s rx.sender _
  have hvloader : (u.presenceTaken rx.sender p).loader = s.loader := by
    rw [(presenceTaken_keeps u rx.sender p).2.2.1, ← hu]
    simp
  have hslot := applyPresence_slot rx.sender p u
  rw [countsDiffer_congr hustarts hudraws, hjoined] at hslot
  have hkeeps : (applyPresence rx.sender p none u).starts = s.starts ∧ (applyPresence rx.sender p none u).draws = s.draws
      ∧ sameLocal s (applyPresence rx.sender p none u) := by
    rw [applyPresence_peer]
    split <;> exact ⟨by simp [doubted, presenceTaken, hustarts], by simp [doubted, presenceTaken, hudraws],
      sameLocal_of_keeps (by simp [doubted, presenceTaken, ← hu]) (by simp [doubted, presenceTaken, ← hu])⟩
  have hpeer : (applyPresence rx.sender p none u).frameEnds.finish.peer rx.sender
      = (applyPresence rx.sender p none u).peer rx.sender := peer_of_roster (by simp) _
  obtain ⟨⟨hpresent, -, -⟩, -, -⟩ := heardSlot_justHeard s rx.sender
  have huslot : (u.peer rx.sender).state = .present ∧ (u.peer rx.sender).owed = (s.heardSlot rx.sender false).owed
      ∧ (u.peer rx.sender).suspect = (s.heardSlot rx.sender false).suspect := by
    rcases peer_hearPeer_self s rx.sender (isHello (.presence p)) with h | h
    all_goals
      rw [hu] at h
      rw [h]
      exact ⟨hpresent, rfl, rfl⟩
  obtain ⟨hupresent, huowed, hususpect⟩ := huslot
  have hjudged : discordJudged s (applyPresence rx.sender p none u) rx.sender := by
    have htrue := discordTrue_judgeDiscord (u.modPeer rx.sender (presenceSlot p)) rx.sender
    have hrise (hno : s.member.discord = false) (hd : (u.presenceTaken rx.sender p).member.discord = true) :
        s.riseOnTop (u.presenceTaken rx.sender p) rx.sender :=
      riseOnTop_judgeDiscord (riseNoted_of_eq (hu ▸ riseNoted_hearPeer hno rx.sender _) (by simp) (by simp)) hd
    have hmem {v : State} (h : s.riseOnTop v rx.sender) :
        ∃ r ∈ v.faults.records, r.kind = .discordSeen ∧ r.peer = some rx.sender ∧ r.number = s.faults.counter := by
      obtain ⟨r, hhead, hr⟩ := h
      exact ⟨r, List.mem_of_head? hhead, hr⟩
    rw [applyPresence_peer]
    split
    · refine discordJudged_of (discordTrue_doubted htrue ?_) hvloader fun hno hd => hmem (hrise hno hd)
      exact (congrArg RosterSlot.state (presenceTaken_peer u rx.sender p)).trans hupresent
    · exact discordJudged_of htrue hvloader fun hno hd => hmem (hrise hno hd)
  rw [hpeer, hslot]
  have hiff := joinedUp_iff_of_operating hop
  have hcounts : s.countsDiffer rx.sender p = true ↔
      (s.starts.filter fun e => decide (e.owner = rx.sender)).length ≠ p.starts.val
        ∨ (s.draws.filter fun kv => decide (kv.1 / 4 = rx.sender.val)).length ≠ p.draws.val := by
    unfold countsDiffer
    rw [decide_eq_true_eq]
    rfl
  refine ⟨by simp [hkeeps.1], by simp [hkeeps.2.1], sameLocal_taken hkeeps.2.2, rfl, rfl, rfl, rfl, hupresent, fun h => ?_,
    fun h => ?_, discordJudged_finish hjudged⟩
  · have hs : s.heardSlot rx.sender false = { s.peer rx.sender with lastHeard := some 0, absentPending := false } := by
      unfold heardSlot
      exact if_pos (.inl h)
    rw [huowed, hususpect, hs]
    simp only [Bool.or_eq_true, Bool.and_eq_true, Bool.not_eq_true', hiff, hcounts, and_assoc]
  · have hs : (s.heardSlot rx.sender false).suspect = ((s.peer rx.sender).suspect
        || decide ((s.peer rx.sender).state = .absent ∨ s.member.state.joinedUp = true)) := by
      unfold heardSlot
      dsimp only
      rw [if_neg (by simpa using h)]
    rw [hususpect, hs]
    simp only [Bool.or_eq_true, Bool.and_eq_true, decide_eq_true_eq, hiff, or_assoc]
    constructor
    · rintro (hs | ha | hl | ⟨⟨hl, -⟩, -⟩)
      · exact .inl hs
      · exact .inr (.inl ha)
      · exact .inr (.inr hl)
      · exact .inr (.inr hl)
    · rintro (hs | ha | hl)
      · exact .inl hs
      · exact .inr (.inl ha)
      · exact .inr (.inr (.inl hl))

/-! ## RECOUNT_END -/

namespace State

theorem roundClosed_keeps (s : State) (a : Addr) (n : Fin 8) (own : Option TxFrame) :
    (s.roundClosed a n own).engine = s.engine ∧ (s.roundClosed a n own).channels = s.channels
      ∧ (s.roundClosed a n own).loader = s.loader ∧ (s.roundClosed a n own).member.state = s.member.state
      ∧ (s.roundClosed a n own).starts = (s.dropOwner a true).starts
      ∧ (s.roundClosed a n own).draws = (s.dropOwner a true).draws := by
  cases own <;> simp [roundClosed]

theorem judgeExit_round (s : State) : s.judgeExit.member.round = s.member.round := by
  unfold judgeExit
  split
  · rw [enterInStep_member]
  · rfl

theorem recountEndSlot_of_owed {n : Fin 8} {x : RosterSlot} (h : x.owed = true) :
    (recountEndSlot n x).owed = false ∧ (recountEndSlot n x).state = x.state
      ∧ ((recountEndSlot n x).suspect = true ↔ n.val ≠ x.heard.val) := by
  unfold recountEndSlot
  rw [if_pos h]
  split
  · next hn => simp [hn]
  · next hn => simp [hn]

theorem hearPeer_awaits {s : State} (h : s.member.state ≠ .isolated) (a : Addr) (hello : Bool) :
    (s.hearPeer a hello).member.state = s.member.state ∧ (s.hearPeer a hello).member.ownAccepted = s.member.ownAccepted
      ∧ (s.hearPeer a hello).member.awaited = s.member.awaited ∧ (s.hearPeer a hello).member.round = s.member.round
      ∧ ∀ b, b ≠ a → (s.hearPeer a hello).peer b = s.peer b := by
  rw [hearPeer_heardFrom, heardFrom_state, if_neg h]
  refine ⟨heardFrom_state _ _ _, ?_, ?_, ?_, fun b hb => peer_heardFrom_other s hello hb⟩
  all_goals
    unfold heardFrom
    split <;> simp [peerHeard, peerJoins]

end State

open State

/-- Settles O25: what the round did not confirm goes, the sender's slot is judged by the numbers, and with the last round
awaited nothing holds SYNCING any more. -/
theorem recountEndClosesTheRound : Obligations.RecountEndClosesTheRound := by
  intro rx n s htakes
  refine ⟨_, exec_taken rfl htakes rfl, ?_⟩
  rw [applyRecountEnd_eq]
  generalize hu : s.heard rx (.recountEnd n) = u
  obtain ⟨hustarts, hudraws⟩ : u.starts = s.starts ∧ u.draws = s.draws := by simp [← hu]
  obtain ⟨huchannels, huengine⟩ : u.channels = s.channels ∧ u.engine = s.engine := by simp [← hu]
  obtain ⟨hengine, hchannels, hloader, hstate, hst, hdr⟩ := roundClosed_keeps u rx.sender n s.bus.tx
  obtain ⟨hstarts, hdraws⟩ := u.dropOwner_unconfirmed rx.sender
  rw [hustarts] at hstarts
  rw [hudraws] at hdraws
  have hother (h : s.takesOther rx (.recountEnd n) = true) (howed : (s.peer rx.sender).owed = true) :
      s.bus.tx = none ∧ u = s.hearPeer rx.sender false
        ∧ (u.roundClosed rx.sender n none).peer rx.sender = recountEndSlot n (u.peer rx.sender)
        ∧ (u.peer rx.sender).owed = true ∧ (u.peer rx.sender).heard = (s.peer rx.sender).heard
        ∧ (u.peer rx.sender).state = .present := by
    obtain ⟨-, htx⟩ := takes_of_takesOther h
    have hheard : u = s.hearPeer rx.sender false := hu ▸ heard_of_other htx rx _
    obtain ⟨⟨hpresent, -, -⟩, -, hsame⟩ := heardSlot_justHeard s rx.sender
    have hslot : (s.heardSlot rx.sender false).heard = (s.peer rx.sender).heard := by
      unfold heardSlot
      dsimp only
      split <;> rfl
    refine ⟨htx, hheard, by rw [roundClosed, peer_modPeer_self, dropOwner_peer], ?_⟩
    rw [hheard]
    rcases peer_hearPeer_self s rx.sender false with h | h
    all_goals
      rw [h]
      exact ⟨hsame.trans howed, hslot, hpresent⟩
  refine ⟨by simp [hengine, huengine], sameButOffer_taken huchannels (by simp [hchannels]), by simp [hst, hstarts],
    by simp [hdr, hdraws], fun h howed => ?_, fun hown => ?_, fun h hsync haccepted hround hawaited howed => ?_⟩
  · obtain ⟨htx, -, hpeer, howedU, hheardU, hpresentU⟩ := hother h howed
    obtain ⟨hout, hstU, hdoubt⟩ := recountEndSlot_of_owed (n := n) howedU
    have hend : (u.roundClosed rx.sender n s.bus.tx).judgeExit.frameEnds.finish.peer rx.sender
        = (u.roundClosed rx.sender n s.bus.tx).judgeExit.peer rx.sender := peer_of_roster (by simp) _
    rw [hend, htx]
    rw [hheardU] at hdoubt
    have hne : (u.roundClosed rx.sender n none).peer rx.sender ≠ RosterSlot.atStart := by
      rw [hpeer]
      exact present_ne_atStart (hstU.trans hpresentU)
    rcases peer_judgeExit hne with hexit | hexit
    all_goals
      rw [hexit, hpeer]
      exact ⟨hout, hdoubt⟩
  · obtain ⟨-, x, hx⟩ := takes_of_takesOwn hown
    have hm : (u.roundClosed rx.sender n s.bus.tx).judgeExit.frameEnds.finish.member
        = (u.roundClosed rx.sender n s.bus.tx).judgeExit.member := by simp
    rw [hm, judgeExit_round, hx]
    rfl
  · obtain ⟨htx, hheard, hpeer, howedU, -, -⟩ := hother h howed
    obtain ⟨hstU, haccU, hawaitU, hroundU, hpeerU⟩ := hearPeer_awaits (by rw [hsync]; decide) rx.sender false (s := s)
    rw [← hheard] at hstU haccU hawaitU hroundU hpeerU
    rw [htx]
    have hleave : (u.roundClosed rx.sender n none).mayLeaveSyncing = true := by
      have hmember : (u.roundClosed rx.sender n none).member.ownAccepted = u.member.ownAccepted
          ∧ (u.roundClosed rx.sender n none).member.awaited = u.member.awaited
          ∧ (u.roundClosed rx.sender n none).member.round = u.member.round
          ∧ (u.roundClosed rx.sender n none).member.state = u.member.state := by simp [roundClosed]
      obtain ⟨hacc, hawait, hrnd, hms⟩ := hmember
      unfold mayLeaveSyncing
      rw [hacc, hawait, hrnd, hms, hstU, haccU, hawaitU, hroundU, hsync, haccepted, hround]
      simp only [decide_true, Bool.true_and, Bool.not_false, Bool.and_true, List.all_eq_true]
      intro a ha
      by_cases hsender : a = rx.sender
      · subst hsender
        rw [hpeer, (recountEndSlot_of_owed howedU).1]
        rfl
      · have hkeep : (u.roundClosed rx.sender n none).peer a = s.peer a := by
          rw [roundClosed, peer_modPeer_other _ _ _ _ hsender, dropOwner_peer, hpeerU a hsender]
        rw [hkeep]
        rcases hawaited a ha hsender with h0 | h0 <;> simp [h0]
    have hm : (u.roundClosed rx.sender n none).judgeExit.frameEnds.finish.member
        = (u.roundClosed rx.sender n none).judgeExit.member := by simp
    rw [hm, judgeExit, if_pos hleave]
    exact enterInStep_state _

end Sys2Proof.Machine
end

section
/-!
SYNC_REQ and ABSENT naming a peer (R136, R139, R143, R146; O22, O26).
-/

namespace Sys2Proof.Machine

open Sys2Proof

namespace State

/-! ## SYNC_REQ -/

theorem syncReqTaken_keeps (s : State) (target : Addr) (own : Option TxFrame) :
    (s.syncReqTaken target own).engine = s.engine ∧ (s.syncReqTaken target own).channels = s.channels
      ∧ (s.syncReqTaken target own).loader = s.loader
      ∧ (s.syncReqTaken target own).starts = (s.markUnconfirmed target).starts
      ∧ (s.syncReqTaken target own).draws = (s.markUnconfirmed target).draws := by
  unfold syncReqTaken
  dsimp only
  repeat' split
  all_goals simp

theorem markUnconfirmed_tables (s : State) (target : Addr) :
    (s.markUnconfirmed target).starts =
        s.starts.map (fun e =>
          if (target = 0 ∨ target = e.owner) ∧ e.owner ≠ s.own then { e with unconfirmed := true } else e)
      ∧ (s.markUnconfirmed target).draws =
        s.draws.map fun kv =>
          (kv.1, if (target = 0 ∨ kv.1 / 4 = target.val) ∧ kv.1 / 4 ≠ s.own.val then
            { kv.2 with unconfirmed := true } else kv.2) := by
  refine ⟨?_, rfl⟩
  unfold markUnconfirmed covers
  simp only [Bool.or_eq_true, decide_eq_true_eq]

theorem owedSlot_of_present {ms : Nat} {target : Addr} {n : Nat} {x : RosterSlot} (hc : target = 0 ∨ n = target.val)
    (h : x.state = .present) : (owedSlot ms target n x).owed = true ∧ (owedSlot ms target n x).heard = 0 := by
  unfold owedSlot
  rw [if_pos hc, if_pos h]
  dsimp only
  split <;> exact ⟨rfl, rfl⟩

theorem owedSlot_of_suspect {ms : Nat} {target : Addr} {n : Nat} {x : RosterSlot} (hc : target = 0 ∨ n = target.val)
    (h : x.suspect = true) :
    (owedSlot ms target n x).requestTimer = some ms ∧ (owedSlot ms target n x).requestVoids = 0 := by
  unfold owedSlot
  rw [if_pos hc]
  by_cases hp : x.state = .present <;> simp [hp, h]

theorem owedSlot_timer {ms : Nat} {target : Addr} {n : Nat} {x : RosterSlot}
    (h : x.suspect = false ∨ ¬(target = 0 ∨ n = target.val)) :
    (owedSlot ms target n x).requestTimer = x.requestTimer := by
  unfold owedSlot
  split
  · next hc =>
    have hs : x.suspect = false := h.resolve_right fun hn => hn hc
    dsimp only
    split <;> simp [hs]
  · rfl

theorem owedSlot_atStart (ms : Nat) (target : Addr) (n : Nat) :
    owedSlot ms target n RosterSlot.atStart = RosterSlot.atStart := by
  simp [owedSlot, RosterSlot.atStart]

/-- The hearing of a frame leaves a PRESENT or SUSPECT slot PRESENT or SUSPECT. -/
theorem heard_slot (s : State) (rx : Rx) (f : Frame) (a : Addr) :
    ((s.peer a).state = .present → ((s.heard rx f).peer a).state = .present)
      ∧ ((s.peer a).suspect = true → ((s.heard rx f).peer a).suspect = true) := by
  cases htx : s.bus.tx with
  | some x =>
    rw [heard_of_own htx, peer_of_roster (ownAccepted_roster _ _)]
    exact ⟨id, id⟩
  | none =>
    rw [heard_of_other htx]
    by_cases ha : a = rx.sender
    · subst ha
      have hslot : ((s.peer rx.sender).state = .present → (s.heardSlot rx.sender (isHello f)).state = .present)
          ∧ ((s.peer rx.sender).suspect = true → (s.heardSlot rx.sender (isHello f)).suspect = true) := by
        unfold heardSlot
        dsimp only
        split
        · exact ⟨id, id⟩
        · exact ⟨fun _ => rfl, fun h => by simp [h]⟩
      rcases peer_hearPeer_self s rx.sender (isHello f) with h | h <;> rw [h] <;> exact hslot
    · have hgrow (h : s.peer a ≠ RosterSlot.atStart) :
          slotGrows s.presenceMs (s.peer a) ((s.hearPeer rx.sender (isHello f)).peer a) := by
        rw [peer_hearPeer_other s _ ha h]
        split
        · exact slotGrows_absentee _ _
        · exact slotGrows_refl _ _
      refine ⟨fun h => ?_, fun h => ?_⟩
      · exact (hgrow (present_ne_atStart h)).1.trans h
      · exact (hgrow (slot_of_suspect (.inr h))).2.2.1 h

theorem canonical_heard {s : State} (h : TablesCanonical s) (rx : Rx) (f : Frame) : TablesCanonical (s.heard rx f) := by
  cases htx : s.bus.tx with
  | some x =>
    rw [heard_of_own htx]
    exact canonical_ownAccepted (s := s.clearTx) (canonical_of_eq h rfl rfl) _
  | none =>
    rw [heard_of_other htx]
    exact canonical_hearPeer h _ _

/-- In a canonical roster the hearing of a frame touches another slot at most by its absent-pending mark. -/
theorem heard_other_of_canonical {s : State} (h : TablesCanonical s) (rx : Rx) (f : Frame) {a : Addr} (ha : a ≠ rx.sender) :
    (s.heard rx f).peer a = s.peer a ∨ (s.heard rx f).peer a = { s.peer a with absentPending := true } := by
  cases htx : s.bus.tx with
  | some x =>
    rw [heard_of_own htx, peer_of_roster (ownAccepted_roster _ _)]
    exact .inl rfl
  | none =>
    rw [heard_of_other htx, hearPeer_heardFrom]
    split
    · have hfrom : TablesCanonical (s.heardFrom rx.sender (isHello f)) := by
        unfold heardFrom
        split
        · exact canonical_modPeer h _ _
        · exact canonical_peerJoins (canonical_modPeer h _ _) _ _
      have hsync : TablesCanonical ((s.heardFrom rx.sender (isHello f)).syncEntered .all) :=
        canonical_of_eq hfrom (by simp [syncEntered]) (by simp)
      rw [enterSyncing_eq, peer_markAbsentees_of_canonical hsync,
        peer_of_roster (s := s.heardFrom rx.sender (isHello f))
          (t := (s.heardFrom rx.sender (isHello f)).syncEntered .all) (by simp), peer_heardFrom_other s _ ha]
      exact absentee_cases _ _
    · exact .inl (peer_heardFrom_other s _ ha)

theorem canonical_syncReqTaken {s : State} (h : TablesCanonical s) (target : Addr) (own : Option TxFrame) :
    TablesCanonical (s.syncReqTaken target own) := by
  obtain ⟨hdraws, hroster, hlisted⟩ := h
  have hdraws' : slotsRise (s.markUnconfirmed target).draws = true := by
    unfold markUnconfirmed
    dsimp only
    exact slotsRise_slotMap _ _ hdraws
  have hmark : TablesCanonical ((s.markUnconfirmed target).markOwed target) := by
    rw [markOwed_eq]
    exact canonical_mapPeers (s := s.markUnconfirmed target) ⟨hdraws', hroster, hlisted⟩ _
  unfold syncReqTaken
  dsimp only
  repeat' split
  all_goals exact canonical_of_eq hmark (by simp) (by simp)

theorem peer_syncReqTaken_of_canonical {s : State} (h : TablesCanonical s) (target : Addr) (own : Option TxFrame) (a : Addr) :
    (s.syncReqTaken target own).peer a = owedSlot s.presenceMs target a.val (s.peer a) := by
  rw [peer_syncReqTaken, markOwed_eq]
  exact peer_mapPeers_of_canonical h a (owedSlot_atStart _ _ _)

theorem peer_judgeExit_of_canonical {s : State} (h : TablesCanonical s) (a : Addr) :
    s.judgeExit.peer a = s.peer a ∨ s.judgeExit.peer a = { s.peer a with absentPending := true } := by
  unfold judgeExit
  split
  · have hstep : TablesCanonical s.steppedIn.judgeSampling := canonical_of_eq h (by simp [steppedIn]) (by simp)
    rw [enterInStep_eq, peer_of_roster (judgeIsolated_roster _), peer_markAbsentees_of_canonical hstep,
      peer_of_roster (s := s) (t := s.steppedIn.judgeSampling) (by simp)]
    exact absentee_cases _ _
  · exact .inl rfl

theorem heard_round (s : State) (rx : Rx) (f : Frame) : (s.heard rx f).member.round = s.member.round := by
  cases htx : s.bus.tx with
  | some x =>
    rw [heard_of_own htx]
    cases rx.acked with
    | true => rfl
    | false => rw [(ownAccepted_unacked s.clearTx).2]; rfl
  | none =>
    rw [heard_of_other htx, hearPeer_heardFrom]
    have hfrom : (s.heardFrom rx.sender (isHello f)).member.round = s.member.round := by
      unfold heardFrom
      split <;> simp [peerHeard, peerJoins]
    split
    · rw [enterSyncing_member]
      exact hfrom
    · exact hfrom

theorem heard_joinedUp (s : State) (rx : Rx) (f : Frame) :
    (s.heard rx f).member.state.joinedUp = s.member.state.joinedUp := by
  cases htx : s.bus.tx with
  | some x =>
    rw [heard_of_own htx]
    cases rx.acked with
    | true => rfl
    | false =>
      rw [(ownAccepted_unacked s.clearTx).2]
      dsimp only
      split
      · next h =>
        have hst : s.member.state = .inStep := h.1
        rw [hst]
        rfl
      · rfl
  | none =>
    rw [heard_of_other htx]
    exact hearPeer_joinedUp s _ _

/-- A SYNC_REQ that covers this station past LISTEN begins its round afresh (R139, step 3). -/
theorem syncReqTaken_round {s : State} {target : Addr} (own : Option TxFrame) (hc : target = 0 ∨ target = s.own)
    (hj : s.member.state.joinedUp = true) :
    (s.syncReqTaken target own).member.round = { active := true, next := 0, sent := 0 } := by
  have hcovers : (covers target ((s.markUnconfirmed target).markOwed target).own
      && ((s.markUnconfirmed target).markOwed target).member.state.joinedUp) = true := by
    rw [Bool.and_eq_true]
    refine ⟨?_, hj⟩
    unfold covers
    rw [Bool.or_eq_true, decide_eq_true_eq, decide_eq_true_eq]
    exact hc
  unfold syncReqTaken
  dsimp only
  rw [if_pos hcovers]
  split <;> rfl

/-- The PRESENT peers are the same after a SYNC_REQ's marks. -/
theorem presentAddrs_markOwed (s : State) (target : Addr) : (s.markOwed target).presentAddrs = s.presentAddrs := by
  have hroster : (s.markOwed target).member.roster =
      (slotMap (owedSlot s.presenceMs target) s.member.roster).filter fun kv => kv.2 ≠ RosterSlot.atStart := rfl
  unfold presentAddrs
  rw [hroster, List.filter_filter]
  generalize s.member.roster = l
  induction l with
  | nil => rfl
  | cons kv l ih =>
    have hst : (owedSlot s.presenceMs target kv.1 kv.2).state = kv.2.state := (owedSlot_fields _ _ _ _).1
    have hcons : slotMap (owedSlot s.presenceMs target) (kv :: l)
        = (kv.1, owedSlot s.presenceMs target kv.1 kv.2) :: slotMap (owedSlot s.presenceMs target) l := rfl
    rw [hcons, List.filter_cons, List.filter_cons]
    by_cases h : kv.2.state = .present
    · have hne : owedSlot s.presenceMs target kv.1 kv.2 ≠ RosterSlot.atStart := present_ne_atStart (hst.trans h)
      rw [if_pos (by simp [hst, h, hne]), if_pos (by simp [h]), List.map_cons, List.map_cons, ih]
    · rw [if_neg (by simp [hst, h]), if_neg (by simp [h]), ih]

end State

open State

/-- Settles O22: the marks are maps over tables and roster; the own request accepted leaves the own round active, which
keeps SYNCING. -/
theorem syncReqBeginsRounds : Obligations.SyncReqBeginsRounds := by
  refine ⟨fun rx target s htakes => ?_, fun rx target s hown hsync htarget hrequest => ?_⟩
  · refine ⟨_, exec_taken rfl htakes rfl, ?_⟩
    have hop : s.operating = true := takesPart_operating (takesPart_of_takes htakes)
    rw [applySyncReq_eq]
    generalize hu : s.heard rx (.syncReq target) = u
    obtain ⟨hustarts, hudraws⟩ : u.starts = s.starts ∧ u.draws = s.draws := by simp [← hu]
    obtain ⟨huchannels, huengine⟩ : u.channels = s.channels ∧ u.engine = s.engine := by simp [← hu]
    have huown : u.own = s.own := hu ▸ heard_own s rx _
    have hums : u.presenceMs = s.presenceMs := presenceMs_of_loader (by simp [← hu])
    have huround : u.member.round = s.member.round := hu ▸ heard_round s rx _
    by_cases htool : target = toolAddr
    · rw [if_pos htool]
      exact ⟨by simp [huengine], sameButOffer_taken huchannels rfl,
        fun _ => ⟨by simp [hustarts], by simp [hudraws], by simp [huround]⟩, fun h => absurd htool h⟩
    · rw [if_neg htool]
      obtain ⟨hengine, hchannels, -, hst, hdr⟩ := syncReqTaken_keeps u target s.bus.tx
      obtain ⟨hstarts, hdraws⟩ := u.markUnconfirmed_tables target
      rw [hustarts, huown] at hstarts
      rw [hudraws, huown] at hdraws
      have hend (a : Addr) : (u.syncReqTaken target s.bus.tx).judgeExit.frameEnds.finish.peer a
          = (u.syncReqTaken target s.bus.tx).judgeExit.peer a := peer_of_roster (by simp) _
      have hpeer (a : Addr) (h : (u.peer a).state = .present ∨ (u.peer a).suspect = true) :
          (u.syncReqTaken target s.bus.tx).judgeExit.peer a = owedSlot s.presenceMs target a.val (u.peer a)
            ∨ (u.syncReqTaken target s.bus.tx).judgeExit.peer a
              = { owedSlot s.presenceMs target a.val (u.peer a) with absentPending := true } := by
        have heq : (u.syncReqTaken target s.bus.tx).peer a = owedSlot s.presenceMs target a.val (u.peer a) := by
          rw [peer_syncReqTaken, peer_markOwed target (s := u) h, hums]
        rw [← heq]
        exact peer_judgeExit (by rw [heq]; exact owedSlot_ne_atStart h)
      have hcover (a : Addr) (h : target = 0 ∨ target = a) : target = 0 ∨ a.val = target.val := h.imp_right fun h => by rw [h]
      refine ⟨by simp [hengine, huengine], sameButOffer_taken huchannels (by simp [hchannels]), fun h => absurd h htool, fun _ =>
        ⟨by simp [hst, hstarts], by simp [hdr, hdraws], fun a hpresent hc => ?_, fun a hsuspect hc => ?_, fun hcan a ha hno => ?_,
          fun hc hlisten => ?_⟩⟩
      · have hup := (hu ▸ heard_slot s rx (.syncReq target) a).1 hpresent
        obtain ⟨howed, hheard⟩ := owedSlot_of_present (ms := s.presenceMs) (hcover a hc) hup
        rw [hend]
        rcases hpeer a (.inl hup) with h | h <;> rw [h] <;> exact ⟨howed, hheard⟩
      · have hus := (hu ▸ heard_slot s rx (.syncReq target) a).2 hsuspect
        obtain ⟨htimer, hvoids⟩ := owedSlot_of_suspect (ms := s.presenceMs) (hcover a hc) hus
        rw [hend]
        rcases hpeer a (.inr hus) with h | h <;> rw [h] <;> exact ⟨htimer, hvoids⟩
      · have hucan : TablesCanonical u := hu ▸ canonical_heard hcan rx _
        have hsame := hu ▸ heard_other_of_canonical hcan rx (.syncReq target) ha
        have hfields : (u.peer a).suspect = (s.peer a).suspect ∧ (u.peer a).requestTimer = (s.peer a).requestTimer := by
          rcases hsame with h | h <;> rw [h] <;> exact ⟨rfl, rfl⟩
        have hslot : ((u.syncReqTaken target s.bus.tx).peer a).requestTimer = (s.peer a).requestTimer := by
          rw [peer_syncReqTaken_of_canonical hucan, owedSlot_timer, hfields.2]
          rw [hfields.1]
          refine hno.imp_right fun ⟨h0, ha'⟩ hc => ?_
          rcases hc with hc | hc
          · exact h0 hc
          · exact ha' (Fin.ext hc.symm)
        rw [hend]
        rcases peer_judgeExit_of_canonical (canonical_syncReqTaken hucan target s.bus.tx) a with h | h <;> rw [h] <;> exact hslot
      · have hm : (u.syncReqTaken target s.bus.tx).judgeExit.frameEnds.finish.member
            = (u.syncReqTaken target s.bus.tx).judgeExit.member := by simp
        rw [hm, judgeExit_round]
        refine syncReqTaken_round _ (by rwa [huown]) ?_
        rw [← hu, heard_joinedUp]
        exact joinedUp_of_operating hop hlisten
  · obtain ⟨htakes, x, hx⟩ := takes_of_takesOwn hown
    refine ⟨_, exec_taken rfl htakes rfl, ?_⟩
    rw [applySyncReq_eq, if_neg htarget, hx]
    generalize hu : s.heard rx (.syncReq target) = u
    have huown : u.own = s.own := hu ▸ heard_own s rx _
    obtain ⟨huchannels, huengine⟩ : u.channels = s.channels ∧ u.engine = s.engine := by simp [← hu]
    have hums : u.presenceMs = s.presenceMs := presenceMs_of_loader (by simp [← hu])
    have humember : u.member = { s.member with presenceTimer := some s.presenceMs, presenceDue := false } := by
      rw [← hu, heard_of_own hx]
      cases rx.acked with
      | true => rfl
      | false =>
        rw [(ownAccepted_unacked s.clearTx).2]
        simp only [clearTx_keeps, hsync]
        rfl
    obtain ⟨hengine, hchannels, -, -, -⟩ := syncReqTaken_keeps u target (some x)
    have hcovers : target = 0 ∨ target = u.own := by
      rw [huown]
      unfold isOwnRequest at hrequest
      split at hrequest
      · exact .inl (of_decide_eq_true hrequest)
      · exact .inr (of_decide_eq_true hrequest)
      · cases hrequest
    have hround := syncReqTaken_round (some x) hcovers (by rw [humember]; simp [hsync, MState.joinedUp])
    have hstay : (u.syncReqTaken target (some x)).judgeExit = u.syncReqTaken target (some x) :=
      judgeExit_of_not_leaving (by simp [mayLeaveSyncing, hround])
    have hown' : ((u.markUnconfirmed target).markOwed target).isOwnRequest target = true := by
      unfold isOwnRequest at hrequest ⊢
      have hreq : ((u.markUnconfirmed target).markOwed target).member.ownRequest = s.member.ownRequest := by
        simp [humember]
      have ho : ((u.markUnconfirmed target).markOwed target).own = s.own := huown
      rw [hreq, ho]
      exact hrequest
    have hmember : (u.syncReqTaken target (some x)).member.state = .syncing
        ∧ (u.syncReqTaken target (some x)).member.ownRequest = none
        ∧ (u.syncReqTaken target (some x)).member.ownAccepted = true
        ∧ (u.syncReqTaken target (some x)).member.syncTimeout = some (2 * s.presenceMs)
        ∧ (u.syncReqTaken target (some x)).member.awaited = if target = 0 then s.presentAddrs else [] := by
      have hpresent : ((u.markUnconfirmed target).markOwed target).presentAddrs = s.presentAddrs := by
        rw [presentAddrs_markOwed]
        show (u.markUnconfirmed target).presentAddrs = _
        simp [presentAddrs, humember]
      have hst : ((u.markUnconfirmed target).markOwed target).member.state = .syncing := by simp [humember, hsync]
      have hms : ((u.markUnconfirmed target).markOwed target).presenceMs = s.presenceMs := hums
      unfold syncReqTaken
      generalize (u.markUnconfirmed target).markOwed target = w at hown' hpresent hst hms
      dsimp only
      have hreq : (if covers target w.own && w.member.state.joinedUp then w.beginRound else w).isOwnRequest target = true := by
        split
        · exact hown'
        · exact hown'
      rw [hreq, Option.isSome_some, Bool.and_self, if_pos rfl]
      split <;> exact ⟨hst, rfl, rfl, by rw [← hms]; rfl, by rw [← hpresent]; rfl⟩
    obtain ⟨hst, hreq, hacc, htimeout, hawaited⟩ := hmember
    have hm : (u.syncReqTaken target (some x)).frameEnds.finish.member = (u.syncReqTaken target (some x)).member := by simp
    rw [hstay, hm]
    refine ⟨by simp [hengine, huengine], sameButOffer_taken huchannels (by simp [hchannels]), hst, hreq, hacc, htimeout,
      fun h => by rw [hawaited, if_pos h], fun h => by rw [hawaited, if_neg h]⟩

/-! ## ABSENT naming a peer -/

/-- A roster that is not canonical: a slot at start is listed before another record of the same number. -/
def doublyListed : State :=
  { State.reset with
    power := { State.reset.power with phase := .running }
    loader := { State.reset.loader with addr := some 2 }
    member :=
      { State.reset.member with
        state := .isolated
        roster := [(3, RosterSlot.atStart), (3, { RosterSlot.atStart with state := .absent })] }
    starts :=
      [{ owner := 3, ch := 0, seq := 0, urgency := 0, sheddable := false, inrush := 1, draw := 1, holdLimit := 1,
         remaining := 1, holdRunning := true, renewals := 0, expirePending := false, unconfirmed := false }] }

/-- Refutes O26: in an ISOLATED station the hearing of an ABSENT's sender leads to SYNCING, and the look for absentees drops
the listed slot at start, so that the peer reads as ABSENT already and keeps its entry. -/
theorem not_absentPeerIsRemoved : ¬Obligations.AbsentPeerIsRemoved := by
  intro h
  obtain ⟨t, hexec, -, -, hpeer⟩ := h { sender := 1, acked := true } 3 doublyListed (by decide)
  obtain ⟨-, hremoved⟩ := hpeer (by decide) (by decide) (by decide)
  obtain ⟨hstarts, -⟩ := hremoved (by decide)
  have hrun := exec_other (c := .absent { sender := 1, acked := true } 3) (s := doublyListed) rfl (by decide) (by decide)
  rw [hexec] at hrun
  cases hrun
  have hkept : (applyAbsent 1 3 none (doublyListed.hearPeer 1 false)).starts = doublyListed.starts := by decide
  rw [show (applyAbsent 1 3 none (doublyListed.hearPeer 1 (isHello (.absent 3)))).frameEnds.finish.starts
      = (applyAbsent 1 3 none (doublyListed.hearPeer 1 false)).starts by simp; rfl, hkept] at hstarts
  revert hstarts
  decide

end Sys2Proof.Machine
end

section
/-! The queue of commands, the passing of time, and the state at reset (O1, O2, O3). -/

namespace Sys2Proof.Machine

open Sys2Proof

namespace State

theorem tick_of_running {s : State} (h : s.power.phase = .running) :
    s.tick = if s.live then s.tickStation.tickLive else if s.member.state = .halted then s.tickHalted
      else s.tickStation := by
  unfold tick
  rw [h]

theorem live_of_running {s : State} (h : s.live = true) : s.power.phase = .running ∧ s.member.state ≠ .halted := by
  have hop := live_operating h
  unfold operating MState.applies at hop
  grind

/-- The three ways in which a running part lets a millisecond pass. -/
theorem tick_running_cases {s : State} (h : s.power.phase = .running) :
    s.live = true ∧ s.member.state ≠ .halted ∧ s.tick = s.tickStation.tickLive
      ∨ s.live = false ∧ s.member.state = .halted ∧ s.tick = s.tickHalted
      ∨ s.live = false ∧ s.member.state ≠ .halted ∧ s.tick = s.tickStation := by
  rw [tick_of_running h]
  cases hl : s.live
  · by_cases hh : s.member.state = .halted
    · exact .inr (.inl ⟨rfl, hh, by rw [if_neg (by decide), if_pos hh]⟩)
    · exact .inr (.inr ⟨rfl, hh, by rw [if_neg (by decide), if_neg hh]⟩)
  · exact .inl ⟨rfl, (live_of_running hl).2, rfl⟩

/-- What the timers of a station that is not HALTED leave: they count, and nothing of the channels moves. -/
theorem tickStation_says (s : State) :
    s.tickStation.starts = (s.starts.map fun e => if e.holdRunning then { e with remaining := e.remaining - 1 } else e)
      ∧ (∀ n, s.loader.phase = .retryWait n → s.tickStation.loader = { s.loader with phase := .retryWait (n - 1) })
      ∧ ((∀ n, s.loader.phase ≠ .retryWait n) → s.tickStation.loader = s.loader) := by
  refine ⟨rfl, fun n hn => ?_, fun hn => ?_⟩
  · show { s.loader with phase := s.loader.phase.tick } = _
    rw [hn]
    rfl
  · show { s.loader with phase := s.loader.phase.tick } = _
    have : s.loader.phase.tick = s.loader.phase := by
      cases hp : s.loader.phase with
      | retryWait n => exact absurd hp (hn n)
      | idle | header | rest => rfl
    rw [this]

end State

open State

/-- Settles O1, by the definition of a step. -/
theorem stepRunsTheFrontCommand : Obligations.StepRunsTheFrontCommand := fun _ _ _ => rfl

/-- Settles O2: a running part lets time pass in one of three ways, and each is a map over the timers it names. -/
theorem emptyQueueLetsTimePass : Obligations.EmptyQueueLetsTimePass := by
  intro s hs
  refine ⟨s.tick, by unfold step; rw [hs], fun hrun => ?_, fun hreset => ?_, fun hoff => ?_⟩
  · obtain ⟨hstarts, hwait, hidle⟩ := s.tickStation_says
    rcases tick_running_cases hrun with ⟨hlive, hnot, ht⟩ | ⟨hlive, hhalt, ht⟩ | ⟨hlive, hnot, ht⟩
    · rw [ht]
      refine ⟨rfl, rfl, rfl, rfl, rfl, rfl, rfl, rfl, rfl, rfl, rfl, fun _ => ⟨hstarts, rfl, rfl, hwait, hidle⟩,
        fun _ => ⟨fun c => ?_, rfl, rfl, rfl⟩, fun h => absurd hlive (by rw [h]; decide), fun h => absurd h hnot⟩
      exact Four.get_map _ _ _
    · rw [ht]
      exact ⟨rfl, rfl, rfl, rfl, rfl, rfl, rfl, rfl, rfl, rfl, rfl, fun h => absurd hhalt h,
        fun h => absurd h (by rw [hlive]; decide), fun _ => ⟨rfl, rfl, rfl, rfl⟩, fun _ => ⟨rfl, rfl, rfl, rfl⟩⟩
    · rw [ht]
      exact ⟨rfl, rfl, rfl, rfl, rfl, rfl, rfl, rfl, rfl, rfl, rfl, fun _ => ⟨hstarts, rfl, rfl, hwait, hidle⟩,
        fun h => absurd h (by rw [hlive]; decide), fun _ => ⟨rfl, rfl, rfl, rfl⟩, fun h => absurd h hnot⟩
  · unfold tick
    rw [hreset]
    rfl
  · unfold tick
    rw [hoff]

/-- Settles O3: every law is about empty tables, a full set of idle channels or a part that does not run. -/
theorem resetIsEmptyAndHasTheLaws : Obligations.ResetIsEmptyAndHasTheLaws := by
  have hidle : ∀ c, State.reset.chan c = Channel.atStart := fun c => Four.get_same _ c
  refine ⟨⟨⟨by decide, by decide, by simp [State.reset]⟩, fun e he => absurd he (by simp [State.reset]),
    ⟨by decide, by decide, by simp [State.reset, Membership.atStart]⟩, Nat.zero_le 8, rfl, ?_,
    fun h => absurd h (by decide), ⟨by decide, fun h => absurd h (by decide)⟩, ?_⟩, ?_⟩
  · have hqueue : QueueLaw State.reset :=
      ⟨by decide, fun c => by rw [hidle c]; simp [State.queueEntry, State.reset, ClaimQueue.atStart, inQueue, Channel.atStart],
        by decide, by simp [State.reset, ClaimQueue.atStart], by decide, by simp [State.reset, ClaimQueue.atStart],
        by decide⟩
    have hengine : EngineLaw State.reset :=
      ⟨fun c => by rw [hidle c]; simp [State.reset, Engine.atStart, Channel.atStart], by decide⟩
    exact ⟨hqueue, hengine, fun c => by rw [hidle c]; exact .inr (.inr (.inr (.inr ⟨rfl, rfl⟩))), ⟨fun _ => hidle, fun h => absurd h (by decide)⟩,
      fun h => absurd h (by decide)⟩
  · exact ⟨⟨fun _ => rfl, fun h => absurd h (by decide)⟩,
      ⟨fun _ => rfl, fun h => absurd h (by decide), fun h => absurd h (by decide)⟩⟩
  · exact ⟨rfl, rfl, rfl, hidle, fun c => by rw [hidle c]; exact ⟨rfl, rfl⟩, rfl, rfl, rfl, rfl, rfl, rfl, rfl, rfl, rfl, rfl,
      rfl, rfl, rfl, rfl⟩

end Sys2Proof.Machine
end

section
/-!
Shed calls: the shed set, the marks of an accepted SHED_CALL, and the caller's wait (R36-R40; O15, O16, O17).
-/

namespace Sys2Proof.Machine

open Sys2Proof

/-! ## The shed set -/

/-- The draw of a list of slots taken together. -/
def drawOf (l : List (Nat × DrawSlot)) : Nat := (l.map (·.2.draw.val)).sum

theorem drawOf_cons (kv : Nat × DrawSlot) (l : List (Nat × DrawSlot)) : drawOf (kv :: l) = kv.2.draw.val + drawOf l := by
  simp [drawOf]

theorem takeDraw_prefix (l : List (Nat × DrawSlot)) : ∀ need, takeDraw need l <+: l := by
  induction l with
  | nil => intro need; cases need <;> exact List.prefix_rfl
  | cons kv rest ih =>
    intro need
    cases need with
    | zero => exact List.nil_prefix
    | succ n => exact List.cons_prefix_cons.mpr ⟨rfl, ih _⟩

/-- The slots taken cover the need where all together do. -/
theorem takeDraw_covers (l : List (Nat × DrawSlot)) : ∀ need, need ≤ drawOf l → need ≤ drawOf (takeDraw need l) := by
  induction l with
  | nil => intro need h; cases need <;> exact h
  | cons kv rest ih =>
    intro need h
    cases need with
    | zero => exact Nat.zero_le _
    | succ n =>
      rw [drawOf_cons] at h
      have hrest := ih (n + 1 - kv.2.draw.val) (by omega)
      rw [takeDraw, drawOf_cons]
      omega

/-- The slots taken but for the last do not cover a need of 1 or more. -/
theorem takeDraw_needed (l : List (Nat × DrawSlot)) : ∀ need, 1 ≤ need → drawOf (takeDraw need l).dropLast < need := by
  induction l with
  | nil =>
    intro need h
    cases need with
    | zero => omega
    | succ n => exact h
  | cons kv rest ih =>
    intro need h
    cases need with
    | zero => omega
    | succ n =>
      rw [takeDraw]
      cases htake : takeDraw (n + 1 - kv.2.draw.val) rest with
      | nil => exact h
      | cons x xs =>
        have hpos : 1 ≤ n + 1 - kv.2.draw.val := by
          by_contra hzero
          rw [show n + 1 - kv.2.draw.val = 0 by omega] at htake
          cases rest <;> cases htake
        have hrest := ih _ hpos
        rw [htake] at hrest
        rw [List.dropLast_cons_of_ne_nil (List.cons_ne_nil x xs), drawOf_cons]
        omega

theorem shedBefore_iff (a b : Nat × DrawSlot) : shedBefore a b = true ↔ shedsFirst a b := by
  simp [shedBefore, shedsFirst]

theorem shedsFirst_trans (a b c : Nat × DrawSlot) (h : shedsFirst a b) (k : shedsFirst b c) : shedsFirst a c := by
  simp only [shedsFirst, Fin.lt_def, Fin.ext_iff] at *
  omega

theorem shedsFirst_total {a b : Nat × DrawSlot} (h : a.1 ≠ b.1) : shedsFirst a b ∨ shedsFirst b a := by
  simp only [shedsFirst, Fin.lt_def, Fin.ext_iff]
  omega

/-- The candidates stand in shed order, where their numbers differ. -/
theorem shedOrder_pairwise {draws : List (Nat × DrawSlot)} (h : slotsRise draws = true) (caller : Urg) :
    (shedOrder draws caller).Pairwise shedsFirst := by
  have hne : draws.Pairwise fun a b => a.1 ≠ b.1 :=
    List.pairwise_map.mp (((slotsRise_iff draws).mp h).imp Nat.ne_of_lt)
  refine (sortBy_pairwise shedBefore _ ?_ ?_).imp fun hab => (shedBefore_iff _ _).mp hab
  · simpa only [shedBefore_iff] using shedsFirst_trans
  · simpa only [shedBefore_iff] using (hne.filter _).imp shedsFirst_total

/-- Settles O15: the set is a prefix of the candidates in shed order, no longer than it must be. -/
theorem shedSetCoversTheShortfall : Obligations.ShedSetCoversTheShortfall := by
  intro draws caller shortfall hrise hpos
  have hperm : (shedOrder draws caller).Perm (draws.filter fun kv => shedCandidate caller kv.2) := sortBy_perm _ _
  have hsum : drawOf (shedOrder draws caller) = drawOf (draws.filter fun kv => shedCandidate caller kv.2) :=
    (hperm.map _).sum_eq
  refine ⟨fun hless => if_pos (hsum.trans_lt hless), fun hmore => ?_⟩
  have hset : shedSet draws caller shortfall = takeDraw shortfall (shedOrder draws caller) :=
    if_neg (Nat.not_lt.mpr (hmore.trans_eq hsum.symm))
  obtain ⟨rest, hrest⟩ := takeDraw_prefix (shedOrder draws caller) shortfall
  rw [hset]
  refine ⟨rest, ?_, ?_, takeDraw_covers _ _ (hmore.trans_eq hsum.symm), takeDraw_needed _ _ hpos⟩
  · rw [hrest]
    exact hperm
  · rw [hrest]
    exact shedOrder_pairwise hrise caller

namespace State

/-! ## The channels that a call sheds -/

/-- The record of a channel that a call has shed. -/
def shedRecord (s : State) (k : Channel) : Channel :=
  { k with
    state := .shed, release := .stopped .shed, pre := false, main := false, senseGrace := none,
    shedRest := some (s.image.station.shedRest * 1000) }

theorem chan_shedChannel (s : State) (c d : Chan) :
    (s.shedChannel c).chan d =
      if d = c ∧ (s.chan c).state = .on then s.shedRecord (s.chan d) else s.chan d := by
  unfold shedChannel
  by_cases hon : (s.chan c).state = .on
  · have himage : (((s.outsOff c).enter c .shed).setRelease c (.stopped .shed)).image = s.image := by simp [image]
    rw [if_pos hon]
    dsimp only
    rw [himage]
    simp only [chan_modChan, chan_setRelease, chan_enter, chan_outsOff]
    by_cases hd : d = c
    · subst hd
      simp [hon, shedRecord]
    · simp [hd]
  · rw [if_neg hon, if_neg fun h => hon h.2]

theorem chan_foldl_shedChannel (l : List Chan) (s : State) (d : Chan) :
    (l.foldl (fun s c => s.shedChannel c) s).chan d =
      if d ∈ l ∧ (s.chan d).state = .on then s.shedRecord (s.chan d) else s.chan d := by
  induction l generalizing s with
  | nil => simp
  | cons c cs ih =>
    have himage : (s.shedChannel c).image = s.image := by simp [image]
    rw [List.foldl_cons, ih, chan_shedChannel]
    by_cases hc : d = c ∧ (s.chan c).state = .on
    · obtain ⟨rfl, hon⟩ := hc
      simp [hon, shedRecord]
    · rw [if_neg hc]
      have hin : d ∈ c :: cs ∧ (s.chan d).state = .on ↔ d ∈ cs ∧ (s.chan d).state = .on := by
        rw [List.mem_cons]
        constructor
        · rintro ⟨rfl | hcs, hon⟩
          · exact absurd ⟨rfl, hon⟩ hc
          · exact ⟨hcs, hon⟩
        · exact fun h => ⟨.inr h.1, h.2⟩
      simp only [hin, shedRecord, himage]

theorem foldl_shedChannel_queue (l : List Chan) (s : State) :
    (l.foldl (fun s c => s.shedChannel c) s).queue = s.queue := by
  induction l generalizing s with
  | nil => rfl
  | cons c cs ih =>
    rw [List.foldl_cons, ih]
    unfold shedChannel
    split <;> simp

theorem chan_ownShed (s : State) (l : List Nat) (d : Chan) :
    (s.ownShed l).chan d =
      if s.live = true ∧ slotNo s.own d ∈ l ∧ (s.chan d).state = .on then s.shedRecord (s.chan d) else s.chan d := by
  unfold ownShed
  by_cases hl : s.live = true
  · rw [if_pos hl, chan_foldl_shedChannel]
    simp [hl, mem_allChans]
  · rw [if_neg hl, if_neg fun h => hl h.1]

theorem chan_shedCalled (s : State) (a : Addr) (p : ShedCallPayload) (own : Option TxFrame) (d : Chan) :
    (s.shedCalled a p own).chan d =
      if s.live = true ∧ slotNo s.own d ∈ s.shedNumbers p ∧ (s.chan d).state = .on then s.shedRecord (s.chan d)
      else s.chan d := by
  have h : (s.shedCalled a p own).chan d = ((s.slotsMarked a p).ownShed (s.shedNumbers p)).chan d :=
    chan_of_channels (by simp [shedCalled]) d
  rw [h, chan_ownShed]
  rfl

theorem shedCalled_tables (s : State) (a : Addr) (p : ShedCallPayload) (own : Option TxFrame) :
    (s.shedCalled a p own).starts = s.starts
      ∧ (s.shedCalled a p own).draws = s.draws.map fun kv =>
        (kv.1, if kv.1 ∈ s.shedNumbers p then { kv.2 with shed := some { caller := a, callSeq := p.callSeq } } else kv.2) := by
  have hmarked : (s.slotsMarked a p).draws = s.draws.map fun kv =>
      (kv.1, if kv.1 ∈ s.shedNumbers p then { kv.2 with shed := some { caller := a, callSeq := p.callSeq } } else kv.2) := rfl
  exact ⟨by simp [shedCalled]; rfl, by rw [← hmarked]; simp [shedCalled]⟩

/-! ## The caller's wait -/

/-- An entry of a channel waits for the end of its shed call. -/
def awaitsShed (s : State) (c : Chan) (e : QueueEntry) (wait : Nat) : Prop :=
  ∃ x ∈ s.queue.entries, x.ch = c ∧ x.stamp = e.stamp ∧ x.eff = e.eff ∧ x.shedCalled = true ∧ x.shedWait = some wait

theorem awaitsShed_of_entries {s t : State} {c : Chan} {e : QueueEntry} {w : Nat} (h : s.awaitsShed c e w)
    (hq : t.queue.entries = s.queue.entries) : t.awaitsShed c e w := by
  unfold awaitsShed
  rw [hq]
  exact h

theorem awaitsShed_modEntry {s : State} {c : Chan} {e : QueueEntry} {w : Nat} (h : s.awaitsShed c e w) (d : Chan)
    {f : QueueEntry → QueueEntry}
    (hf : ∀ x, (f x).ch = x.ch ∧ (f x).stamp = x.stamp ∧ (f x).eff = x.eff ∧ (f x).shedCalled = x.shedCalled
      ∧ (x.ch = c → (f x).shedWait = x.shedWait)) : (s.modEntry d f).awaitsShed c e w := by
  obtain ⟨x, hx, hch, hstamp, heff, hcalled, hwait⟩ := h
  refine ⟨_, List.mem_map.mpr ⟨x, hx, rfl⟩, ?_⟩
  obtain ⟨h1, h2, h3, h4, h5⟩ := hf x
  split
  · exact ⟨h1.trans hch, h2.trans hstamp, h3.trans heff, h4.trans hcalled, (h5 hch).trans hwait⟩
  · exact ⟨hch, hstamp, heff, hcalled, hwait⟩

theorem awaitsShed_requeue {s : State} {c : Chan} {e : QueueEntry} {w : Nat} (h : s.awaitsShed c e w) (d : Chan) :
    (s.requeue d).awaitsShed c e w :=
  awaitsShed_of_entries
    (awaitsShed_modEntry (f := fun x => { x with voids := 0, offered := none }) h d
      fun _ => ⟨rfl, rfl, rfl, rfl, fun _ => rfl⟩) rfl

theorem awaitsShed_withdrawBehind {c : Chan} {e : QueueEntry} {w : Nat} (l : List QueueEntry) {s : State}
    (h : s.awaitsShed c e w) : (s.withdrawBehind l).awaitsShed c e w := by
  induction l generalizing s with
  | nil => exact h
  | cons x xs ih =>
    rw [withdrawBehind]
    split
    · exact ih (awaitsShed_requeue h x.ch)
    · exact ih h

/-- An entry waits for the end of its shed call, or has been offered. -/
def shedOrOffered (s : State) (c : Chan) (e : QueueEntry) (wait : Nat) : Prop :=
  ∃ x ∈ s.queue.entries, x.ch = c ∧ x.stamp = e.stamp ∧ x.eff = e.eff ∧ x.shedCalled = true
    ∧ (x.shedWait = some wait ∨ (s.chan c).state = .claiming)

theorem shedOrOffered_of_awaits {s : State} {c : Chan} {e : QueueEntry} {w : Nat} (h : s.awaitsShed c e w) :
    s.shedOrOffered c e w := by
  obtain ⟨x, hx, hch, hstamp, heff, hcalled, hwait⟩ := h
  exact ⟨x, hx, hch, hstamp, heff, hcalled, .inl hwait⟩

theorem shedOrOffered_of_eq {s t : State} {c : Chan} {e : QueueEntry} {w : Nat} (h : s.shedOrOffered c e w)
    (hq : t.queue.entries = s.queue.entries) (hc : t.channels = s.channels) : t.shedOrOffered c e w := by
  unfold shedOrOffered
  rw [hq, chan_of_channels hc]
  exact h

theorem judgeShedNeed_entries (s : State) (e : QueueEntry) :
    (s.judgeShedNeed e).queue.entries = s.queue.entries ∧ (s.judgeShedNeed e).channels = s.channels := by
  unfold judgeShedNeed endShedNeed
  split <;> exact ⟨rfl, rfl⟩

/-- An offer of the entry ends its wait, and makes its channel CLAIMING. -/
theorem shedOrOffered_offered {s : State} {c : Chan} {e : QueueEntry} {w : Nat} (h : s.awaitsShed c e w) (d : Chan) :
    (s.offered d).shedOrOffered c e w := by
  by_cases hd : d = c
  · subst hd
    obtain ⟨x, hx, hch, hstamp, heff, hcalled, hwait⟩ := h
    refine ⟨{ x with shedWait := none }, List.mem_map.mpr ⟨x, hx, if_pos hch⟩, hch, hstamp, heff, hcalled, .inr ?_⟩
    rw [chan_offered, if_pos rfl]
  · refine shedOrOffered_of_awaits (awaitsShed_of_entries (awaitsShed_modEntry (f := fun x => if x.ch = c then x else
      { x with shedWait := none }) h d fun x => ?_) ?_)
    · by_cases hx : x.ch = c <;> simp [hx]
    · show (s.queue.entries.map fun x => if x.ch = d then { x with shedWait := none } else x)
        = s.queue.entries.map fun x => if x.ch = d then (if x.ch = c then x else { x with shedWait := none }) else x
      refine List.map_congr_left fun x _ => ?_
      by_cases hx : x.ch = d
      · rw [if_pos hx, if_pos hx, if_neg (by rw [hx]; exact hd)]
      · rw [if_neg hx, if_neg hx]

theorem shedOrOffered_judgeHead {s : State} {c : Chan} {e : QueueEntry} {w : Nat} (h : s.awaitsShed c e w) :
    s.judgeHead.shedOrOffered c e w := by
  have hsame : s.shedOrOffered c e w := shedOrOffered_of_awaits h
  have hshed : ∀ {u : State} (x : QueueEntry), u.awaitsShed c e w → (u.judgeShedNeed x).shedOrOffered c e w :=
    fun {u} x hu => shedOrOffered_of_eq (shedOrOffered_of_awaits hu) (judgeShedNeed_entries u x).1
      (judgeShedNeed_entries u x).2
  unfold judgeHead
  split
  · exact shedOrOffered_of_eq hsame rfl rfl
  · next x rest hq =>
    split
    · split
      · exact shedOrOffered_of_eq (shedOrOffered_offered h x.ch) rfl rfl
      · exact hshed x h
    · split
      · exact shedOrOffered_of_eq hsame rfl rfl
      · exact hshed x (awaitsShed_requeue h x.ch)
    all_goals exact shedOrOffered_of_eq hsame rfl rfl

/-- At the end of the frame the entry waits, or the evaluation has offered it. -/
theorem shedOrOffered_frameEnds_finish {s : State} {c : Chan} {e : QueueEntry} {w : Nat} (h : s.awaitsShed c e w) :
    s.frameEnds.finish.shedOrOffered c e w := by
  rw [frameEnds_finish]
  refine shedOrOffered_of_eq (s := s.frameEnds.takeNotice) ?_ (by simp) (by simp)
  have hends : s.frameEnds.awaitsShed c e w := awaitsShed_of_entries h rfl
  unfold takeNotice
  split
  · split
    · exact shedOrOffered_judgeHead (awaitsShed_withdrawBehind _ (awaitsShed_of_entries hends rfl))
    · exact shedOrOffered_of_eq (shedOrOffered_of_awaits hends) rfl rfl
  · exact shedOrOffered_of_awaits hends

/-- The caller's entry is told of its call (R39). -/
theorem awaitsShed_shedCalled {s : State} {x : TxFrame} {c : Chan} {e : QueueEntry} (hfor : x.shedFor = some c)
    (he : e ∈ s.queue.entries) (hch : e.ch = c) (a : Addr) (p : ShedCallPayload) :
    (s.shedCalled a p (some x)).awaitsShed c e (2 * s.presenceMs) := by
  have hmarked : (((s.slotsMarked a p).ownShed (s.shedNumbers p)).marksNoticed (s.shedNumbers p)).queue.entries
      = s.queue.entries := by
    unfold ownShed
    split
    · simp [foldl_shedChannel_queue, slotsMarked]
    · simp [slotsMarked]
  have hms : (((s.slotsMarked a p).ownShed (s.shedNumbers p)).marksNoticed (s.shedNumbers p)).presenceMs
      = s.presenceMs := presenceMs_of_loader (by simp; rfl)
  unfold shedCalled callerTold callAnswered
  simp only [hfor]
  rw [hms]
  exact ⟨_, List.mem_map.mpr ⟨e, hmarked ▸ he, if_pos hch⟩, hch, rfl, rfl, rfl, rfl⟩

end State

open State

/-- Settles O16: the marks are a map over the Draw Table; of the channels only those ON with a marked slot are written, and
the end of the step does not move a SHED channel. -/
theorem shedCallMarksTheSet : Obligations.ShedCallMarksTheSet := by
  have hexec : ∀ {rx : Rx} {p : ShedCallPayload} {s : State}, s.takes rx (.shedCall p) = true →
      exec (.shedCall rx p) s = .next (applyShedCall rx.sender p s.bus.tx (s.heard rx (.shedCall p))).frameEnds.finish :=
    fun h => exec_taken (by rfl) h (by rfl)
  constructor
  · intro rx p s h hurg hshort marked
    have hnumbers : ((s.heard rx (.shedCall p)).callEnded p s.bus.tx).shedNumbers p = marked := by
      simp [shedNumbers, marked]
    have hchan : ∀ c, ((s.heard rx (.shedCall p)).callEnded p s.bus.tx).chan c = s.chan c := fun c =>
      chan_of_channels (by simp) c
    have hlive : ((s.heard rx (.shedCall p)).callEnded p s.bus.tx).live = s.live :=
      (live_of_keeps (by simp) (by simp)).trans (heard_live s rx (.shedCall p))
    have hown : ((s.heard rx (.shedCall p)).callEnded p s.bus.tx).own = s.own := by
      rw [← heard_own s rx (.shedCall p)]
      simp [own]
    have himage : ((s.heard rx (.shedCall p)).callEnded p s.bus.tx).image = s.image := by simp [image]
    have hnot : ¬(p.callerUrgency ≠ 0 ∨ p.shortfall = 0) := fun hor => hor.elim (· hurg) hshort
    refine ⟨_, hexec h, ?_, ?_, fun c => ?_⟩
    · simp [applyShedCall_eq, hnot, shedCalled_tables]
    · have hdraws := (((s.heard rx (.shedCall p)).callEnded p s.bus.tx).shedCalled_tables rx.sender p s.bus.tx).2
      rw [hnumbers] at hdraws
      simpa [applyShedCall_eq, hnot] using hdraws
    · have hshed := ((s.heard rx (.shedCall p)).callEnded p s.bus.tx).chan_shedCalled rx.sender p s.bus.tx c
      rw [hnumbers, hchan, hlive, hown] at hshed
      have hend := sameButOffer_frameEnds_finish
        (((s.heard rx (.shedCall p)).callEnded p s.bus.tx).shedCalled rx.sender p s.bus.tx) c
      rw [applyShedCall_eq, if_neg hnot]
      constructor
      · intro hl hin hon
        rw [hshed, if_pos ⟨hl, hin, hon⟩] at hend
        rw [eq_of_sameButOffer hend (by simp [shedRecord, inQueue])]
        exact ⟨rfl, rfl, ⟨rfl, rfl⟩, by simp [shedRecord, himage], rfl⟩
      · intro hout
        rw [hshed, if_neg (by rintro ⟨-, hin, hon⟩; exact hout.elim (· hin) (· hon))] at hend
        exact hend
  · intro rx p s h hout
    refine ⟨_, hexec h, ?_, ?_, fun c => ?_⟩
    · simp [applyShedCall_eq, hout]
    · simp [applyShedCall_eq, hout]
    · rw [applyShedCall_eq, if_pos hout]
      exact sameButOffer_taken (u := s) rfl (by simp) c

/-- Settles O17: the entry is told after the shed, and the evaluation at the end of the step may at most offer it. -/
theorem callerWaitsForTheShed : Obligations.CallerWaitsForTheShed := by
  intro rx p s x c e h hurg hshort htx hfor he hch
  have htakes := (takes_of_takesOwn h).1
  refine ⟨_, exec_taken (by rfl) htakes (by rfl), ?_⟩
  rw [htx, heard_of_own htx, applyShedCall_eq, if_neg fun hor => hor.elim (· hurg) hshort]
  have hms : ((s.clearTx.ownAccepted rx.acked).callEnded p (some x)).presenceMs = s.presenceMs :=
    presenceMs_of_loader (by simp)
  have htold := awaitsShed_shedCalled (s := (s.clearTx.ownAccepted rx.acked).callEnded p (some x)) hfor (by simpa using he)
    hch rx.sender p
  rw [hms] at htold
  exact shedOrOffered_frameEnds_finish htold

end Sys2Proof.Machine
end

section
/-! The end of a step and a channel that may not be offered (R52, R55). -/

namespace Sys2Proof.Machine

open Sys2Proof

namespace State

/-- A channel's entry cannot be offered: the station sends no CLAIM, INH is asserted, or a release stands (R52). -/
def barred (s : State) (c : Chan) : Prop :=
  s.member.state ≠ .inStep ∧ s.member.state ≠ .isolated ∨ s.inh.asserted = true ∨ (s.chan c).release ≠ .none

theorem offers_of_barred {s : State} {e : QueueEntry} (h : s.barred e.ch) : s.offers e = false := by
  have hno : s.offerable e = false := by
    unfold offerable
    rcases h with ⟨hi, ho⟩ | hinh | hrel
    · simp [hi, ho]
    · simp [hinh]
    · simp [hrel]
  simp [offers, hno]

theorem barred_congr {s t : State} {c : Chan} (h : s.barred c) (hm : t.member.state = s.member.state) (hi : t.inh = s.inh)
    (hc : t.chan c = s.chan c) : t.barred c := by
  unfold barred
  rw [hm, hi, hc]
  exact h

theorem chan_requeue_queued {s : State} {c d : Chan} (hd : (s.chan d).state = .claiming)
    (hc : (s.chan c).state = .queued) : (s.requeue d).chan c = s.chan c := by
  rw [chan_requeue, if_neg]
  rintro rfl
  rw [hc] at hd
  cases hd

theorem chan_withdrawBehind_queued (l : List QueueEntry) {s : State} {c : Chan} (h : (s.chan c).state = .queued) :
    (s.withdrawBehind l).chan c = s.chan c := by
  induction l generalizing s with
  | nil => rfl
  | cons e es ih =>
    rw [withdrawBehind]
    split
    · next hcl =>
      have hsame := chan_requeue_queued hcl.1 h
      rw [ih (by rw [hsame]; exact h), hsame]
    · exact ih h

theorem chan_judgeHead_barred {s : State} {c : Chan} (h : (s.chan c).state = .queued) (hb : s.barred c) :
    s.judgeHead.chan c = s.chan c := by
  have hshed (u : State) (e : QueueEntry) : (u.judgeShedNeed e).chan c = u.chan c := chan_of_channels (by simp) c
  have hend (u : State) : u.endShedNeed.chan c = u.chan c := rfl
  unfold judgeHead
  split
  · exact hend s
  · next e rest hq =>
    split
    · split
      · next hoff =>
        by_cases hc : e.ch = c
        · rw [offers_of_barred (by rw [hc]; exact hb)] at hoff
          cases hoff
        · rw [hend, chan_enter, if_neg (Ne.symm hc)]
          rfl
      · exact hshed s e
    · next hcl =>
      split
      · exact hend s
      · rw [hshed, chan_requeue_queued hcl h]
    all_goals exact hend s

theorem chan_evaluate_barred {s : State} {c : Chan} (h : (s.chan c).state = .queued) (hb : s.barred c) :
    s.evaluate.chan c = s.chan c := by
  have hbehind := chan_withdrawBehind_queued s.queue.entries.tail h
  rw [evaluate, chan_judgeHead_barred (by rw [hbehind]; exact h) (barred_congr hb (by simp) (by simp) hbehind), hbehind]

theorem chan_takeNotice_barred {s : State} {c : Chan} (h : (s.chan c).state = .queued) (hb : s.barred c) :
    s.takeNotice.chan c = s.chan c := by
  unfold takeNotice
  split
  · split
    · exact chan_evaluate_barred (s := { s with notice := false }) h hb
    · rfl
  · rfl

theorem chan_build_queued {s : State} {c : Chan} (src : Source) (h : (s.chan c).state = .queued) :
    (s.build src).1.chan c = s.chan c := by
  cases src with
  | claim eff =>
    show (s.buildClaim eff).1.chan c = _
    cases hf : (s.buildClaim eff).2 with
    | some f =>
      obtain ⟨e, rest, -, -, -, -, -, heq⟩ := buildClaim_some hf
      rw [heq]
      rfl
    | none =>
      rcases buildClaim_none hf with heq | ⟨e, rest, -, hcl, -, heq⟩
      · rw [heq]
      · rw [heq, chan_requeue_queued hcl h]
  | shedCall => exact chan_of_channels (by simp [build]) c
  | release | expire | absent | renewal | recount | syncReq | hello | presence | answer => rfl

theorem chan_trySources_queued (l : List Source) {s : State} {c : Chan} (h : (s.chan c).state = .queued) :
    (s.trySources l).chan c = s.chan c := by
  induction l generalizing s with
  | nil => rfl
  | cons src rest ih =>
    have hbuild := chan_build_queued src h
    unfold trySources
    split
    · split
      · next s' f heq =>
        rw [heq] at hbuild
        exact hbuild
      · next s' heq =>
        rw [heq] at hbuild
        rw [ih (by rw [hbuild]; exact h), hbuild]
    · exact ih h

theorem chan_finish_barred {s : State} {c : Chan} (h : (s.chan c).state = .queued) (hb : s.barred c) :
    s.finish.chan c = s.chan c := by
  have hnotice := chan_takeNotice_barred h hb
  have hsel : s.takeNotice.select.chan c = s.takeNotice.chan c := by
    unfold select
    split
    · exact chan_trySources_queued _ (by rw [hnotice]; exact h)
    · rfl
  rw [finish, chan_of_channels (s := s.takeNotice.select) (by simp), hsel, hnotice]

theorem chan_frameEnds_finish_barred {s : State} {c : Chan} (h : (s.chan c).state = .queued) (hb : s.barred c) :
    s.frameEnds.finish.chan c = s.chan c := chan_finish_barred (s := s.frameEnds) h hb

end State

end Sys2Proof.Machine
end

section
/-!
RECOUNT of type DRAW, the inquiry frames, and ABSENT naming this station (R140, R141, R147, R162, R175, R176; O24, O28, O27).
-/

namespace Sys2Proof.Machine

open Sys2Proof

namespace State

/-! ## A recount is counted -/

theorem hearPeer_heard (s : State) (a : Addr) (hello : Bool) : ((s.hearPeer a hello).peer a).heard = (s.peer a).heard := by
  have hslot : (s.heardSlot a hello).heard = (s.peer a).heard := by
    unfold heardSlot
    dsimp only
    split <;> rfl
  rcases s.peer_hearPeer_self a hello with h | h <;> rw [h] <;> exact hslot

theorem countHeard_heard {s : State} {a : Addr} (howed : (s.peer a).owed = true) (h : (s.peer a).heard.val < 255) :
    ((s.countHeard a).peer a).heard.val = (s.peer a).heard.val + 1 := by
  unfold countHeard
  rw [if_pos howed, if_pos h, peer_modPeer_self]
  show ((s.peer a).heard.val + 1) % 256 = _
  omega

/-- The recount of a peer that owes a round is counted (R141). -/
theorem heard_recountCounted {s : State} {rx : Rx} {p : RecountPayload} (h : s.takesOther rx (.recount p) = true)
    (howed : (s.peer rx.sender).owed = true) (hheard : (s.peer rx.sender).heard.val < 255) :
    ((((s.heard rx (.recount p)).recountCounted rx.sender p.ch s.bus.tx).peer rx.sender).heard.val
      = (s.peer rx.sender).heard.val + 1) := by
  have htx := (takes_of_takesOther h).2
  have hsame := s.hearPeer_heard rx.sender false
  rw [htx, heard_of_other htx]
  refine (countHeard_heard (s := s.hearPeer rx.sender false) ?_ ?_).trans (by rw [hsame])
  · rw [hearPeer_owed]
    exact howed
  · rw [hsame]
    exact hheard

/-- The own recount moves the own round on (R140). -/
theorem own_recountCounted {s : State} {rx : Rx} {p : RecountPayload} (h : s.takesOwn rx (.recount p) = true) :
    ((s.heard rx (.recount p)).recountCounted rx.sender p.ch s.bus.tx).member.round.next = p.ch.val + 1
      ∧ ((s.heard rx (.recount p)).recountCounted rx.sender p.ch s.bus.tx).member.round.sent
        = s.member.round.sent + 1 := by
  obtain ⟨-, x, htx⟩ := takes_of_takesOwn h
  rw [htx]
  refine ⟨rfl, ?_⟩
  show (s.heard rx (.recount p)).member.round.sent + 1 = _
  rw [heard_round]

theorem recountDraw_says (s : State) (a : Addr) (p : RecountPayload) :
    (s.recountDraw a p).starts = s.starts.filter (fun e => !e.isPair a p.ch)
      ∧ (s.recountDraw a p).draws = slotPut s.draws (slotNo a p.ch) (recountSlot p)
      ∧ (s.recountDraw a p).member = s.member ∧ (s.recountDraw a p).channels = s.channels
      ∧ (s.recountDraw a p).engine = s.engine := by
  rcases s.recountDraw_cases a p with h | h <;> rw [h] <;> exact ⟨rfl, rfl, rfl, rfl, rfl⟩

/-! ## Every start in progress is aborted -/

theorem chan_joinAll_self (l : List Chan) {s : State} {d : Chan} (hl : l.Nodup) (hd : d ∈ l) :
    (s.joinAll l).chan d = { s.chan d with state := .queued } := by
  induction l generalizing s with
  | nil => cases hd
  | cons c cs ih =>
    rw [List.nodup_cons] at hl
    rw [joinAll]
    rcases List.mem_cons.mp hd with rfl | hcs
    · rw [chan_joinAll_other cs hl.1, chan_join, if_pos rfl]
    · have hne : d ≠ c := fun h => hl.1 (h ▸ hcs)
      rw [ih hl.2 hcs, chan_join, if_neg hne]

theorem chan_abortAll_self {s : State} {d : Chan} (hd : (s.chan d).state.inEngine = true) (rel : Option Release) :
    (s.abortAll rel).chan d =
      { s.chan d with state := .queued, pre := false, main := false, release := abortRelease rel (s.chan d) } := by
  have hcut : ((s.allCut rel).engineEmptied s.startsInProgress).chan d = cutChannel rel (s.chan d) := chan_allCut s rel d
  have hnote (u : State) : u.notify.chan d = u.chan d := rfl
  have hnodup : s.startsInProgress.Nodup := allChans_nodup.filter _
  rw [abortAll_eq, hnote, chan_joinAll_self _ hnodup ((mem_startsInProgress s d).mpr hd), hcut, cutChannel, if_pos hd]

theorem joinAll_engine (l : List Chan) (s : State) : (s.joinAll l).engine = s.engine := by simp

theorem abortAll_engine (s : State) (rel : Option Release) :
    (s.abortAll rel).engine.running = none ∧ (s.abortAll rel).engine.waiting = none
      ∧ (s.abortAll rel).engine.stack = [] := by
  have hjoined : (s.abortAll rel).engine = ((s.allCut rel).engineEmptied s.startsInProgress).engine := by
    rw [abortAll_eq]
    exact joinAll_engine _ _
  rw [hjoined]
  exact ⟨rfl, rfl, rfl⟩

/-- What an ABSENT naming this station clears: the tables of its own entries, and where its channels act every start in
progress (R147). -/
theorem selfCleared_chan (s : State) (c : Chan) :
    s.selfCleared.chan c =
      if s.live = true ∧ (s.chan c).state.inEngine = true then
        { s.chan c with state := .queued, pre := false, main := false }
      else s.chan c := by
  have hchan (d : Chan) : (s.dropOwner s.own false).chan d = s.chan d := chan_of_channels (by simp) d
  have hlive : (s.dropOwner s.own false).live = s.live := live_of_keeps (by simp) (by simp)
  unfold selfCleared
  dsimp only
  by_cases hin : (s.chan c).state.inEngine = true
  · have hsome : (s.dropOwner s.own false).startsInProgress.isEmpty = false := by
      rw [← Bool.not_eq_true, List.isEmpty_iff]
      exact List.ne_nil_of_mem ((mem_startsInProgress _ c).mpr (by rw [hchan]; exact hin))
    rw [hlive, hsome]
    cases hl : s.live
    · rw [if_neg (by decide), if_neg fun h => absurd h.1 (by decide), hchan]
    · rw [if_pos (by decide), if_pos ⟨rfl, hin⟩, chan_abortAll_self (by rw [hchan]; exact hin), hchan]
      rfl
  · rw [if_neg (c := s.live = true ∧ (s.chan c).state.inEngine = true) fun h => hin h.2]
    split
    · rw [chan_abortAll_other (by rw [hchan]; simpa using hin), hchan]
    · exact hchan c

theorem selfCleared_tables (s : State) :
    s.selfCleared.starts = (s.dropOwner s.own false).starts ∧ s.selfCleared.draws = (s.dropOwner s.own false).draws
      ∧ s.selfCleared.member = s.member ∧ s.selfCleared.inh = s.inh := by
  unfold selfCleared
  dsimp only
  split <;> simp

theorem selfCleared_engine {s : State} {c : Chan} (hl : s.live = true) (hin : (s.chan c).state.inEngine = true) :
    s.selfCleared.engine.running = none ∧ s.selfCleared.engine.waiting = none ∧ s.selfCleared.engine.stack = [] := by
  have hsome : (s.dropOwner s.own false).startsInProgress.isEmpty = false := by
    rw [← Bool.not_eq_true, List.isEmpty_iff]
    refine List.ne_nil_of_mem ((mem_startsInProgress _ c).mpr ?_)
    rw [chan_of_channels (s := s) (by simp)]
    exact hin
  have hlive : (s.dropOwner s.own false).live = true := (live_of_keeps (by simp) (by simp)).trans hl
  unfold selfCleared
  dsimp only
  rw [if_pos (by rw [hlive, hsome]; rfl)]
  exact abortAll_engine _ _

/-- What an ABSENT naming this station leaves: the record on top, and SYNCING with a request outside LISTEN (R147). -/
theorem selfAbsent_says (s : State) (a : Addr) :
    (s.selfAbsent a).starts = s.selfCleared.starts ∧ (s.selfAbsent a).draws = s.selfCleared.draws
      ∧ (s.selfAbsent a).engine = s.selfCleared.engine ∧ (s.selfAbsent a).channels = s.selfCleared.channels
      ∧ (∃ r, (s.selfAbsent a).faults.records.head? = some r ∧ r.kind = .absentSelf ∧ r.peer = some a)
      ∧ (s.member.state.joinedUp = true →
        (s.selfAbsent a).member.state = .syncing ∧ (s.selfAbsent a).member.ownRequest.isSome = true)
      ∧ (s.member.state.joinedUp = false → (s.selfAbsent a).member.state = s.member.state) := by
  have hmember := s.selfCleared_tables.2.2.1
  have htop : ∃ r, (s.selfCleared.log .absentSelf none none (some a)).faults.records.head? = some r
      ∧ r.kind = .absentSelf ∧ r.peer = some a := ⟨_, rfl, rfl, rfl⟩
  rw [selfAbsent_eq]
  dsimp only
  cases hj : s.member.state.joinedUp
  · rw [if_neg (by simp [hj])]
    exact ⟨by simp, by simp, by simp, by simp, htop, fun h => by simp at h, fun _ => by simp⟩
  · rw [if_pos (by simp [hj])]
    refine ⟨by simp, by simp, by simp, by simp, by simpa using htop, fun _ => ⟨enterSyncing_state _ _, ?_⟩,
      fun h => by simp at h⟩
    rw [enterSyncing_member]
    rfl

/-! ## INQUIRE -/

theorem applyInquire_tables (p : InquirePayload) (own : Option TxFrame) (s : State) :
    (applyInquire p own s).starts = s.starts ∧ (applyInquire p own s).draws = s.draws
      ∧ (applyInquire p own s).channels = s.channels := by
  unfold applyInquire
  split
  · dsimp only
    split <;> exact ⟨rfl, rfl, rfl⟩
  · exact ⟨rfl, rfl, rfl⟩

/-- A taken INQUIRE acts on a state in which its sender may have been heard. -/
theorem exec_inquire {rx : Rx} {p : InquirePayload} {s : State} (h : s.takes rx (.inquire p) = true) :
    ∃ (u : State) (own : Option TxFrame), exec (.inquire rx p) s = .next (applyInquire p own u).frameEnds.finish
      ∧ u.starts = s.starts ∧ u.draws = s.draws ∧ u.channels = s.channels ∧ u.own = s.own ∧ u.answer = s.answer
      ∧ u.bus.counters.overruns = s.bus.counters.overruns := by
  have hpart := takesPart_of_takes h
  unfold takes at h
  rw [hpart, Bool.true_and] at h
  have hrec : exec (.inquire rx p) s = .next (s.applyFrame rx (.inquire p) (applyInquire p)).frameEnds.finish := by
    show Host.Outcome.next (s.receive rx (.inquire p) (applyInquire p)) = _
    rw [receive, if_pos hpart]
  cases htx : s.bus.tx with
  | some x =>
    rw [htx] at h
    simp only [Bool.and_eq_true, decide_eq_true_eq] at h
    refine ⟨s.clearTx.ownAccepted rx.acked, some x, by rw [hrec]; simp [applyFrame, takeLine, htx, h], by simp, by simp,
      by simp, by simp [own], by simp, ?_⟩
    cases rx.acked with
    | true => rfl
    | false => rw [(ownAccepted_unacked s.clearTx).1]; rfl
  | none =>
    rw [htx] at h
    simp only [Bool.and_eq_true, decide_eq_true_eq] at h
    obtain ⟨⟨hown, hzero⟩, -⟩ := h
    by_cases htool : rx.sender = toolAddr
    · refine ⟨s, none, ?_, rfl, rfl, rfl, rfl, rfl, rfl⟩
      rw [hrec]
      have hne : ¬(toolAddr = s.own ∨ toolAddr = 0) := by rw [← htool]; exact fun h => h.elim hown hzero
      simp only [applyFrame, takeLine, htx, htool, if_neg hne]
      rfl
    · refine ⟨s.hearPeer rx.sender false, none, ?_, by simp, by simp, by simp, by simp [own], by simp, by simp⟩
      rw [hrec]
      have hne : ¬(rx.sender = s.own ∨ rx.sender = 0) := fun h => h.elim hown hzero
      simp only [applyFrame, takeLine, htx, if_neg htool, if_neg hne]
      rfl

end State

open State

/-- Settles O24: the recount is counted, then it replaces what the tables hold of its pair. -/
theorem recountOfADraw : Obligations.RecountOfADraw := by
  intro rx p s h hdraw
  refine ⟨_, exec_taken (c := .recount rx p) rfl h rfl, ?_⟩
  rw [applyRecount_eq, if_pos hdraw]
  obtain ⟨hstarts, hdraws, hmember, hchannels, hengine⟩ :=
    ((s.heard rx (.recount p)).recountCounted rx.sender p.ch s.bus.tx).recountDraw_says rx.sender p
  refine ⟨by simp, fun c => sameButOffer_taken (u := s) rfl (by simp) c, by simp [hstarts],
    by simp [hdraws, recountSlot], fun hother howed hheard => ?_, fun hown => ?_⟩
  · rw [peer_of_roster (s := (s.heard rx (.recount p)).recountCounted rx.sender p.ch s.bus.tx) (by simp)]
    exact heard_recountCounted hother howed hheard
  · simpa [hmember] using own_recountCounted hown

/-- Settles O28: an INQUIRE is applied to a state whose tables, channels and pending answer stand as before; an ANSWER
empties the pending answer at its sender alone. -/
theorem inquiryFrames : Obligations.InquiryFrames := by
  refine ⟨fun rx p s h => ?_, fun rx p s h => ?_, fun f s hf hpart htx hown => ?_⟩
  · obtain ⟨u, own, hexec, hstarts, hdraws, hchannels, haddr, hanswer, hoverruns⟩ := exec_inquire h
    refine ⟨_, hexec, by simp [applyInquire_tables, hstarts], by simp [applyInquire_tables, hdraws],
      fun c => sameButOffer_taken (u := s) rfl (by simp [applyInquire_tables, hchannels]) c, fun hto => ?_, fun hnot => ?_, ?_⟩
    · simp [applyInquire, haddr, hto]
    · simp [applyInquire, haddr, hnot, hanswer]
    · by_cases hto : p.target = s.own
      · by_cases hheld : s.answer.isSome = true
        · simp [applyInquire, haddr, hto, hanswer, hheld, hoverruns, tally]
        · simp [applyInquire, haddr, hto, hanswer, hheld, hoverruns]
      · simp [applyInquire, haddr, hto, hoverruns]
  · refine ⟨_, exec_taken (c := .answer rx p) rfl h rfl, ?_, ?_, fun hown => ?_, fun hother => ?_⟩
    · cases s.bus.tx <;> simp [applyAnswer]
    · cases s.bus.tx <;> simp [applyAnswer]
    · obtain ⟨-, x, htx⟩ := takes_of_takesOwn hown
      simp [htx, applyAnswer]
    · rw [(takes_of_takesOther hother).2]
      exact sameLocal_taken (s.heard_sameLocal rx (.answer p))
  · have hexec : exec (.toolFrameReject f) s
        = .next (s.tally fun k => { k with toolReject := satSucc 65535 k.toolReject }).frameEnds.finish := by
      have hne : ¬(toolAddr = s.own ∨ toolAddr = 0) := fun h => h.elim (fun h => hown h.symm) (by decide)
      show Host.Outcome.next (s.receive { sender := toolAddr, acked := true } f fun _ s => s) = _
      simp [receive, applyFrame, takeLine, hpart, htx, hne, hf]
    refine ⟨_, hexec, by simp, by simp, by simp, sameLocal_taken ?_, by simp [tally]⟩
    exact ⟨rfl, rfl, rfl, rfl, rfl, rfl, rfl, rfl, rfl, fun c => .inl rfl⟩

/-- Settles O27: the station is cleared and, outside LISTEN, SYNCING; it sends no CLAIM, so what it queued again is not
offered in the same step. -/
theorem absentSelfRequeuesTheStarts : Obligations.AbsentSelfRequeuesTheStarts := by
  intro rx s h hzero htool
  obtain ⟨htakes, htx⟩ := takes_of_takesOther h
  have hop := takesPart_operating (takesPart_of_takes htakes)
  refine ⟨_, exec_taken (c := .absent rx s.own) rfl htakes rfl, ?_⟩
  have hbody : applyAbsent rx.sender s.own s.bus.tx (s.heard rx (.absent s.own))
      = (s.heard rx (.absent s.own)).selfAbsent rx.sender := by
    unfold applyAbsent
    rw [if_neg (fun hor => hor.elim hzero htool), if_pos (heard_own s rx _).symm]
  rw [hbody]
  obtain ⟨hstarts, hdraws, hengine, hchannels, htop, hjoined, hlisten⟩ :=
    (s.heard rx (.absent s.own)).selfAbsent_says rx.sender
  obtain ⟨hcs, hcd, hcm, hci⟩ := (s.heard rx (.absent s.own)).selfCleared_tables
  obtain ⟨hds, hdd⟩ := (s.heard rx (.absent s.own)).dropOwner_all (s.heard rx (.absent s.own)).own
  have hstate : ((s.heard rx (.absent s.own)).selfAbsent rx.sender).member.state ≠ .inStep
      ∧ ((s.heard rx (.absent s.own)).selfAbsent rx.sender).member.state ≠ .isolated := by
    cases hj : s.member.state.joinedUp
    · rw [hlisten (by rw [heard_joinedUp]; exact hj)]
      rw [← heard_joinedUp s rx (.absent s.own)] at hj
      constructor <;> intro he <;> rw [he] at hj <;> cases hj
    · rw [(hjoined (by rw [heard_joinedUp]; exact hj)).1]
      decide
  have hclear (c : Chan) : ((s.heard rx (.absent s.own)).selfAbsent rx.sender).chan c
      = (s.heard rx (.absent s.own)).selfCleared.chan c := chan_of_channels hchannels c
  refine ⟨?_, ?_, by simpa using htop, fun hne => ?_, fun he => ?_, fun hl c hin => ?_, fun c hout => ?_⟩
  · simpa [hstarts, hcs] using hds
  · simpa [hdraws, hcd] using hdd
  · simpa using hjoined (by rw [heard_joinedUp]; exact joinedUp_of_operating hop hne)
  · have hstay := hlisten (by rw [heard_joinedUp, he]; rfl)
    rw [heard_of_other htx, hearPeer_state, he] at hstay
    simpa [heard_of_other htx] using hstay
  · have hcut := (s.heard rx (.absent s.own)).selfCleared_chan c
    rw [heard_live, chan_heard, if_pos ⟨hl, hin⟩] at hcut
    have hstay := chan_frameEnds_finish_barred
      (s := (s.heard rx (.absent s.own)).selfAbsent rx.sender) (c := c) (by rw [hclear, hcut]) (.inl hstate)
    rw [hstay, hclear, hcut]
    refine ⟨rfl, ⟨rfl, rfl⟩, rfl, ?_⟩
    simpa [hengine] using selfCleared_engine (s := s.heard rx (.absent s.own)) (c := c) (by simpa using hl)
      (by rw [chan_heard]; exact hin)
  · have hcut := (s.heard rx (.absent s.own)).selfCleared_chan c
    rw [chan_heard, if_neg fun h => by rw [hout] at h; exact absurd h.2 (by decide)] at hcut
    have hend := sameButOffer_frameEnds_finish ((s.heard rx (.absent s.own)).selfAbsent rx.sender) c
    rw [hclear, hcut] at hend
    exact hend

end Sys2Proof.Machine
end

section
/-! Void frames, own and others' (R35, R99, R133, R136, R143, R155, R156, R158, R159, R176; O30). -/

namespace Sys2Proof.Machine

open Sys2Proof

namespace State

/-- The own frame was voided: the slot empties, frames sent and voided rise (R155). -/
def sentVoided (s : State) : State :=
  s.clearTx.tally fun k => { k with sent := satSucc 65535 k.sent, voided := satSucc 65535 k.voided }

@[simp] theorem sentVoided_keeps (s : State) :
    s.sentVoided.queue = s.queue ∧ s.sentVoided.channels = s.channels ∧ s.sentVoided.engine = s.engine
      ∧ s.sentVoided.member = s.member ∧ s.sentVoided.faults = s.faults ∧ s.sentVoided.answer = s.answer
      ∧ s.sentVoided.notice = s.notice ∧ s.sentVoided.inh = s.inh ∧ s.sentVoided.loader = s.loader
      ∧ s.sentVoided.bus.releaseVoids = s.bus.releaseVoids :=
  ⟨rfl, rfl, rfl, rfl, rfl, rfl, rfl, rfl, rfl, rfl⟩

@[simp] theorem sentVoided_peer (s : State) (a : Addr) : s.sentVoided.peer a = s.peer a := rfl

@[simp] theorem sentVoided_presenceMs (s : State) : s.sentVoided.presenceMs = s.presenceMs := rfl

theorem exec_frameVoided_own {s : State} {x : TxFrame} (raw : RawFrame) (hpart : s.takesPart = true)
    (htx : s.bus.tx = some x) : exec (.frameVoided raw) s = .next (s.ownVoided x).frameEnds.finish := by
  show execFrameVoided raw s = _
  simp [execFrameVoided, hpart, htx]

theorem exec_frameVoided_other {s : State} (raw : RawFrame) (hpart : s.takesPart = true) (htx : s.bus.tx = none) :
    exec (.frameVoided raw) s = .next (s.otherVoided raw).frameEnds.finish := by
  show execFrameVoided raw s = _
  simp [execFrameVoided, hpart, htx]

/-! ## What a voided own frame's source does -/

theorem ownVoided_abandoned {s : State} {x : TxFrame} {p : AbandonedPayload} (h : x.frame = .abandoned p) :
    s.ownVoided x = s.sentVoided.releaseVoided p.ch := by
  unfold ownVoided
  rw [h]
  rfl

theorem ownVoided_stopped {s : State} {x : TxFrame} {p : StoppedPayload} (h : x.frame = .stopped p) :
    s.ownVoided x = s.sentVoided.releaseVoided p.ch := by
  unfold ownVoided
  rw [h]
  rfl

theorem ownVoided_settled {s : State} {x : TxFrame} {p : SettledPayload} (h : x.frame = .settled p) :
    s.ownVoided x =
      if s.live then (s.sentVoided.releaseVoided p.ch).settleEnded p.ch else s.sentVoided.releaseVoided p.ch := by
  unfold ownVoided
  rw [h]
  rfl

theorem ownVoided_renew {s : State} {x : TxFrame} {p : RenewPayload} (h : x.frame = .renew p) (hl : s.live = true) :
    s.ownVoided x = s.sentVoided.renewVoided p.ch := by
  unfold ownVoided
  rw [h]
  exact if_pos hl

theorem ownVoided_claim {s : State} {x : TxFrame} {p : ClaimPayload} (h : x.frame = .claim p) (hl : s.live = true) :
    s.ownVoided x = s.sentVoided.claimVoided x p.ch := by
  unfold ownVoided
  rw [h]
  exact if_pos hl

theorem ownVoided_shedCall {s : State} {x : TxFrame} {p : ShedCallPayload} (h : x.frame = .shedCall p) :
    s.ownVoided x = s.sentVoided.shedCallVoided p.callSeq := by
  unfold ownVoided
  rw [h]
  rfl

theorem ownVoided_syncReq {s : State} {x : TxFrame} {a : Addr} (h : x.frame = .syncReq a) :
    s.ownVoided x = s.sentVoided.syncReqVoided a := by
  unfold ownVoided
  rw [h]
  rfl

theorem ownVoided_hello {s : State} {x : TxFrame} {p : HelloPayload} (h : x.frame = .hello p) :
    s.ownVoided x = s.sentVoided.helloVoided := by
  unfold ownVoided
  rw [h]
  rfl

theorem ownVoided_presence {s : State} {x : TxFrame} {p : PresencePayload} (h : x.frame = .presence p) :
    s.ownVoided x =
      { s.sentVoided with member.presenceTimer := some s.presenceMs, member.presenceDue := false } := by
  unfold ownVoided
  rw [h]
  rfl

theorem ownVoided_answer {s : State} {x : TxFrame} {p : AnswerPayload} (h : x.frame = .answer p) :
    s.ownVoided x = s.sentVoided.answerVoided := by
  unfold ownVoided
  rw [h]
  rfl

/-! ## Each source's part -/

theorem releaseVoided_says (s : State) (c : Chan) :
    (s.releaseVoided c).bus.releaseVoids.get c = satSucc 255 (s.bus.releaseVoids.get c)
      ∧ (7 ≤ s.bus.releaseVoids.get c → (s.releaseVoided c).bus.degraded = true)
      ∧ (s.releaseVoided c).channels = s.channels := by
  refine ⟨?_, fun h => ?_, rfl⟩
  · simp [releaseVoided, Four.get_set]
  · have hn : 8 ≤ satSucc 255 (s.bus.releaseVoids.get c) := by
      unfold satSucc
      split <;> omega
    simp [releaseVoided, hn]

/-- A release that is voided and not taken back: its count rises, and it stands (R159). -/
theorem releaseVoided_finish {s : State} (c : Chan) :
    (s.sentVoided.releaseVoided c).frameEnds.finish.bus.releaseVoids.get c = satSucc 255 (s.bus.releaseVoids.get c)
      ∧ (7 ≤ s.bus.releaseVoids.get c → (s.sentVoided.releaseVoided c).frameEnds.finish.bus.degraded = true)
      ∧ ((s.sentVoided.releaseVoided c).frameEnds.finish.chan c).release = (s.chan c).release := by
  obtain ⟨hvoids, hdegraded, hchannels⟩ := s.sentVoided.releaseVoided_says c
  refine ⟨by simpa using hvoids, fun h => by simpa using hdegraded h, ?_⟩
  have hend := sameButOffer_frameEnds_finish (s.sentVoided.releaseVoided c) c
  rw [chan_of_channels hchannels] at hend
  exact (fields_of_sameButOffer hend).2.2.1

theorem settleEnded_of_withdrawn {s : State} {c : Chan} (h : (s.chan c).settleWithdrawn = true) :
    s.settleEnded c = s.replaceSettled c (.abandoned .requestOff) := if_pos h

theorem settleEnded_of_not {s : State} {c : Chan} (h : (s.chan c).settleWithdrawn = false) : s.settleEnded c = s :=
  if_neg (by rw [h]; decide)

/-- A settle taken back owes ABANDONED(REQUEST_OFF) when it ends (R71). -/
theorem settleVoided_finish {s : State} {c : Chan} (h : (s.chan c).settleWithdrawn = true) {u : State}
    (hu : u = (s.sentVoided.releaseVoided c).settleEnded c) :
    (u.frameEnds.finish.chan c).release = .abandoned .requestOff ∧ (u.frameEnds.finish.chan c).settleWithdrawn = false
      ∧ (u.frameEnds.finish.chan c).seq = (s.chan c).seq := by
  have hend := sameButOffer_frameEnds_finish u c
  rw [hu, settleEnded_of_withdrawn (show ((s.sentVoided.releaseVoided c).chan c).settleWithdrawn = true from h),
    chan_replaceSettled, if_pos rfl] at hend
  rw [hu, settleEnded_of_withdrawn (show ((s.sentVoided.releaseVoided c).chan c).settleWithdrawn = true from h)]
  obtain ⟨-, -, hrel, hback, hseq, -⟩ := fields_of_sameButOffer hend
  exact ⟨hrel, hback, hseq⟩

theorem renewVoided_says (s : State) (c : Chan) :
    (s.engine.renewVoids.get c < 7 → (s.renewVoided c).engine.renewVoids.get c = s.engine.renewVoids.get c + 1)
      ∧ (s.engine.renewVoids.get c = 7 → (s.renewVoided c).engine.exhausted.get c = true
        ∧ ∃ r, (s.renewVoided c).faults.records.head? = some r ∧ r.kind = .retryExhausted ∧ r.ch = some c) := by
  unfold renewVoided
  dsimp only
  refine ⟨fun h => ?_, fun h => ?_⟩
  · rw [if_neg (by omega)]
    simp only [Four.get_set, if_true]
    omega
  · rw [if_pos (by omega)]
    exact ⟨by simp [Four.get_set], _, rfl, rfl, rfl⟩

theorem shedCallVoided_says {s : State} {q : Seq} {k : ShedCall} (h : s.queue.shedCall = some k)
    (hq : k.callSeq = q) :
    (s.shedCallVoided q).queue.entries = s.queue.entries ∧ (s.shedCallVoided q).notice = s.notice
      ∧ (k.voids < 7 → (s.shedCallVoided q).queue.shedCall = some { k with voids := k.voids + 1 }
        ∧ (s.shedCallVoided q).faults = s.faults)
      ∧ (7 ≤ k.voids → (s.shedCallVoided q).queue.shedCall = none
        ∧ ∃ r, (s.shedCallVoided q).faults.records.head? = some r ∧ r.kind = .retryExhausted ∧ r.ch = some k.ch) := by
  have hcase : s.shedCallVoided q = if 8 ≤ k.voids + 1 then s.endShedNeed.log .retryExhausted (some k.ch) none none
      else { s with queue.shedCall := some { k with voids := k.voids + 1 } } := by
    unfold shedCallVoided
    rw [h]
    exact if_pos hq
  rw [hcase]
  by_cases hv : 8 ≤ k.voids + 1
  · rw [if_pos hv]
    exact ⟨rfl, rfl, fun h => by omega, fun _ => ⟨rfl, _, rfl, rfl, rfl⟩⟩
  · rw [if_neg hv]
    exact ⟨rfl, rfl, fun _ => ⟨rfl, rfl⟩, fun h => by omega⟩

theorem syncReqVoided_own {s : State} {a : Addr} (h : s.isOwnRequest a = true) :
    (s.syncReqVoided a).member.state = s.member.state
      ∧ (s.syncReqVoided a).member.ownVoids = s.member.ownVoids + 1
      ∧ (s.member.ownVoids < 7 → (s.syncReqVoided a).member.ownRequest = s.member.ownRequest
        ∧ (s.syncReqVoided a).faults = s.faults)
      ∧ (7 ≤ s.member.ownVoids → (s.syncReqVoided a).member.ownRequest = none
        ∧ ∃ r, (s.syncReqVoided a).faults.records.head? = some r ∧ r.kind = .retryExhausted ∧ r.ch = none
          ∧ r.peer = none) := by
  unfold syncReqVoided
  rw [if_pos h]
  by_cases hv : 8 ≤ s.member.ownVoids + 1
  · rw [if_pos hv]
    exact ⟨rfl, rfl, fun h => by omega, fun _ => ⟨rfl, _, rfl, rfl, rfl, rfl⟩⟩
  · rw [if_neg hv]
    exact ⟨rfl, rfl, fun _ => ⟨rfl, rfl⟩, fun h => by omega⟩

theorem syncReqVoided_peer {s : State} {a : Addr} (h : s.isOwnRequest a = false)
    (howed : (s.peer a).requestOwed = true) :
    ((s.syncReqVoided a).peer a).suspect = true ∧ (s.syncReqVoided a).member.ownRequest = s.member.ownRequest
      ∧ ((s.peer a).requestVoids < 7 →
        ((s.syncReqVoided a).peer a).requestVoids = (s.peer a).requestVoids + 1 ∧ (s.syncReqVoided a).faults = s.faults)
      ∧ (7 ≤ (s.peer a).requestVoids →
        ((s.syncReqVoided a).peer a).requestVoids = 0 ∧ ((s.syncReqVoided a).peer a).requestTimer = some s.presenceMs
          ∧ ∃ r, (s.syncReqVoided a).faults.records.head? = some r ∧ r.kind = .retryExhausted ∧ r.peer = some a) := by
  have hsuspect : (s.peer a).suspect = true := by
    simp only [RosterSlot.requestOwed, Bool.and_eq_true] at howed
    exact howed.1.2
  unfold syncReqVoided
  rw [if_neg (by rw [h]; decide), if_pos howed]
  by_cases hv : 8 ≤ (s.peer a).requestVoids + 1
  · rw [if_pos hv]
    have hpeer := peer_modPeer_self s a fun x => { x with requestVoids := 0, requestTimer := some s.presenceMs }
    have hlog : ((s.modPeer a fun x => { x with requestVoids := 0, requestTimer := some s.presenceMs }).log .retryExhausted
        none none (some a)).peer a = { s.peer a with requestVoids := 0, requestTimer := some s.presenceMs } := hpeer
    rw [hlog]
    exact ⟨hsuspect, by simp, fun h => by omega, fun _ => ⟨rfl, rfl, _, rfl, rfl, rfl⟩⟩
  · rw [if_neg hv, peer_modPeer_self]
    exact ⟨hsuspect, by simp, fun _ => ⟨rfl, by simp⟩, fun h => by omega⟩

theorem helloVoided_says (s : State) :
    s.helloVoided.member.helloVoids = s.member.helloVoids + 1
      ∧ (s.member.helloVoids < 7 → s.helloVoided.member.helloDue = s.member.helloDue
        ∧ s.helloVoided.faults = s.faults)
      ∧ (7 ≤ s.member.helloVoids → s.helloVoided.member.helloDue = false
        ∧ ∃ r, s.helloVoided.faults.records.head? = some r ∧ r.kind = .retryExhausted ∧ r.ch = none) := by
  unfold helloVoided
  dsimp only
  by_cases hv : 8 ≤ s.member.helloVoids + 1
  · rw [if_pos hv]
    exact ⟨rfl, fun h => by omega, fun _ => ⟨rfl, _, rfl, rfl, rfl⟩⟩
  · rw [if_neg hv]
    exact ⟨rfl, fun _ => ⟨rfl, rfl⟩, fun h => by omega⟩

theorem answerVoided_says {s : State} {a : PendingAnswer} (h : s.answer = some a) :
    s.answerVoided.answer = if 1 ≤ a.voids then none else some { a with voids := a.voids + 1 } := by
  unfold answerVoided
  rw [h]
  by_cases hv : 1 ≤ a.voids
  · exact (congrArg answer (if_pos (show 2 ≤ a.voids + 1 by omega))).trans (if_pos hv).symm
  · exact (congrArg answer (if_neg (show ¬2 ≤ a.voids + 1 by omega))).trans (if_neg hv).symm

/-- Whatever its source does, a voided own frame is counted and leaves the slot (R155). -/
theorem ownVoided_counters (s : State) (x : TxFrame) :
    (s.ownVoided x).bus.counters = s.sentVoided.bus.counters := by
  have hsettle (u : State) (c : Chan) : (u.settleEnded c).bus.counters = u.bus.counters := by
    unfold settleEnded
    split <;> simp
  have hrelease (u : State) (c : Chan) : (u.releaseVoided c).bus.counters = u.bus.counters := rfl
  unfold ownVoided
  dsimp only
  split <;> try split
  all_goals simp [sentVoided, hsettle, hrelease]

/-! ## A void frame of another station -/

theorem foundIncomplete_of_no_tx {s : State} (htx : s.bus.tx = none) :
    s.foundIncomplete =
      if s.member.state.joinedUp then s.countObjection.enterSyncing .all else s.countObjection := by
  have hyields : s.yieldsLine = s := by
    unfold yieldsLine
    rw [htx]
  rw [foundIncomplete_eq, hyields]
  rfl

/-- A frame found incomplete while none is sent is counted, and outside LISTEN leads to SYNCING with a request for all
(R156). -/
theorem foundIncomplete_says {s : State} (htx : s.bus.tx = none) :
    s.foundIncomplete.bus.counters = { s.bus.counters with objections := satSucc 65535 s.bus.counters.objections }
      ∧ sameLocal s s.foundIncomplete
      ∧ (s.member.state.joinedUp = false → s.foundIncomplete.member = s.member)
      ∧ (s.member.state.joinedUp = true →
        s.foundIncomplete.member.state = .syncing ∧ s.foundIncomplete.member.ownRequest = some .all
          ∧ s.foundIncomplete.member.ownAccepted = false
          ∧ s.foundIncomplete.member.syncTimeout = some (2 * s.presenceMs)) := by
  rw [foundIncomplete_of_no_tx htx]
  cases hj : s.member.state.joinedUp
  · rw [if_neg (by decide)]
    exact ⟨rfl, sameLocal_of_keeps rfl ⟨rfl, rfl, rfl, rfl, rfl, rfl, rfl, rfl, rfl⟩, fun _ => rfl, fun h => by simp at h⟩
  · rw [if_pos rfl]
    refine ⟨by simp [countObjection, tally], sameLocal_of_keeps (by simp) (by simp), fun h => by simp at h, fun _ => ?_⟩
    rw [enterSyncing_member]
    exact ⟨rfl, by simp, rfl, rfl⟩

theorem otherVoided_of_incomplete {s : State} {raw : RawFrame}
    (h : frameIncomplete (slotTime s.group.bitRate) raw = true) : s.otherVoided raw = s.foundIncomplete := if_pos h

theorem otherVoided_of_whole {s : State} {raw : RawFrame}
    (h : frameIncomplete (slotTime s.group.bitRate) raw = false) :
    s.otherVoided raw = if readFrame (slotTime s.group.bitRate) raw = none then s.countObjection else s := by
  unfold otherVoided
  rw [if_neg (by rw [h]; decide)]
  cases readFrame (slotTime s.group.bitRate) raw <;> simp

end State

open State

/-- Settles O30: a voided own frame is counted and its source does its own part; the end of the step writes none of the
fields that these parts write. -/
theorem voidedFrames : Obligations.VoidedFrames := by
  intro raw s hpart
  have hop := takesPart_operating hpart
  cases htx : s.bus.tx with
  | none =>
    refine ⟨_, exec_frameVoided_other raw hpart htx, by simp, by simp, by simpa using tx_otherVoided htx raw,
      fun _ => ?_, fun x hx => by cases hx⟩
    obtain ⟨hcount, hlocal, hlisten, hsync⟩ := foundIncomplete_says htx
    cases hinc : frameIncomplete (slotTime s.group.bitRate) raw
    · rw [otherVoided_of_whole hinc]
      by_cases hread : readFrame (slotTime s.group.bitRate) raw = none
      · rw [if_pos hread, if_pos (.inr hread)]
        exact ⟨by simp [countObjection, tally], sameLocal_taken (sameLocal_of_keeps rfl ⟨rfl, rfl, rfl, rfl, rfl, rfl, rfl, rfl, rfl⟩),
          fun _ => by simp, fun h => by simp at h⟩
      · rw [if_neg hread, if_neg (by simp [hread])]
        exact ⟨by simp, frameEnds_finish_sameLocal s, fun _ => by simp, fun h => by simp at h⟩
    · rw [otherVoided_of_incomplete hinc, if_pos (.inl rfl)]
      refine ⟨by simpa using hcount, sameLocal_taken hlocal, fun h => ?_, fun _ hne => ?_⟩
      · simpa using hlisten (by rw [h.resolve_left (by decide)]; rfl)
      · simpa using hsync (joinedUp_of_operating hop hne)
  | some x =>
    have hcount := s.ownVoided_counters x
    refine ⟨_, exec_frameVoided_own raw hpart htx, by simp, by simp, by simpa using tx_ownVoided s x,
      fun h => by (cases h), fun y hy => ?_⟩
    cases hy
    refine ⟨by simp [hcount, sentVoided, tally], by simp [hcount, sentVoided, tally], fun p hf => ?_, fun p hf => ?_,
      fun p hf => ⟨fun hseven => ?_, fun hl hback => ?_, fun hnot => ?_⟩, fun p hf hl => ?_, fun p k hf hk hq hn => ?_,
      fun a hf hown => ?_, fun a hf hown howed => ?_, fun p hf => ?_, fun p hf => ?_, fun p a hf ha => ?_⟩
    · rw [ownVoided_abandoned hf]
      exact releaseVoided_finish p.ch
    · rw [ownVoided_stopped hf]
      exact releaseVoided_finish p.ch
    · have hdegraded := (s.sentVoided.releaseVoided_says p.ch).2.1 hseven
      rw [ownVoided_settled hf]
      split
      · unfold settleEnded
        split <;> simpa using hdegraded
      · simpa using hdegraded
    · rw [ownVoided_settled hf, if_pos hl]
      exact settleVoided_finish hback rfl
    · have hplain : s.ownVoided x = s.sentVoided.releaseVoided p.ch := by
        rw [ownVoided_settled hf]
        split
        · next hl => exact settleEnded_of_not (s := s.sentVoided.releaseVoided p.ch) (hnot.resolve_left (by rw [hl]; decide))
        · rfl
      rw [hplain]
      obtain ⟨hvoids, -, hrel⟩ := releaseVoided_finish (s := s) p.ch
      exact ⟨hvoids, hrel⟩
    · rw [ownVoided_renew hf hl]
      simpa using s.sentVoided.renewVoided_says p.ch
    · rw [ownVoided_shedCall hf]
      obtain ⟨hentries, hnotice, hless, hmore⟩ := shedCallVoided_says (s := s.sentVoided) hk hq
      obtain ⟨hqueue, -⟩ := frameEnds_finish_of_no_notice (s := s.sentVoided.shedCallVoided p.callSeq)
        (hnotice.trans hn)
      rw [hqueue]
      exact ⟨hentries, by simpa using hless, by simpa using hmore⟩
    · rw [ownVoided_syncReq hf]
      simpa using syncReqVoided_own (s := s.sentVoided) hown
    · rw [ownVoided_syncReq hf, peer_of_roster (s := s.sentVoided.syncReqVoided a) (by simp)]
      simpa using syncReqVoided_peer (s := s.sentVoided) hown howed
    · rw [ownVoided_hello hf]
      simpa using s.sentVoided.helloVoided_says
    · rw [ownVoided_presence hf]
      simp
    · rw [ownVoided_answer hf]
      simpa using answerVoided_says (s := s.sentVoided) ha

end Sys2Proof.Machine
end

section
/-! The claim counter, and an entry that the end of a step leaves QUEUED (R51-R60; O31, O32). -/

namespace Sys2Proof.Machine

open Sys2Proof

namespace State

/-! ## The claim counter -/

@[simp] theorem claimSeq_modEntry (s : State) (c : Chan) (f : QueueEntry → QueueEntry) :
    (s.modEntry c f).queue.claimSeq = s.queue.claimSeq := rfl

@[simp] theorem claimSeq_requeue (s : State) (c : Chan) : (s.requeue c).queue.claimSeq = s.queue.claimSeq := rfl

@[simp] theorem claimSeq_judgeShedNeed (s : State) (e : QueueEntry) :
    (s.judgeShedNeed e).queue.claimSeq = s.queue.claimSeq := by
  unfold judgeShedNeed endShedNeed
  split <;> rfl

@[simp] theorem claimSeq_withdrawBehind (l : List QueueEntry) (s : State) :
    (s.withdrawBehind l).queue.claimSeq = s.queue.claimSeq := by
  induction l generalizing s with
  | nil => rfl
  | cons e es ih =>
    rw [withdrawBehind, ih]
    split <;> rfl

@[simp] theorem claimSeq_judgeHead (s : State) : s.judgeHead.queue.claimSeq = s.queue.claimSeq := by
  unfold judgeHead
  split
  · rfl
  · split
    · split
      · rfl
      · exact claimSeq_judgeShedNeed _ _
    · split
      · rfl
      · exact claimSeq_judgeShedNeed _ _
    all_goals rfl

@[simp] theorem claimSeq_evaluate (s : State) : s.evaluate.queue.claimSeq = s.queue.claimSeq := by
  rw [evaluate, claimSeq_judgeHead, claimSeq_withdrawBehind]

@[simp] theorem claimSeq_takeNotice (s : State) : s.takeNotice.queue.claimSeq = s.queue.claimSeq := by
  unfold takeNotice
  split
  · split
    · exact claimSeq_evaluate _
    · rfl
  · rfl

@[simp] theorem claimSeq_build (s : State) (src : Source) : (s.build src).1.queue.claimSeq = s.queue.claimSeq := by
  cases src with
  | claim eff =>
    show (s.buildClaim eff).1.queue.claimSeq = _
    cases hf : (s.buildClaim eff).2 with
    | some f =>
      obtain ⟨e, rest, -, -, -, -, -, heq⟩ := buildClaim_some hf
      rw [heq]
      rfl
    | none =>
      rcases buildClaim_none hf with heq | ⟨e, rest, -, -, -, heq⟩ <;> rw [heq]
      rfl
  | shedCall =>
    show s.buildShedCall.1.queue.claimSeq = _
    unfold buildShedCall
    split
    · rfl
    · split
      · dsimp only
        split <;> rfl
      · rfl
  | release | expire | absent | renewal | recount | syncReq | hello | presence | answer => rfl

@[simp] theorem claimSeq_trySources (l : List Source) (s : State) :
    (s.trySources l).queue.claimSeq = s.queue.claimSeq := by
  induction l generalizing s with
  | nil => rfl
  | cons src rest ih =>
    have hbuild := s.claimSeq_build src
    unfold trySources
    split
    · split
      · next s' f heq =>
        rw [heq] at hbuild
        exact hbuild
      · next s' heq =>
        rw [heq] at hbuild
        rw [ih, hbuild]
    · exact ih s

@[simp] theorem claimSeq_finish (s : State) : s.finish.queue.claimSeq = s.queue.claimSeq := by
  have hsel : s.takeNotice.select.queue.claimSeq = s.takeNotice.queue.claimSeq := by
    unfold select
    split
    · exact claimSeq_trySources _ _
    · rfl
  have hrefresh : s.finish.queue = s.takeNotice.select.queue := by rw [finish]; simp
  rw [hrefresh, hsel, claimSeq_takeNotice]

@[simp] theorem claimSeq_reform (s : State) : s.reform.queue.claimSeq = s.queue.claimSeq := rfl

@[simp] theorem claimSeq_join (s : State) (c : Chan) : (s.join c).queue.claimSeq = s.queue.claimSeq := by
  rw [join_eq]
  show (s.queue.joined (s.cfg c) c).claimSeq = _
  unfold ClaimQueue.joined
  split <;> rfl

@[simp] theorem claimSeq_deferredJoin (s : State) (c : Chan) :
    (s.deferredJoin c).queue.claimSeq = s.queue.claimSeq := by
  unfold deferredJoin
  split
  · exact claimSeq_join s c
  · rfl

@[simp] theorem claimSeq_claimEnded (s : State) (t : TxFrame) (c : Chan) :
    (s.claimEnded t c).queue.claimSeq = s.queue.claimSeq := by
  unfold claimEnded
  split
  · exact claimSeq_deferredJoin s c
  · split
    · split <;> rfl
    · rfl

@[simp] theorem claimSeq_claimVoided (s : State) (t : TxFrame) (c : Chan) :
    (s.claimVoided t c).queue.claimSeq = s.queue.claimSeq := by
  unfold claimVoided
  split
  · exact claimSeq_deferredJoin s c
  · rw [claimSeq_claimEnded]
    simp

/-! ## An entry that stays QUEUED -/

/-- A channel's entry is not offered by the next evaluation: it is not the head, or it is barred. -/
def quiet (s : State) (c : Chan) : Prop := s.isHead c = false ∨ s.barred c

/-- A channel is QUEUED, an entry of it stands in the queue, and the next evaluation does not offer it. -/
structure rests (s : State) (c : Chan) (x : QueueEntry) : Prop where
  listed : x ∈ s.queue.entries
  its : x.ch = c
  queued : (s.chan c).state = .queued
  quiet : s.quiet c

theorem isHead_congr {s t : State} (h : t.queue.entries = s.queue.entries) (c : Chan) : t.isHead c = s.isHead c := by
  unfold isHead
  rw [h]

theorem isHead_map {s t : State} {g : QueueEntry → QueueEntry} (hg : ∀ e, (g e).ch = e.ch)
    (h : t.queue.entries = s.queue.entries.map g) (c : Chan) : t.isHead c = s.isHead c := by
  unfold isHead
  rw [h]
  cases s.queue.entries with
  | nil => rfl
  | cons e es => simp [hg]

theorem isHead_modEntry (s : State) (d c : Chan) {f : QueueEntry → QueueEntry} (hf : ∀ e, (f e).ch = e.ch) :
    (s.modEntry d f).isHead c = s.isHead c :=
  isHead_map (g := fun e => if e.ch = d then f e else e) (fun e => by split <;> simp [hf]) rfl c

theorem isHead_requeue (s : State) (d c : Chan) : (s.requeue d).isHead c = s.isHead c :=
  (isHead_congr rfl c).trans (isHead_modEntry s d c (f := fun e => { e with voids := 0, offered := none }) fun _ => rfl)

theorem mem_requeue_other {s : State} {c d : Chan} {x : QueueEntry} (hx : x ∈ s.queue.entries) (hc : x.ch = c)
    (hd : d ≠ c) : x ∈ (s.requeue d).queue.entries :=
  List.mem_map.mpr ⟨x, hx, if_neg fun h => hd (h.symm.trans hc)⟩

theorem mem_requeue_self {s : State} {c : Chan} {x : QueueEntry} (hx : x ∈ s.queue.entries) (hc : x.ch = c) :
    { x with voids := 0, offered := none } ∈ (s.requeue c).queue.entries := List.mem_map.mpr ⟨x, hx, if_pos hc⟩

theorem rests_requeue {s : State} {c d : Chan} {x : QueueEntry} (h : s.rests c x) (hd : (s.chan d).state = .claiming) :
    (s.requeue d).rests c x := by
  have hne : d ≠ c := fun he => by rw [he, h.queued] at hd; cases hd
  have hchan := chan_requeue_queued hd h.queued
  refine ⟨mem_requeue_other h.listed h.its hne, h.its, by rw [hchan]; exact h.queued, ?_⟩
  rcases h.quiet with hhead | hb
  · exact .inl ((isHead_requeue s d c).trans hhead)
  · exact .inr (barred_congr hb rfl rfl hchan)

theorem rests_withdrawBehind {c : Chan} {x : QueueEntry} (l : List QueueEntry) {s : State} (h : s.rests c x) :
    (s.withdrawBehind l).rests c x := by
  induction l generalizing s with
  | nil => exact h
  | cons e es ih =>
    rw [withdrawBehind]
    split
    · next hcl => exact ih (rests_requeue h hcl.1)
    · exact ih h

/-- The judgement of the head leaves a resting channel and its entry as they are. -/
theorem rests_judgeHead {s : State} {c : Chan} {x : QueueEntry} (h : s.rests c x) :
    x ∈ s.judgeHead.queue.entries ∧ s.judgeHead.chan c = s.chan c := by
  have hend (u : State) : u.endShedNeed.queue.entries = u.queue.entries ∧ u.endShedNeed.chan c = u.chan c := ⟨rfl, rfl⟩
  have hshed (u : State) (e : QueueEntry) : (u.judgeShedNeed e).queue.entries = u.queue.entries
      ∧ (u.judgeShedNeed e).chan c = u.chan c :=
    ⟨(judgeShedNeed_entries u e).1, chan_of_channels (judgeShedNeed_entries u e).2 c⟩
  unfold judgeHead
  split
  · exact ⟨h.listed, rfl⟩
  · next e rest hq =>
    split
    · split
      · next hoff =>
        have hne : e.ch ≠ c := by
          intro hc
          rcases h.quiet with hhead | hb
          · simp [isHead, hq, hc] at hhead
          · rw [offers_of_barred (by rw [hc]; exact hb)] at hoff
            cases hoff
        refine ⟨List.mem_map.mpr ⟨x, h.listed, if_neg fun hx => hne (hx.symm.trans h.its)⟩, ?_⟩
        rw [(hend _).2, chan_enter, if_neg (Ne.symm hne)]
        rfl
      · rw [(hshed s e).1]
        exact ⟨h.listed, (hshed s e).2⟩
    · next hcl =>
      split
      · exact ⟨h.listed, rfl⟩
      · rw [(hshed _ e).1, (hshed _ e).2]
        exact ⟨(rests_requeue h hcl).listed, chan_requeue_queued hcl h.queued⟩
    all_goals exact ⟨h.listed, rfl⟩

theorem rests_evaluate {s : State} {c : Chan} {x : QueueEntry} (h : s.rests c x) :
    x ∈ s.evaluate.queue.entries ∧ s.evaluate.chan c = s.chan c := by
  obtain ⟨hmem, hchan⟩ := rests_judgeHead (rests_withdrawBehind s.queue.entries.tail h)
  exact ⟨hmem, hchan.trans (chan_withdrawBehind_queued _ h.queued)⟩

/-- A resting channel and its entry stand as they are at the end of a frame. -/
theorem rests_frameEnds_finish {s : State} {c : Chan} {x : QueueEntry} (h : s.rests c x) :
    x ∈ s.frameEnds.finish.queue.entries ∧ s.frameEnds.finish.chan c = s.chan c := by
  rw [frameEnds_finish]
  have hq : s.frameEnds.takeNotice.refresh.queue = s.frameEnds.takeNotice.queue := by simp
  rw [hq, chan_of_channels (s := s.frameEnds.takeNotice) (by simp)]
  have hrest : ({ s.frameEnds with notice := false } : State).rests c x :=
    ⟨h.listed, h.its, h.queued, h.quiet.imp id id⟩
  unfold takeNotice
  split
  · split
    · exact rests_evaluate hrest
    · exact ⟨h.listed, rfl⟩
  · exact ⟨h.listed, rfl⟩

end State

end Sys2Proof.Machine
end

section
/-!
Own frames that end without acceptance: voided claims, a lost arbitration, an address clash, an incomplete frame
(R55-R60, R71, R152, R153, R156; O31, O32, O33, O34).
-/

namespace Sys2Proof.Machine

open Sys2Proof

namespace State

/-! ## The order of the queue at the end of a step -/

/-- The keys of the queue: channel, stamp, effective urgency, in the order of the entries. -/
def queueKeys (s : State) : List (Chan × Nat × Urg) := s.queue.entries.map QueueEntry.key

theorem queueKeys_of_entries {s t : State} (h : t.queue.entries = s.queue.entries) : t.queueKeys = s.queueKeys := by
  unfold queueKeys
  rw [h]

theorem queueKeys_requeue (s : State) (c : Chan) : (s.requeue c).queueKeys = s.queueKeys :=
  (queueKeys_of_entries rfl).trans
    (map_key_modEntry s c (f := fun e => { e with voids := 0, offered := none }) fun _ => rfl)

theorem queueKeys_judgeShedNeed (s : State) (e : QueueEntry) : (s.judgeShedNeed e).queueKeys = s.queueKeys :=
  queueKeys_of_entries (judgeShedNeed_entries s e).1

theorem queueKeys_withdrawBehind (l : List QueueEntry) (s : State) : (s.withdrawBehind l).queueKeys = s.queueKeys := by
  induction l generalizing s with
  | nil => rfl
  | cons e es ih =>
    rw [withdrawBehind, ih]
    split
    · exact queueKeys_requeue s e.ch
    · rfl

theorem queueKeys_judgeHead (s : State) : s.judgeHead.queueKeys = s.queueKeys := by
  unfold judgeHead
  split
  · rfl
  · split
    · split
      · exact (queueKeys_of_entries rfl).trans
          (map_key_modEntry s _ (f := fun e => { e with shedWait := none }) fun _ => rfl)
      · exact queueKeys_judgeShedNeed _ _
    · split
      · rfl
      · exact (queueKeys_judgeShedNeed _ _).trans (queueKeys_requeue s _)
    all_goals rfl

theorem queueKeys_takeNotice (s : State) : s.takeNotice.queueKeys = s.queueKeys := by
  unfold takeNotice
  split
  · split
    · exact (queueKeys_judgeHead _).trans (queueKeys_withdrawBehind _ _)
    · rfl
  · rfl

theorem queueKeys_build (s : State) (src : Source) : (s.build src).1.queueKeys = s.queueKeys := by
  cases src with
  | claim eff =>
    show (s.buildClaim eff).1.queueKeys = _
    cases hf : (s.buildClaim eff).2 with
    | some f =>
      obtain ⟨e, rest, -, -, -, -, -, heq⟩ := buildClaim_some hf
      rw [heq]
      exact map_key_modEntry s _ (f := fun x => { x with offered := some (s.claimSeqOf e) }) fun _ => rfl
    | none =>
      rcases buildClaim_none hf with heq | ⟨e, rest, -, -, -, heq⟩ <;> rw [heq]
      exact queueKeys_requeue s e.ch
  | shedCall =>
    refine queueKeys_of_entries (show s.buildShedCall.1.queue.entries = _ from ?_)
    unfold buildShedCall
    split
    · rfl
    · split
      · dsimp only
        split <;> rfl
      · rfl
  | release | expire | absent | renewal | recount | syncReq | hello | presence | answer => rfl

theorem queueKeys_trySources (l : List Source) (s : State) : (s.trySources l).queueKeys = s.queueKeys := by
  induction l generalizing s with
  | nil => rfl
  | cons src rest ih =>
    have hbuild := s.queueKeys_build src
    unfold trySources
    split
    · split
      · next s' f heq =>
        rw [heq] at hbuild
        exact hbuild
      · next s' heq =>
        rw [heq] at hbuild
        rw [ih, hbuild]
    · exact ih s

/-- The end of a step leaves the entries' channels, stamps and urgencies in their order (R47). -/
theorem queueKeys_finish (s : State) : s.finish.queueKeys = s.queueKeys := by
  have hsel : s.takeNotice.select.queueKeys = s.takeNotice.queueKeys := by
    unfold select
    split
    · exact queueKeys_trySources _ _
    · rfl
  have hrefresh : s.finish.queueKeys = s.takeNotice.select.queueKeys := queueKeys_of_entries (by rw [finish]; simp)
  rw [hrefresh, hsel, queueKeys_takeNotice]

theorem listed_iff_of_keys {s t : State} (h : t.queueKeys = s.queueKeys) (c : Chan) :
    (∃ e ∈ t.queue.entries, e.ch = c) ↔ ∃ e ∈ s.queue.entries, e.ch = c := by
  have hch (u : State) : (∃ e ∈ u.queue.entries, e.ch = c) ↔ c ∈ u.queueKeys.map (·.1) := by
    rw [queueKeys, ← map_ch_of_keys, List.mem_map]
  rw [hch t, hch s, h]

/-- A channel that joins is QUEUED, with an entry of its own (R48). -/
theorem listed_join (s : State) (c : Chan) : ∃ e ∈ (s.join c).queue.entries, e.ch = c := by
  have hjoined : ∃ e ∈ (s.queue.joined (s.cfg c) c).entries, e.ch = c := by
    unfold ClaimQueue.joined
    split
    · refine ⟨_, List.mem_map.mpr ⟨joinEntry (s.cfg c) c s.queue.nextStamp, ?_, rfl⟩, rfl⟩
      exact List.mem_append_right _ List.mem_cons_self
    · exact ⟨joinEntry (s.cfg c) c s.queue.nextStamp, List.mem_append_right _ List.mem_cons_self, rfl⟩
  obtain ⟨e, he, hc⟩ := hjoined
  exact ⟨e, (sortBy_perm _ _).mem_iff.mpr he, hc⟩

/-! ## An own claim voided -/

/-- A void of a claim: its entry keeps its offer with the void counted, or at the eighth loses it (R57). -/
theorem countClaimVoid_of_entry {s : State} {c : Chan} {e : QueueEntry} (h : s.queueEntry c = some e) :
    s.countClaimVoid c =
      if 8 ≤ e.voids + 1 then (s.requeue c).log .retryExhausted (some c) none none
      else s.modEntry c fun e => { e with voids := e.voids + 1 } := by
  unfold countClaimVoid
  rw [h]

theorem countClaimVoid_isHead (s : State) (c : Chan) : (s.countClaimVoid c).isHead c = s.isHead c := by
  unfold countClaimVoid
  split
  · split
    · exact isHead_requeue s c c
    · exact isHead_modEntry s c c (f := fun e => { e with voids := e.voids + 1 }) fun _ => rfl
  · rfl

theorem claimVoided_of_standing {s : State} {t : TxFrame} (h : t.withdrawn = false) (c : Chan) :
    s.claimVoided t c = (s.countClaimVoid c).claimEnded t c := if_neg (by rw [h]; decide)

theorem claimEnded_of_head {s : State} {t : TxFrame} {c : Chan} (h : t.withdrawn = false) (hhead : s.isHead c = true)
    (hinh : s.inh.asserted = false) : s.claimEnded t c = s := by
  unfold claimEnded
  rw [if_neg (by rw [h]; decide), if_pos hhead, if_neg (by rw [hinh]; decide)]

/-- A claim that ends behind the head, or while INH is asserted, returns its entry to QUEUED (R55, R60). -/
theorem claimEnded_of_lost {s : State} {t : TxFrame} {c : Chan} (h : t.withdrawn = false)
    (hlost : s.isHead c = false ∨ s.inh.asserted = true) :
    s.claimEnded t c = s.requeue c ∧ s.inh.asserted = true
      ∨ s.claimEnded t c = (s.requeue c).notify ∧ s.isHead c = false := by
  unfold claimEnded
  rw [if_neg (by rw [h]; decide)]
  cases hhead : s.isHead c
  · exact .inr ⟨if_neg (by decide), rfl⟩
  · have hinh := hlost.resolve_left (by rw [hhead]; decide)
    exact .inl ⟨by rw [if_pos rfl, if_pos hinh], hinh⟩

theorem rests_requeue_self {s : State} {c : Chan} {x : QueueEntry} (hx : x ∈ s.queue.entries) (hc : x.ch = c)
    (hlost : s.isHead c = false ∨ s.inh.asserted = true) :
    (s.requeue c).rests c { x with voids := 0, offered := none } := by
  refine ⟨mem_requeue_self hx hc, hc, by rw [chan_requeue, if_pos rfl], hlost.imp ?_ ?_⟩
  · exact (isHead_requeue s c c).trans
  · exact fun hinh => .inr (.inl hinh)

/-- The entry of a claim that ends behind the head, or while INH is asserted, rests in the queue. -/
theorem rests_claimEnded {s : State} {t : TxFrame} {c : Chan} {x : QueueEntry} (h : t.withdrawn = false)
    (hx : x ∈ s.queue.entries) (hc : x.ch = c) (hlost : s.isHead c = false ∨ s.inh.asserted = true) :
    (s.claimEnded t c).rests c { x with voids := 0, offered := none } := by
  have hrest := rests_requeue_self hx hc hlost
  rcases claimEnded_of_lost h hlost with ⟨heq, -⟩ | ⟨heq, -⟩
  · rw [heq]
    exact hrest
  · rw [heq]
    exact ⟨hrest.listed, hrest.its, hrest.queued, hrest.quiet.imp id id⟩

/-- A void of a claim, as the fault list and the claim's entry see it. -/
theorem countClaimVoid_says {s : State} {c : Chan} {e : QueueEntry} (h : s.queueEntry c = some e) :
    (∃ x ∈ (s.countClaimVoid c).queue.entries, x.ch = c ∧ { x with voids := 0, offered := none }
        = { e with voids := 0, offered := none })
      ∧ (e.voids < 7 → (s.countClaimVoid c).faults = s.faults)
      ∧ (7 ≤ e.voids → ∃ r, (s.countClaimVoid c).faults.records.head? = some r ∧ r.kind = .retryExhausted
        ∧ r.ch = some c) := by
  have hmem : e ∈ s.queue.entries := List.mem_of_find?_eq_some h
  have hch : e.ch = c := by simpa using List.find?_some h
  rw [countClaimVoid_of_entry h]
  by_cases hv : 8 ≤ e.voids + 1
  · rw [if_pos hv]
    exact ⟨⟨_, mem_requeue_self hmem hch, hch, rfl⟩, fun h => by omega, fun _ => ⟨_, rfl, rfl, rfl⟩⟩
  · rw [if_neg hv]
    exact ⟨⟨_, List.mem_map.mpr ⟨e, hmem, if_pos hch⟩, hch, rfl⟩, fun _ => rfl, fun h => by omega⟩

/-! ## An own frame that lost the line -/

theorem exec_arbitrationLost {s : State} {x : TxFrame} (hop : s.operating = true) (htx : s.bus.tx = some x) :
    exec .arbitrationLost s = .next (s.loseArbitration x).finish := by
  show execArbitrationLost s = _
  simp [execArbitrationLost, htx, hop]

theorem select_of_busy {s : State} (h : s.bus.lineBusy = true) : s.select = s := by simp [select, h]

theorem finish_of_busy {s : State} (h : s.bus.lineBusy = true) : s.finish = s.takeNotice.refresh := by
  rw [finish, select_of_busy (by simpa using h)]

/-- The own frame is cut short: the slot empties and the station receives (R152). -/
def lineLost (s : State) : State := { s.clearTx with bus.receiving := true }

/-- An arbitration lost is counted and the line given up. -/
def arbitrated (s : State) : State :=
  (s.tally fun k => { k with arbLosses := satSucc 65535 k.arbLosses }).lineLost

theorem loseArbitration_claim {s : State} {x : TxFrame} {p : ClaimPayload} (h : x.frame = .claim p)
    (hl : s.power.warning = false) : s.loseArbitration x = s.arbitrated.claimEnded x p.ch := by
  show ownLost _ x = _
  unfold ownLost
  rw [h]
  exact if_neg (by simp [hl])

theorem loseArbitration_settled {s : State} {x : TxFrame} {p : SettledPayload} (h : x.frame = .settled p)
    (hl : s.power.warning = false) : s.loseArbitration x = s.arbitrated.settleEnded p.ch := by
  show ownLost _ x = _
  unfold ownLost
  rw [h]
  exact if_neg (by simp [hl])

theorem loseArbitration_other {s : State} {x : TxFrame} (hclaim : ∀ p, x.frame ≠ .claim p)
    (hsettled : ∀ p, x.frame ≠ .settled p) : s.loseArbitration x = s.arbitrated := by
  show ownLost _ x = _
  unfold ownLost
  dsimp only
  split
  · rfl
  · split
    · next p h => exact absurd h (hclaim p)
    · next p h => exact absurd h (hsettled p)
    all_goals rfl

theorem loseArbitration_held {s : State} (x : TxFrame) (hl : s.power.warning = true) :
    s.loseArbitration x = s.arbitrated := if_pos hl

/-- What giving up the line leaves, whatever the frame was. -/
theorem loseArbitration_says (s : State) (x : TxFrame) :
    (s.loseArbitration x).starts = s.starts ∧ (s.loseArbitration x).draws = s.draws
      ∧ (s.loseArbitration x).member = s.member ∧ (s.loseArbitration x).engine = s.engine
      ∧ (s.loseArbitration x).queue.claimSeq = s.queue.claimSeq ∧ (s.loseArbitration x).faults = s.faults
      ∧ (s.loseArbitration x).bus.counters = { s.bus.counters with arbLosses := satSucc 65535 s.bus.counters.arbLosses }
      ∧ (s.loseArbitration x).bus.receiving = true ∧ (s.loseArbitration x).bus.lineBusy = s.bus.lineBusy := by
  have harb : s.arbitrated.starts = s.starts ∧ s.arbitrated.draws = s.draws ∧ s.arbitrated.member = s.member
      ∧ s.arbitrated.engine = s.engine ∧ s.arbitrated.queue.claimSeq = s.queue.claimSeq ∧ s.arbitrated.faults = s.faults
      ∧ s.arbitrated.bus.counters = { s.bus.counters with arbLosses := satSucc 65535 s.bus.counters.arbLosses }
      ∧ s.arbitrated.bus.receiving = true ∧ s.arbitrated.bus.lineBusy = s.bus.lineBusy :=
    ⟨rfl, rfl, rfl, rfl, rfl, rfl, rfl, rfl, rfl⟩
  by_cases hl : s.power.warning = true
  · rw [loseArbitration_held x hl]
    exact harb
  · have hl : s.power.warning = false := by simpa using hl
    by_cases hclaim : ∃ p, x.frame = .claim p
    · obtain ⟨p, hp⟩ := hclaim
      rw [loseArbitration_claim hp hl]
      simpa using harb
    · by_cases hsettled : ∃ p, x.frame = .settled p
      · obtain ⟨p, hp⟩ := hsettled
        rw [loseArbitration_settled hp hl]
        unfold settleEnded
        split
        · simpa using harb
        · exact harb
      · rw [loseArbitration_other (fun p hp => hclaim ⟨p, hp⟩) fun p hp => hsettled ⟨p, hp⟩]
        exact harb

theorem deferredJoin_of_demand {s : State} {c : Chan} (hst : (s.chan c).state = .idle) (hl : (s.chan c).latch = true) :
    s.deferredJoin c = s.join c := if_pos ⟨hst, hl⟩

theorem deferredJoin_of_none {s : State} {c : Chan} (h : (s.chan c).state ≠ .idle ∨ (s.chan c).latch = false) :
    s.deferredJoin c = s := if_neg fun hor => h.elim (fun h => h hor.1) fun h => by rw [h] at hor; exact absurd hor.2 (by decide)

theorem chan_deferredJoin_other (s : State) {c d : Chan} (h : d ≠ c) : (s.deferredJoin c).chan d = s.chan d := by
  unfold deferredJoin
  split
  · rw [chan_join, if_neg h]
  · rfl

theorem claimEnded_of_withdrawn {s : State} {t : TxFrame} (h : t.withdrawn = true) (c : Chan) :
    s.claimEnded t c = s.deferredJoin c := if_pos h

theorem notice_claimEnded_of_head {s : State} {c : Chan} : (s.countClaimVoid c).notice = s.notice := by
  unfold countClaimVoid
  split
  · split <;> rfl
  · rfl

theorem ownLost_counters (s : State) (t : TxFrame) : (s.ownLost t).bus.counters = s.bus.counters := by
  have hsettle (u : State) (c : Chan) : (u.settleEnded c).bus.counters = u.bus.counters := by
    unfold settleEnded
    split <;> simp
  unfold ownLost
  dsimp only
  split
  · rfl
  · split <;> simp [hsettle]

theorem yieldsLine_counters (s : State) : s.yieldsLine.bus.counters = s.bus.counters := by
  unfold yieldsLine
  split
  · exact ownLost_counters s _
  · rfl

/-- The clash met, before it may halt the station: counted and recorded (R153). -/
def clashNoted (s : State) : State :=
  (s.yieldsLine.tally fun k => { k with clashes := satSucc 65535 k.clashes }).log .addressClash none none none

theorem meetClash_noted (s : State) :
    s.meetClash =
      if 2 ≤ satSucc 65535 s.bus.counters.clashes then s.clashNoted.enterHalted else s.clashNoted := by
  rw [meetClash_eq, ← yieldsLine_counters]
  rfl

theorem two_le_satSucc (n : Nat) : 2 ≤ satSucc 65535 n ↔ 1 ≤ n := by
  unfold satSucc
  split <;> omega

theorem outsAreOff_enterHalted (s : State) (c : Chan) : outsAreOff (s.enterHalted.chan c) := by
  have hchan : s.enterHalted.chan c = { s.chan c with
      debounceTimer := none, senseGrace := none, shedRest := none, pre := false, main := false } := Four.get_map _ _ _
  rw [hchan]
  exact ⟨rfl, rfl⟩

theorem outsAreOff_of_sameButOffer {a b : Channel} (h : sameButOffer a b) (hb : outsAreOff b) : outsAreOff a := by
  obtain ⟨-, -, -, -, -, -, -, -, -, -, hpre, hmain⟩ := fields_of_sameButOffer h
  exact ⟨hpre.trans hb.1, hmain.trans hb.2⟩

@[simp] theorem enterHalted_keeps (s : State) :
    s.enterHalted.draws = s.draws ∧ s.enterHalted.faults = s.faults ∧ s.enterHalted.power = s.power
      ∧ s.enterHalted.pins = s.pins ∧ s.enterHalted.bus.counters = s.bus.counters ∧ s.enterHalted.engine = s.engine :=
  ⟨rfl, rfl, rfl, rfl, rfl, rfl⟩

/-- A halted station shows it, outside the power-fail warning (R83, R180). -/
theorem finish_shows_halted {s : State} (hrun : s.power.phase = .running) (hw : s.power.warning = false)
    (h : s.member.state = .halted) : s.finish.indicators.flt = true ∧ s.finish.indicators.stat = .doubleFlash := by
  obtain ⟨⟨-, hstat⟩, -, -, hflt⟩ := s.finish_law
  have hhalt : s.finish.member.state = .halted := by simpa using h
  exact ⟨(hflt (by simpa using hrun) (by simpa using hw)).mpr (.inl hhalt),
    (hstat (by simpa using hrun) (by simpa using hw)).2.1 hhalt⟩

end State

open State

/-- Settles O31: the head's claim keeps its place and its offer; an entry that lost its offer rests QUEUED to the end of the
step. -/
theorem voidedClaimIsRetried : Obligations.VoidedClaimIsRetried := by
  refine ⟨fun raw s x p e rest hpart hl hn hinh htx hf hw hq hch => ?_, fun raw s x p e hpart hl htx hf hw he hlost => ?_,
    fun raw s x p hpart htx hf hw => ?_⟩
  · refine ⟨_, exec_frameVoided_own raw hpart htx, ?_⟩
    have hentry : s.sentVoided.queueEntry p.ch = some e := by simp [queueEntry, hq, hch]
    have hhead : s.sentVoided.isHead p.ch = true := by simp [isHead, hq, hch]
    have hended : (s.sentVoided.countClaimVoid p.ch).claimEnded x p.ch = s.sentVoided.countClaimVoid p.ch :=
      claimEnded_of_head hw ((countClaimVoid_isHead _ _).trans hhead) (by simpa using hinh)
    rw [ownVoided_claim hf hl, claimVoided_of_standing hw, hended]
    obtain ⟨hqueue, hchannels⟩ := frameEnds_finish_of_no_notice (s := s.sentVoided.countClaimVoid p.ch)
      (notice_claimEnded_of_head.trans hn)
    rw [hqueue, chan_of_channels hchannels, countClaimVoid_of_entry hentry]
    refine ⟨?_, fun hless => ?_, fun hmore => ?_⟩
    · split <;> rfl
    · rw [if_neg (by omega)]
      refine ⟨?_, rfl⟩
      simp [modEntry, hq, hch]
    · have htop := (countClaimVoid_says hentry).2.2 hmore
      rw [countClaimVoid_of_entry hentry, if_pos (by omega)] at htop
      rw [if_pos (by omega)]
      refine ⟨?_, ?_, by simpa using htop⟩
      · show ((s.queue.entries.map fun y => if y.ch = p.ch then { y with voids := 0, offered := none } else y).head?) = _
        simp [hq, hch]
      · exact (congrArg Channel.state ((chan_requeue s.sentVoided p.ch p.ch).trans (if_pos rfl)))
  · refine ⟨_, exec_frameVoided_own raw hpart htx, ?_⟩
    obtain ⟨⟨y, hy, hych, hyeq⟩, hless, hmore⟩ := countClaimVoid_says (s := s.sentVoided) (c := p.ch) (e := e) he
    have hlost : (s.sentVoided.countClaimVoid p.ch).isHead p.ch = false
        ∨ (s.sentVoided.countClaimVoid p.ch).inh.asserted = true := by
      rw [countClaimVoid_isHead, isHead_congr (s := s) (by simp)]
      simpa using hlost
    have hrest := rests_claimEnded hw hy hych hlost
    obtain ⟨hlisted, hsame⟩ := rests_frameEnds_finish hrest
    rw [ownVoided_claim hf hl, claimVoided_of_standing hw, hsame, ← hyeq]
    exact ⟨by simp, hlisted, hrest.queued, by simpa using hless, by simpa using hmore⟩
  · refine ⟨_, exec_frameVoided_own raw hpart htx, ?_⟩
    have hvoid : s.ownVoided x = if s.live then s.sentVoided.deferredJoin p.ch else s.sentVoided := by
      unfold ownVoided
      rw [hf]
      show (if s.sentVoided.live then s.sentVoided.claimVoided x p.ch else s.sentVoided) = _
      rw [show s.sentVoided.claimVoided x p.ch = s.sentVoided.deferredJoin p.ch from if_pos hw]
      rfl
    rw [hvoid]
    split <;> simp

/-- Settles O32: giving up the line writes the bus alone; what it does to the channel of a CLAIM or a SETTLED is said case by
case, and the line is not free for another frame. -/
theorem arbitrationLossIsNoOutcome : Obligations.ArbitrationLossIsNoOutcome := by
  intro s x hop htx hbusy
  obtain ⟨-, -, -, -, hseq, -, hcounters, hreceiving, hline⟩ := s.loseArbitration_says x
  have hfinish : (s.loseArbitration x).finish = (s.loseArbitration x).takeNotice.refresh :=
    finish_of_busy (hline.trans hbusy)
  have hbus : (s.loseArbitration x).finish.bus = (s.loseArbitration x).bus := by rw [hfinish]; simp
  refine ⟨_, exec_arbitrationLost hop htx, by rw [hbus]; exact tx_loseArbitration s x, by rw [hbus]; exact hreceiving,
    by simp, by simp, by simp, by simp, by simpa using hseq,
    by simpa using hcounters, by simp, fun hclaim hsettled c => ?_, fun p hf hl hn hinh hw hhead => ?_,
    fun p hf hl hw => ?_, fun p hf hl => ?_⟩
  · rw [loseArbitration_other hclaim hsettled]
    exact finish_same s.arbitrated c
  · have hsame : s.loseArbitration x = s.arbitrated := by
      rw [loseArbitration_claim hf (live_warning hl)]
      exact claimEnded_of_head hw hhead hinh
    rw [hfinish, hsame, takeNotice_of_none (s := s.arbitrated) hn]
    exact ⟨by simp; rfl, by simp; rfl⟩
  · have hjoin : s.loseArbitration x = s.arbitrated.deferredJoin p.ch := by
      rw [loseArbitration_claim hf (live_warning hl), claimEnded_of_withdrawn hw]
    rw [hjoin]
    refine ⟨fun c hc => ?_, fun hidle hlatch => ?_, fun hnone => ?_⟩
    · have hend := finish_same (s.arbitrated.deferredJoin p.ch) c
      rwa [chan_deferredJoin_other _ hc] at hend
    · rw [deferredJoin_of_demand (s := s.arbitrated) hidle hlatch]
      have hend := finish_same (s.arbitrated.join p.ch) p.ch
      rw [chan_join, if_pos rfl] at hend
      exact ⟨inQueue_of_sameButOffer hend (.inl rfl),
        (listed_iff_of_keys (queueKeys_finish _) p.ch).mpr (listed_join s.arbitrated p.ch)⟩
    · rw [deferredJoin_of_none (s := s.arbitrated) hnone]
      exact finish_same s.arbitrated p.ch
  · have hended : s.loseArbitration x = s.arbitrated.settleEnded p.ch :=
      loseArbitration_settled hf (live_warning hl)
    rw [hended]
    cases hback : (s.chan p.ch).settleWithdrawn
    · rw [settleEnded_of_not (s := s.arbitrated) hback]
      exact ⟨fun c _ => finish_same s.arbitrated c, fun h => by simp at h, fun _ => finish_same s.arbitrated p.ch⟩
    · rw [settleEnded_of_withdrawn (s := s.arbitrated) hback]
      refine ⟨fun c hc => ?_, fun _ => ?_, fun h => by simp at h⟩
      · have hend := finish_same (s.arbitrated.replaceSettled p.ch (.abandoned .requestOff)) c
        rwa [chan_replaceSettled, if_neg hc] at hend
      · exact replaceSettled_sameButOffer (s := s) (v := s.arbitrated) _ rfl hback (finish_same _ _)

/-- Settles O33: the clash is counted and recorded first; the second since the start finds the count at 2. -/
theorem secondClashHalts : Obligations.SecondClashHalts := by
  intro s hpart
  have hexec : exec .addressClash s = .next s.meetClash.finish := by
    show execAddressClash s = _
    rw [execAddressClash, if_pos hpart]
  have hop := takesPart_operating hpart
  have hcount : s.clashNoted.bus.counters.clashes = satSucc 65535 s.bus.counters.clashes :=
    congrArg (fun k : LinkCounters => satSucc 65535 k.clashes) s.yieldsLine_counters
  have htop : ∃ r, s.clashNoted.faults.records.head? = some r ∧ r.kind = .addressClash := ⟨_, rfl, rfl⟩
  have hkept : s.clashNoted.starts = s.starts ∧ s.clashNoted.draws = s.draws ∧ s.clashNoted.member = s.member
      ∧ s.clashNoted.power = s.power := by simp [clashNoted]
  obtain ⟨hstarts, hdraws, hmember, hpower⟩ := hkept
  refine ⟨_, hexec, ?_⟩
  rw [meetClash_noted]
  by_cases hsecond : 1 ≤ s.bus.counters.clashes
  · rw [if_pos ((two_le_satSucc _).mpr hsecond)]
    have hbus : s.clashNoted.enterHalted.finish.bus.tx = none := by
      rw [finish_of_not_free (s := s.clashNoted.enterHalted) rfl]
      simp
      rfl
    have hrun : s.power.phase = .running := by
      simp only [operating, Bool.and_eq_true, decide_eq_true_eq] at hop
      exact hop.1
    have hheld : s.clashNoted.enterHalted.finish.starts = s.starts.map fun e => { e with holdRunning := false } := by
      rw [← hstarts]
      simp only [finish_keeps]
      rfl
    refine ⟨by simpa using hcount, by simpa using htop, ?_, by simpa using hdraws, fun h => by omega,
      fun _ => ⟨by simp; rfl, hbus, fun c => ?_, fun hw => ?_⟩⟩
    · rw [hheld, List.map_map]
      rfl
    · exact outsAreOff_of_sameButOffer (finish_same s.clashNoted.enterHalted c) (outsAreOff_enterHalted _ c)
    · exact finish_shows_halted (s := s.clashNoted.enterHalted) ((congrArg Power.phase hpower).trans hrun)
        ((congrArg Power.warning hpower).trans hw) rfl
  · rw [if_neg fun h => hsecond ((two_le_satSucc _).mp h)]
    exact ⟨by simpa using hcount, by simpa using htop, by simp [hstarts], by simpa using hdraws, fun _ => by simpa using hmember,
      fun h => absurd h hsecond⟩

/-- Settles O34: a frame being sent is given up first, which leaves the membership; then the frame is counted and, outside
LISTEN, a recount of all is asked for. -/
theorem incompleteFrameAsksForARecount : Obligations.IncompleteFrameAsksForARecount := by
  intro s hpart
  have hexec : exec .frameIncomplete s = .next s.foundIncomplete.frameEnds.finish := by
    show execFrameIncomplete s = _
    rw [execFrameIncomplete, if_pos hpart]
  have hop := takesPart_operating hpart
  have hcount : s.yieldsLine.countObjection.bus.counters.objections = satSucc 65535 s.bus.counters.objections :=
    congrArg (fun k : LinkCounters => satSucc 65535 k.objections) s.yieldsLine_counters
  have hmember : s.yieldsLine.countObjection.member = s.member := by simp [countObjection]
  refine ⟨_, hexec, by simp, by simp, ?_, fun hne => ?_, fun he => ?_⟩
  · rw [foundIncomplete_eq]
    split <;> simpa using hcount
  · rw [foundIncomplete_eq, if_pos (by rw [hmember]; exact joinedUp_of_operating hop hne)]
    have hms : s.yieldsLine.countObjection.presenceMs = s.presenceMs := presenceMs_of_loader (by simp [countObjection])
    simp only [finish_keeps, frameEnds_keeps]
    rw [enterSyncing_member, hms]
    exact ⟨rfl, by simp, rfl, rfl⟩
  · rw [foundIncomplete_eq, if_neg (by rw [hmember, he]; decide)]
    simp

end Sys2Proof.Machine
end

section
/-!
What a whole end of a step may do, as one induction; and what the Recipe Engine never writes in a channel's record.
-/

namespace Sys2Proof.Machine

open Sys2Proof

namespace State

/-! ## The end of a step -/

/-- A predicate that every operation of the end of a step keeps: the notice taken, a withdrawal, the shed need, an offer, a
CLAIM built, a SHED_CALL built, a frame begun, the indicators. -/
structure EndKeeps (M : State → Prop) : Prop where
  noticed : ∀ u, M u → M { u with notice := false }
  requeue : ∀ u c, (u.chan c).state = .claiming → M u → M (u.requeue c)
  need : ∀ u e, M u → M (u.judgeShedNeed e)
  noNeed : ∀ u, M u → M u.endShedNeed
  offer : ∀ u c, (u.chan c).state = .queued → M u → M (u.offered c)
  claim : ∀ u c q, M u → M (u.modEntry c fun x => { x with offered := some q })
  call : ∀ u, M u → M u.buildShedCall.1
  begun : ∀ u src f, M u → M (u.beginFrame src f)
  shown : ∀ u, M u → M u.refresh

theorem EndKeeps.withdrawBehind {M : State → Prop} (k : EndKeeps M) (l : List QueueEntry) {s : State} (h : M s) :
    M (s.withdrawBehind l) := by
  induction l generalizing s with
  | nil => exact h
  | cons e es ih =>
    rw [State.withdrawBehind]
    split
    · next hc => exact ih (k.requeue s e.ch hc.1 h)
    · exact ih h

theorem EndKeeps.judgeHead {M : State → Prop} (k : EndKeeps M) {s : State} (h : M s) : M s.judgeHead := by
  unfold State.judgeHead
  split
  · exact k.noNeed s h
  · next e rest hq =>
    split
    · next hst =>
      split
      · exact k.noNeed _ (k.offer s e.ch hst h)
      · exact k.need s e h
    · next hst =>
      split
      · exact k.noNeed s h
      · exact k.need _ e (k.requeue s e.ch hst h)
    all_goals exact k.noNeed s h

theorem EndKeeps.takeNotice {M : State → Prop} (k : EndKeeps M) {s : State} (h : M s) : M s.takeNotice := by
  unfold State.takeNotice
  split
  · split
    · exact k.judgeHead (k.withdrawBehind _ (k.noticed s h))
    · exact k.noticed s h
  · exact h

theorem EndKeeps.build {M : State → Prop} (k : EndKeeps M) {s : State} (h : M s) (src : Source) : M (s.build src).1 := by
  cases src with
  | claim eff =>
    show M (s.buildClaim eff).1
    cases hf : (s.buildClaim eff).2 with
    | some f =>
      obtain ⟨e, rest, -, -, -, -, -, heq⟩ := buildClaim_some hf
      rw [heq]
      exact k.claim s e.ch _ h
    | none =>
      rcases buildClaim_none hf with heq | ⟨e, rest, -, hst, -, heq⟩ <;> rw [heq]
      · exact h
      · exact k.requeue s e.ch hst h
  | shedCall => exact k.call s h
  | release | expire | absent | renewal | recount | syncReq | hello | presence | answer => exact h

theorem EndKeeps.trySources {M : State → Prop} (k : EndKeeps M) (l : List Source) {s : State} (h : M s) :
    M (s.trySources l) := by
  induction l generalizing s with
  | nil => exact h
  | cons src rest ih =>
    have hbuild := k.build h src
    unfold State.trySources
    split
    · split
      · next s' f heq =>
        rw [heq] at hbuild
        exact k.begun s' src f hbuild
      · next s' heq =>
        rw [heq] at hbuild
        exact ih hbuild
    · exact ih h

theorem EndKeeps.select {M : State → Prop} (k : EndKeeps M) {s : State} (h : M s) : M s.select := by
  unfold State.select
  split
  · exact k.trySources _ h
  · exact h

theorem EndKeeps.finish {M : State → Prop} (k : EndKeeps M) {s : State} (h : M s) : M s.finish :=
  k.shown _ (k.select (k.takeNotice h))

theorem buildShedCall_entries (s : State) :
    s.buildShedCall.1.queue.entries = s.queue.entries ∧ s.buildShedCall.1.queue.nextStamp = s.queue.nextStamp := by
  unfold buildShedCall
  split
  · exact ⟨rfl, rfl⟩
  · split
    · dsimp only
      split <;> exact ⟨rfl, rfl⟩
    · exact ⟨rfl, rfl⟩

/-- A fact about a queue entry that a withdrawal, an offer and a CLAIM built leave true. -/
structure EndStable (P : QueueEntry → Prop) : Prop where
  requeue : ∀ e, P e → P { e with voids := 0, offered := none }
  offer : ∀ e, P e → P { e with shedWait := none }
  claim : ∀ e q, P e → P { e with offered := some q }

/-- An entry with a stable fact stands in the queue. -/
def lists (s : State) (P : QueueEntry → Prop) : Prop := ∃ e ∈ s.queue.entries, P e

theorem lists_of_entries {s t : State} {P : QueueEntry → Prop} (h : s.lists P) (hq : t.queue.entries = s.queue.entries) :
    t.lists P := by
  unfold lists
  rw [hq]
  exact h

theorem lists_modEntry {s : State} {P : QueueEntry → Prop} (h : s.lists P) (c : Chan) {f : QueueEntry → QueueEntry}
    (hf : ∀ e, P e → P (f e)) : (s.modEntry c f).lists P := by
  obtain ⟨e, he, hp⟩ := h
  refine ⟨_, List.mem_map.mpr ⟨e, he, rfl⟩, ?_⟩
  split
  · exact hf e hp
  · exact hp

theorem endKeeps_lists {P : QueueEntry → Prop} (hP : EndStable P) : EndKeeps fun u => u.lists P where
  noticed u h := h
  requeue u c _ h := lists_of_entries (lists_modEntry h c hP.requeue) rfl
  need u e h := lists_of_entries h (judgeShedNeed_entries u e).1
  noNeed u h := h
  offer u c _ h := lists_of_entries (lists_modEntry h c hP.offer) rfl
  claim u c q h := lists_modEntry h c fun e => hP.claim e q
  call u h := lists_of_entries h (buildShedCall_entries u).1
  begun u src f h := h
  shown u h := lists_of_entries h (by simp)

/-- An entry with a stable fact stands in the queue at the end of the step. -/
theorem lists_finish {s : State} {P : QueueEntry → Prop} (hP : EndStable P) (h : s.lists P) : s.finish.lists P :=
  (endKeeps_lists hP).finish h

theorem endKeeps_nextStamp (n : Nat) : EndKeeps fun u => u.queue.nextStamp = n where
  noticed _ h := h
  requeue _ _ _ h := h
  need u e h := by
    unfold judgeShedNeed
    split <;> exact h
  noNeed _ h := h
  offer _ _ _ h := h
  claim _ _ _ h := h
  call u h := (buildShedCall_entries u).2.trans h
  begun _ _ _ h := h
  shown u h := by simpa using h

theorem nextStamp_finish (s : State) : s.finish.queue.nextStamp = s.queue.nextStamp :=
  (endKeeps_nextStamp s.queue.nextStamp).finish rfl

/-- The end of a step changes nothing local but for an offer. -/
theorem finish_sameLocal (s : State) : sameLocal s s.finish := by
  refine ⟨?_, ?_, ?_, ?_, ?_, ?_, ?_, ?_, ?_, fun c => finish_same s c⟩ <;> simp

/-! ## What the engine never writes -/

/-- A channel's record but for its state, mark, release and outputs. -/
def courseOf (k : Channel) : Channel :=
  { k with state := .idle, mark := false, release := .none, pre := false, main := false }

/-- An operation leaves of every channel what the engine never writes. -/
def sameCourse (s t : State) : Prop := ∀ d, courseOf (t.chan d) = courseOf (s.chan d)

theorem sameCourse_of_channels {s t : State} (h : t.channels = s.channels) : s.sameCourse t := fun d => by
  rw [chan_of_channels h]

theorem sameCourse.trans {s t u : State} (h : s.sameCourse t) (k : t.sameCourse u) : s.sameCourse u := fun d =>
  (k d).trans (h d)

theorem sameCourse_modChan (s : State) (c : Chan) {f : Channel → Channel} (hf : ∀ k, courseOf (f k) = courseOf k) :
    s.sameCourse (s.modChan c f) := fun d => by
  rw [chan_modChan]
  split
  · next h => rw [h, hf]
  · rfl

theorem sameCourse_ended (s : State) (c : Chan) (e : StepsEnd) : s.sameCourse (s.ended c e) := fun d => by
  cases e with
  | waits j left => rfl
  | completes =>
    rw [ended, chan_completeRecipe]
    split
    · next h => rw [h]; rfl
    · rfl
  | fails j =>
    rw [ended, chan_failRecipe]
    split
    · next h => rw [h]; rfl
    · rfl

theorem sameCourse_takeSteps (s : State) (c : Chan) (i : Nat) : s.sameCourse (s.takeSteps c i) := by
  rw [takeSteps_eq]
  have hstep : s.sameCourse (s.stepped c i) := fun d => by
    rw [chan_stepped]
    split
    · next h => rw [h]; rfl
    · rfl
  exact hstep.trans (sameCourse_ended _ c _)

theorem sameCourse_enter (s : State) (c : Chan) (st : ChanState) : s.sameCourse (s.enter c st) :=
  sameCourse_modChan s c fun _ => rfl

theorem sameCourse_beginStart (s : State) (c : Chan) : s.sameCourse (s.beginStart c) :=
  (sameCourse_enter s c .starting).trans (sameCourse_takeSteps _ c 0)

theorem sameCourse_resume (s : State) (r : Context) : s.sameCourse (s.resume r) := by
  have hrest : s.sameCourse ((restored s r).enter r.ch .starting) := by
    refine sameCourse.trans ?_ (sameCourse_enter (restored s r) r.ch .starting)
    unfold restored
    split
    · exact sameCourse_modChan s r.ch fun _ => rfl
    · exact sameCourse_of_channels rfl
  refine hrest.trans ?_
  have hcases := s.resume_cases r
  generalize s.resume r = t at hcases ⊢
  cases hcases with
  | waits left => exact sameCourse_of_channels rfl
  | steps i => exact sameCourse_takeSteps _ _ i
  | fails => exact sameCourse_ended _ _ (.fails _)

theorem sameCourse_freeLoop (n : Nat) (s : State) : s.sameCourse (freeLoop n s) := by
  induction n generalizing s with
  | zero => exact sameCourse_of_channels rfl
  | succ n ih =>
    unfold freeLoop
    split
    · exact sameCourse_of_channels rfl
    · split
      · next c hc => exact (sameCourse_beginStart ({ s with engine.waiting := none } : State) c).trans (ih _)
      · split
        · next r rest hr => exact (sameCourse_resume ({ s with engine.stack := rest } : State) r).trans (ih _)
        · exact sameCourse_of_channels rfl

theorem sameCourse_freeEngine (s : State) : s.sameCourse s.freeEngine := by
  unfold freeEngine
  split
  · exact sameCourse_of_channels rfl
  · exact sameCourse_freeLoop 5 s

theorem sameCourse_suspend (s : State) (c : Chan) (i : Nat) (left : Option Nat) :
    s.sameCourse (s.suspend c i left) := fun d => by
  rw [chan_suspend]
  split
  · next h => rw [h]; rfl
  · rfl

theorem sameCourse_stepCompletes (s : State) (r : RunSlot) : s.sameCourse (s.stepCompletes r) := by
  unfold stepCompletes
  split
  · split
    · exact (sameCourse_suspend s _ _ _).trans (sameCourse_freeEngine _)
    · exact (sameCourse_takeSteps s _ _).trans (sameCourse_freeEngine _)
  · exact (sameCourse_ended s r.ch .completes).trans (sameCourse_freeEngine _)

theorem sameCourse_stepFails (s : State) (r : RunSlot) : s.sameCourse (s.stepFails r) :=
  (sameCourse_ended s r.ch (.fails r.step)).trans (sameCourse_freeEngine _)

theorem sameCourse_placeStart (s : State) (c : Chan) : s.sameCourse (s.placeStart c) := by
  have hwait (u : State) : u.sameCourse ({ u.enter c .pending with engine.waiting := some c } : State).notify :=
    sameCourse_enter u c .pending
  unfold placeStart
  dsimp only
  split
  · exact (sameCourse_beginStart (s.renewalsCleared c) c).trans (sameCourse_freeEngine _)
  · next r _ =>
    split
    · split
      · exact ((sameCourse_suspend (s.renewalsCleared c) _ _ _).trans (sameCourse_beginStart _ c)).trans
          (sameCourse_freeEngine _)
      · exact hwait (s.renewalsCleared c)
    · exact hwait (s.renewalsCleared c)

theorem sameCourse_removeStart (s : State) (c : Chan) : s.sameCourse (s.removeStart c) := by
  cases htr : s.tracked c
  · rw [removeStart_of_not_tracked htr]
    exact sameCourse_of_channels rfl
  · by_cases hw : s.engine.waiting = some c
    · rw [removeStart_of_waiting hw]
      exact sameCourse_of_channels rfl
    · by_cases hr : s.engine.running.map (·.ch) = some c
      · obtain ⟨r, hrun, hch⟩ := Option.map_eq_some_iff.mp hr
        rw [removeStart_of_running hw hrun hch]
        exact sameCourse_freeEngine (s.renewalsCleared c).idled
      · have hs := (((tracked_iff s c).mp htr).resolve_left hr).resolve_left hw
        rw [removeStart_of_stacked hw hr hs]
        exact sameCourse_of_channels rfl

theorem latch_of_course {j k : Channel} (h : courseOf j = courseOf k) : j.latch = k.latch :=
  show (courseOf j).latch = (courseOf k).latch by rw [h]

theorem settleWithdrawn_of_course {j k : Channel} (h : courseOf j = courseOf k) : j.settleWithdrawn = k.settleWithdrawn :=
  show (courseOf j).settleWithdrawn = (courseOf k).settleWithdrawn by rw [h]

theorem seq_of_course {j k : Channel} (h : courseOf j = courseOf k) : j.seq = k.seq :=
  show (courseOf j).seq = (courseOf k).seq by rw [h]

theorem renewals_of_course {j k : Channel} (h : courseOf j = courseOf k) : j.renewals = k.renewals :=
  show (courseOf j).renewals = (courseOf k).renewals by rw [h]

theorem debounced_of_course {j k : Channel} (h : courseOf j = courseOf k) : j.debounced = k.debounced :=
  show (courseOf j).debounced = (courseOf k).debounced by rw [h]

theorem debounceTimer_of_course {j k : Channel} (h : courseOf j = courseOf k) : j.debounceTimer = k.debounceTimer :=
  show (courseOf j).debounceTimer = (courseOf k).debounceTimer by rw [h]

theorem senseGrace_of_course {j k : Channel} (h : courseOf j = courseOf k) : j.senseGrace = k.senseGrace :=
  show (courseOf j).senseGrace = (courseOf k).senseGrace by rw [h]

theorem shedRest_of_course {j k : Channel} (h : courseOf j = courseOf k) : j.shedRest = k.shedRest :=
  show (courseOf j).shedRest = (courseOf k).shedRest by rw [h]

theorem course_of_sameButOffer {a b : Channel} (h : sameButOffer a b) : courseOf a = courseOf b := by
  rcases h with rfl | ⟨-, -, he⟩
  · rfl
  · have h := congrArg courseOf he
    exact h

/-- The end of a step leaves the course of every channel. -/
theorem sameCourse_finish (s : State) : s.sameCourse s.finish := fun d => course_of_sameButOffer (finish_same s d)

/-- A channel that has no start in progress has none in the engine. -/
theorem not_tracked_of_engineLaw {s : State} (h : EngineLaw s) {d : Chan} (hd : (s.chan d).state.inEngine = false) :
    s.tracked d = false := by
  obtain ⟨hrun, hwait, hstack⟩ := h.1 d
  rw [not_tracked_iff]
  refine ⟨fun hr => ?_, fun hw => ?_, fun hm => ?_⟩
  · rw [hrun.mp hr] at hd
    cases hd
  · rw [hwait.mp hw] at hd
    cases hd
  · rw [hstack.mp hm] at hd
    cases hd

theorem tracked_of_engineLaw {s : State} (h : EngineLaw s) {d : Chan} (hd : (s.chan d).state.inEngine = true) :
    s.tracked d = true := by
  obtain ⟨hrun, hwait, hstack⟩ := h.1 d
  rw [tracked_iff]
  cases hst : (s.chan d).state
  case starting => exact .inl (hrun.mpr hst)
  case pending => exact .inr (.inl (hwait.mpr hst))
  case suspended => exact .inr (.inr (hstack.mpr hst))
  all_goals
    rw [hst] at hd
    cases hd

end State

end Sys2Proof.Machine
end

section
/-! Holds that run out, and the levels of the local lines (R16-R18, R66, R79, R80, R87, R98; O39, O41). -/

namespace Sys2Proof.Machine

open Sys2Proof

namespace State

/-! ## Holds -/

theorem exec_holdRunsOutAtPeer {s : State} {a : Addr} (c : Chan) (hop : s.operating = true) (ha : a ≠ s.own) :
    exec (.holdRunsOutAtPeer a c) s = .next (s.holdEnds a c true).finish := by
  show execHoldRunsOutAtPeer a c s = _
  simp [execHoldRunsOutAtPeer, hop, ha]

theorem exec_holdRunsOutAtOwner {s : State} {c : Chan} {e : StartEntry} (hop : s.operating = true)
    (he : s.pairEntry s.own c = some e) (hrun : e.holdRunning = true) :
    exec (.holdRunsOutAtOwner c) s = .next ((s.holdEnds s.own c false).ownHoldOut c e.seq).finish := by
  show execHoldRunsOutAtOwner c s = _
  simp [execHoldRunsOutAtOwner, hop, he, hrun]

theorem exec_renewalNeed {s : State} {c : Chan} (hl : s.live = true) (ht : s.tracked c = true) :
    exec (.renewalNeed c) s = .next (s.holdLow c).finish := by
  show execRenewalNeed c s = _
  simp [execRenewalNeed, hl, ht]

theorem holdEnds_map (s : State) (a : Addr) (c : Chan) (b : Bool) :
    (s.holdEnds a c b).starts = s.starts.map fun e =>
      if e.owner = a ∧ e.ch = c ∧ e.holdRunning = true then
        { e with remaining := 0, holdRunning := false, expirePending := e.expirePending || b }
      else e := by
  refine List.map_congr_left fun e _ => ?_
  simp [StartEntry.isPair, and_assoc]

/-- The hold remaining that a renewal need states (R98). -/
def heldLow (x : StartEntry) : StartEntry := { x with remaining := min x.remaining ((x.limitMs - 1) / 4) }

theorem holdLow_map {s : State} {c : Chan} {e : StartEntry} (h : s.trackedEntry c = some e) :
    (s.holdLow c).starts = s.starts.map fun x =>
      if x.owner = s.own ∧ x.ch = c ∧ x.seq = e.seq ∧ x.holdRunning = true then heldLow x else x := by
  unfold holdLow
  rw [h]
  refine List.map_congr_left fun x _ => ?_
  simp [StartEntry.isNamed, heldLow, and_assoc]

/-- The tracked entry of a renewal need stands below a quarter of its limit (R98). -/
theorem trackedEntry_holdLow {s : State} {c : Chan} {e : StartEntry} (h : s.trackedEntry c = some e)
    (hrun : e.holdRunning = true) : (s.holdLow c).trackedEntry c = some (heldLow e) := by
  have hstarts := holdLow_map h
  unfold trackedEntry at h ⊢
  have hchan : (s.holdLow c).chan c = s.chan c := chan_of_channels (by simp) c
  have hown : (s.holdLow c).own = s.own := by simp [own]
  rw [hchan]
  cases hq : (s.chan c).seq with
  | none => rw [hq] at h; cases h
  | some q =>
    rw [hq] at h
    have hname : e.owner = s.own ∧ e.ch = c ∧ e.seq = q := by
      have := List.find?_some h
      simpa [StartEntry.isNamed] using this
    show (s.holdLow c).namedEntry (s.holdLow c).own c q = _
    rw [hown, namedEntry, hstarts, List.find?_map]
    have hpick : ((fun x : StartEntry => x.isNamed s.own c q) ∘ fun x =>
        if x.owner = s.own ∧ x.ch = c ∧ x.seq = e.seq ∧ x.holdRunning = true then heldLow x else x)
        = fun x => x.isNamed s.own c q := by
      funext x
      simp only [Function.comp_apply]
      split <;> rfl
    rw [hpick, show s.starts.find? (fun x => x.isNamed s.own c q) = some e from h]
    simp [hname, hrun]

theorem trackedEntry_finish (s : State) (c : Chan) : s.finish.trackedEntry c = s.trackedEntry c := by
  have hseq : (s.finish.chan c).seq = (s.chan c).seq := seq_of_course (sameCourse_finish s c)
  unfold trackedEntry namedEntry own
  rw [hseq]
  simp

/-! ## Levels -/

theorem set_get_self {α : Type} (f : Four α) (c : Chan) : f.set c (f.get c) = f := by
  obtain ⟨a0, a1, a2, a3⟩ := f
  fin_cases c <;> rfl

theorem exec_reqLevelChange_same {s : State} {c : Chan} {b : Bool} (h : s.pins.req.get c = b) :
    exec (.reqLevelChange c b) s = .next s := by
  show execReqLevelChange c b s = _
  rw [execReqLevelChange, if_pos h]

theorem exec_reqLevelChange_live {s : State} {c : Chan} {b : Bool} (h : s.pins.req.get c ≠ b) (hl : s.live = true) :
    exec (.reqLevelChange c b) s = .next ((s.reqTaken c b).debounce c b).finish := by
  show execReqLevelChange c b s = _
  rw [execReqLevelChange, if_neg h]
  dsimp only
  rw [if_pos hl]
  rfl

theorem exec_reqLevelChange_held {s : State} {c : Chan} {b : Bool} (h : s.pins.req.get c ≠ b) (hl : s.live = false) :
    exec (.reqLevelChange c b) s = .next (s.reqTaken c b) := by
  show execReqLevelChange c b s = _
  rw [execReqLevelChange, if_neg h]
  dsimp only
  rw [if_neg (by rw [hl]; decide)]
  rfl

/-- The debounce timer that a level of REQn leaves (R66). -/
def debounceLeft (s : State) (c : Chan) (b : Bool) : Option Nat :=
  if b = (s.chan c).debounced then none else some ((s.cfg c).debounce * 10)

theorem chan_debounce (s : State) (c d : Chan) (b : Bool) :
    (s.debounce c b).chan d =
      if d = c ∧ (s.chan c).state ≠ .disabled then { s.chan c with debounceTimer := s.debounceLeft c b }
      else s.chan d := by
  unfold debounce
  by_cases hdis : (s.chan c).state = .disabled
  · rw [if_pos hdis, if_neg fun h => h.2 hdis]
  · rw [if_neg hdis, chan_modChan]
    by_cases hd : d = c
    · rw [if_pos hd]
      exact (if_pos ⟨hd, hdis⟩).symm
    · rw [if_neg hd, if_neg fun h => hd h.1]

theorem exec_senseChange_same {s : State} {c : Chan} {b : Bool} (h : s.pins.sense.get c = b) :
    exec (.senseChange c b) s = .next s := by
  show execSenseChange c b s = _
  rw [execSenseChange, if_pos h]

theorem exec_senseChange_live {s : State} {c : Chan} {b : Bool} (h : s.pins.sense.get c ≠ b) (hl : s.live = true) :
    exec (.senseChange c b) s = .next (((s.senseTaken c b).senseWatch c b).senseAwait c b).finish := by
  show execSenseChange c b s = _
  rw [execSenseChange, if_neg h]
  dsimp only
  rw [if_pos hl]
  rfl

theorem exec_senseChange_held {s : State} {c : Chan} {b : Bool} (h : s.pins.sense.get c ≠ b) (hl : s.live = false) :
    exec (.senseChange c b) s = .next (s.senseTaken c b) := by
  show execSenseChange c b s = _
  rw [execSenseChange, if_neg h]
  dsimp only
  rw [if_neg (by rw [hl]; decide)]
  rfl

theorem chan_senseWatch (s : State) (c d : Chan) (b : Bool) :
    (s.senseWatch c b).chan d =
      if d = c ∧ (s.chan c).state = .on ∧ (s.cfg c).senseRequired = true then
        { s.chan c with senseGrace := if b then none else some ((s.cfg c).senseGrace * 10) }
      else s.chan d := by
  unfold senseWatch
  by_cases hon : (s.chan c).state = .on ∧ (s.cfg c).senseRequired = true
  · rw [if_pos hon, chan_modChan]
    by_cases hd : d = c
    · rw [if_pos hd]
      exact (if_pos ⟨hd, hon⟩).symm
    · rw [if_neg hd, if_neg fun h => hd h.1]
  · rw [if_neg hon, if_neg fun h => hon h.2]

theorem senseAwait_cases (s : State) (c : Chan) (b : Bool) :
    s.senseAwait c b = s
      ∨ ∃ r timeout y, s.engine.running = some r ∧ r.ch = c ∧ s.stepOf r = some (.await b timeout y)
        ∧ s.senseAwait c b = s.stepCompletes r := by
  unfold senseAwait
  split
  · next r hr =>
    split
    · next hc =>
      split
      · next level timeout y hst =>
        split
        · next hb =>
          subst hb
          exact .inr ⟨r, timeout, y, hr, hc, hst, rfl⟩
        · exact .inl rfl
      · exact .inl rfl
    · exact .inl rfl
  · exact .inl rfl

theorem sameCourse_senseAwait (s : State) (c : Chan) (b : Bool) : s.sameCourse (s.senseAwait c b) := by
  rcases s.senseAwait_cases c b with h | ⟨r, -, -, -, -, -, h⟩ <;> rw [h]
  · exact sameCourse_of_channels rfl
  · exact sameCourse_stepCompletes s r

theorem exec_inhPinChange_same {s : State} {b : Bool} (h : s.pins.inh = b) : exec (.inhPinChange b) s = .next s := by
  show execInhPinChange b s = _
  rw [execInhPinChange, if_pos h]

theorem exec_inhPinChange_live {s : State} {b : Bool} (h : s.pins.inh ≠ b) (hl : s.live = true) :
    exec (.inhPinChange b) s = .next ((s.inhTaken b).filterInh b).finish := by
  show execInhPinChange b s = _
  rw [execInhPinChange, if_neg h]
  dsimp only
  rw [if_pos hl]
  rfl

theorem exec_inhPinChange_held {s : State} {b : Bool} (h : s.pins.inh ≠ b) (hl : s.live = false) :
    exec (.inhPinChange b) s = .next (s.inhTaken b) := by
  show execInhPinChange b s = _
  rw [execInhPinChange, if_neg h]
  dsimp only
  rw [if_neg (by rw [hl]; decide)]
  rfl

end State

open State

/-- Settles O39: each command rewrites the entries it names, and the end of the step leaves the tables. -/
theorem holdRunsOut : Obligations.HoldRunsOut := by
  refine ⟨⟨fun a c s hop ha => ?_, fun c s e hop he hrun => ?_⟩, fun c s e hl ht he hrun hlimit => ?_⟩
  · refine ⟨_, exec_holdRunsOutAtPeer c hop ha, ?_, by simp, ?_, by simp, by simp⟩
    · simp [holdEnds_map]
    · exact sameLocal_trans (sameLocal_of_keeps (by simp) (by simp)) (finish_sameLocal _)
  · refine ⟨_, exec_holdRunsOutAtOwner hop he hrun, ?_, by simp, by simp⟩
    simp [holdEnds_map]
  · refine ⟨_, exec_renewalNeed hl ht, by simp, ?_, ?_, heldLow e, ?_, ?_⟩
    · exact sameLocal_trans (sameLocal_of_keeps (by simp) (by simp)) (finish_sameLocal _)
    · simp only [finish_keeps, holdLow_map he]
      rfl
    · rw [trackedEntry_finish]
      exact trackedEntry_holdLow he hrun
    · have hpos : 0 < e.holdLimit.val := Nat.pos_of_ne_zero fun h => hlimit (Fin.ext h)
      show 4 * min e.remaining ((e.limitMs - 1) / 4) < e.limitMs
      unfold StartEntry.limitMs
      omega

/-- Settles O41: a level that is new is recorded, and where the channels act it moves the one timer it concerns; only an
AWAIT of that level of the sense acts on. -/
theorem levelsStartTheFilters : Obligations.LevelsStartTheFilters := by
  refine ⟨fun c b s => ?_, fun c b s => ?_, fun b s => ?_⟩
  · by_cases hnew : s.pins.req.get c = b
    · refine ⟨s, exec_reqLevelChange_same hnew, by rw [← hnew, set_get_self], fun _ => rfl, fun h => absurd hnew h,
        fun _ => rfl, fun d _ => .inl rfl, .inl rfl, rfl, rfl, rfl, rfl, rfl⟩
    · cases hl : s.live
      · exact ⟨_, exec_reqLevelChange_held hnew hl, rfl, fun h => absurd h hnew, fun _ h => by simp at h, fun _ => rfl,
          fun d _ => .inl rfl, .inl rfl, rfl, rfl, rfl, rfl, rfl⟩
      · refine ⟨_, exec_reqLevelChange_live hnew hl, by simp; rfl, fun h => absurd h hnew, fun _ _ hdis => ?_, fun hdis => ?_,
          fun d hd => ?_, ?_, by simp; rfl, by simp; rfl, by simp; rfl, by simp; rfl, by simp; rfl⟩
        all_goals have hend (d : Chan) := finish_same ((s.reqTaken c b).debounce c b) d
        all_goals simp only [chan_debounce] at hend
        · have h := hend c
          rw [if_pos ⟨rfl, hdis⟩] at h
          exact debounceTimer_of_course (course_of_sameButOffer h)
        · have h := hend c
          rw [if_neg fun h => h.2 (hdis.resolve_left (by decide))] at h
          exact debounceTimer_of_course (course_of_sameButOffer h)
        · have h := hend d
          rw [if_neg fun h => hd h.1] at h
          exact h
        · have h := sameButOffer_map (fun k => { k with debounceTimer := (s.chan c).debounceTimer }) (fun _ => rfl)
            (fun _ _ => rfl) (hend c)
          refine sameButOffer_trans h ?_
          split <;> exact .inl rfl
  · by_cases hnew : s.pins.sense.get c = b
    · refine ⟨s, exec_senseChange_same hnew, by rw [← hnew, set_get_self], fun _ => rfl, fun h => absurd hnew h,
        fun _ => rfl, fun _ => ⟨.inl rfl, fun d _ => .inl rfl, rfl, rfl⟩, fun _ d _ _ => .inl rfl, rfl, rfl, rfl⟩
    · cases hl : s.live
      · exact ⟨_, exec_senseChange_held hnew hl, rfl, fun h => absurd h hnew, fun _ h => by simp at h, fun _ => rfl,
          fun _ => ⟨.inl rfl, fun d _ => .inl rfl, rfl, rfl⟩, fun _ d _ _ => .inl rfl, rfl, rfl, rfl⟩
      · have hgrace : ((((s.senseTaken c b).senseWatch c b).senseAwait c b).finish.chan c).senseGrace
            = (((s.senseTaken c b).senseWatch c b).chan c).senseGrace := by
          exact senseGrace_of_course (((sameCourse_senseAwait _ c b).trans (sameCourse_finish _)) c)
        have hother (d : Chan) (hd : d ≠ c) : ((s.senseTaken c b).senseWatch c b).chan d = s.chan d := by
          rw [chan_senseWatch, if_neg fun h => hd h.1]
          rfl
        refine ⟨_, exec_senseChange_live hnew hl, by simp; rfl, fun h => absurd h hnew, fun _ _ hon hreq => ?_, fun hnot => ?_,
          fun hno => ?_, fun hlaw d hd hin => ?_, by simp; rfl, by simp; rfl, by simp; rfl⟩
        · rw [hgrace, chan_senseWatch, if_pos ⟨rfl, hon, hreq⟩]
          rfl
        · rw [hgrace, chan_senseWatch, if_neg]
          · rfl
          · rintro ⟨-, hon, hreq⟩
            rcases hnot with h | h | h
            · cases h
            · exact h hon
            · exact absurd hreq (by rw [show (s.senseTaken c b).cfg c = s.cfg c from rfl, h]; decide)
        · have hstill : ((s.senseTaken c b).senseWatch c b).senseAwait c b = (s.senseTaken c b).senseWatch c b := by
            rcases ((s.senseTaken c b).senseWatch c b).senseAwait_cases c b with h | ⟨r, timeout, y, hr, hc, hst, -⟩
            · exact h
            · refine absurd ?_ (hno r timeout y ?_ hc)
              · rw [← hst]
                simp [stepOf, cfg, image, senseTaken]
              · rw [← hr]
                simp [senseTaken]
          rw [hstill]
          refine ⟨?_, fun d hd => ?_, by simp; rfl, by simp; rfl⟩
          · have h := sameButOffer_map (fun k => { k with senseGrace := (s.chan c).senseGrace }) (fun _ => rfl)
              (fun _ _ => rfl) (finish_same ((s.senseTaken c b).senseWatch c b) c)
            refine sameButOffer_trans h (.inl ?_)
            rw [chan_senseWatch]
            split <;> rfl
          · have h := finish_same ((s.senseTaken c b).senseWatch c b) d
            rwa [hother d hd] at h
        · have hfree : ((s.senseTaken c b).senseWatch c b).tracked d = false := by
            have h := not_tracked_of_engineLaw hlaw hin
            rw [← h]
            simp [tracked, senseTaken]
          have h := finish_same (((s.senseTaken c b).senseWatch c b).senseAwait c b) d
          rcases ((s.senseTaken c b).senseWatch c b).senseAwait_cases c b with heq | ⟨r, -, -, hr, -, -, heq⟩
          · rw [heq, hother d hd] at h
            rw [heq]
            exact h
          · rw [heq, chan_stepCompletes_other hr hfree, hother d hd] at h
            rw [heq]
            exact h
  · by_cases hnew : s.pins.inh = b
    · exact ⟨s, exec_inhPinChange_same hnew, by rw [← hnew], fun _ => rfl, by rw [if_pos (.inl hnew)], fun c => .inl rfl, rfl,
        rfl, rfl, rfl, rfl⟩
    · cases hl : s.live
      · exact ⟨_, exec_inhPinChange_held hnew hl, rfl, fun h => absurd h hnew, by rw [if_pos (.inr rfl)]; rfl,
          fun c => .inl rfl, rfl, rfl, rfl, rfl, rfl⟩
      · refine ⟨_, exec_inhPinChange_live hnew hl, by simp; rfl, fun h => absurd h hnew, ?_,
          fun c => finish_same ((s.inhTaken b).filterInh b) c, by simp; rfl, by simp; rfl, by simp; rfl, by simp; rfl,
          by simp; rfl⟩
        rw [if_neg (by simp [hnew])]
        simp
        rfl

end Sys2Proof.Machine
end

section
/-!
Demand, sense loss, shed rest and the timers of the queue (R40, R44, R48, R50, R66-R68, R79; O42, O44, O46).
-/

namespace Sys2Proof.Machine

open Sys2Proof

namespace State

/-! ## A channel joins the queue -/

/-- A new entry of a channel (R48). -/
def isFresh (k : ChannelConfig) (c : Chan) (n : Nat) (e : QueueEntry) : Prop :=
  e.ch = c ∧ e.eff = k.urgency ∧ e.shedCalled = false ∧ e.shedWait = none ∧ e.voids = 0
    ∧ e.patience = agingTimer k k.urgency ∧ (n < 65535 → e.stamp = n)

theorem endStable_isFresh (k : ChannelConfig) (c : Chan) (n : Nat) : EndStable (isFresh k c n) where
  requeue _ h := ⟨h.1, h.2.1, h.2.2.1, h.2.2.2.1, rfl, h.2.2.2.2.2⟩
  offer _ h := ⟨h.1, h.2.1, h.2.2.1, rfl, h.2.2.2.2⟩
  claim _ _ h := h

theorem lists_join (s : State) (c : Chan) : (s.join c).lists (isFresh (s.cfg c) c s.queue.nextStamp) := by
  have hjoined : ∃ e ∈ (s.queue.joined (s.cfg c) c).entries, isFresh (s.cfg c) c s.queue.nextStamp e := by
    unfold ClaimQueue.joined
    split
    · next hfull =>
      refine ⟨_, List.mem_map.mpr ⟨joinEntry (s.cfg c) c s.queue.nextStamp, ?_, rfl⟩, rfl, rfl, rfl, rfl, rfl, rfl,
        fun h => by omega⟩
      exact List.mem_append_right _ List.mem_cons_self
    · exact ⟨joinEntry (s.cfg c) c s.queue.nextStamp, List.mem_append_right _ List.mem_cons_self, rfl, rfl, rfl, rfl, rfl,
        rfl, fun _ => rfl⟩
  obtain ⟨e, he, hfresh⟩ := hjoined
  exact ⟨e, (sortBy_perm _ _).mem_iff.mpr he, hfresh⟩

theorem nextStamp_join {s : State} (h : s.queue.nextStamp < 65535) (c : Chan) :
    (s.join c).queue.nextStamp = s.queue.nextStamp + 1 := by
  rw [join_eq]
  show (s.queue.joined (s.cfg c) c).nextStamp = _
  rw [ClaimQueue.joined, if_neg (by omega)]

/-! ## The debounced request -/

/-- The debouncer has settled on the level of REQn (R66). -/
def requestTaken (s : State) (c : Chan) : State :=
  s.modChan c fun k => { k with debounceTimer := none, debounced := s.pins.req.get c }

theorem debounced_eq (s : State) (c : Chan) :
    s.debounced c =
      if s.pins.req.get c = (s.chan c).debounced then s.requestTaken c
      else (s.requestTaken c).writeLatch c (s.pins.req.get c) := rfl

theorem chan_requestTaken (s : State) (c d : Chan) :
    (s.requestTaken c).chan d =
      if d = c then { s.chan c with debounceTimer := none, debounced := s.pins.req.get c } else s.chan d :=
  chan_modChan s c d fun k => { k with debounceTimer := none, debounced := s.pins.req.get c }

theorem exec_debounceTimerRunsOut {s : State} {c : Chan} (hl : s.live = true)
    (ht : (s.chan c).debounceTimer.isSome = true) : exec (.debounceTimerRunsOut c) s = .next (s.debounced c).finish := by
  show execDebounceTimerRunsOut c s = _
  simp [execDebounceTimerRunsOut, hl, ht]

/-- What the debounced request does to the demand latch: nothing, demand on, or demand off (R66, R67). -/
theorem debounced_cases (s : State) (c : Chan) :
    let level := s.pins.req.get c
    let new :=
      if level = (s.chan c).debounced then (s.chan c).latch
      else if (s.cfg c).requestMode = .level then level
      else if level then !(s.chan c).latch else (s.chan c).latch
    new = (s.chan c).latch ∧ s.debounced c = s.requestTaken c
      ∨ new = true ∧ (s.chan c).latch = false ∧ s.debounced c = (s.requestTaken c).demandOn c
      ∨ new = false ∧ (s.chan c).latch = true ∧ s.debounced c = (s.requestTaken c).demandOff c := by
  intro level new
  have hlatch : ((s.requestTaken c).chan c).latch = (s.chan c).latch := by
    rw [chan_requestTaken, if_pos rfl]
  have hcfg : (s.requestTaken c).cfg c = s.cfg c := rfl
  rw [debounced_eq]
  by_cases hsame : level = (s.chan c).debounced
  · exact .inl ⟨if_pos hsame, if_pos hsame⟩
  · have hnew : new = (s.requestTaken c).latchWritten c level := by
      show (if level = (s.chan c).debounced then _ else _) = _
      rw [if_neg hsame]
      unfold latchWritten
      rw [hlatch, hcfg]
      cases (s.cfg c).requestMode <;> rfl
    rw [if_neg hsame, writeLatch_eq, ← hnew, hlatch]
    cases hn : new <;> cases hk : (s.chan c).latch
    · exact .inl ⟨rfl, if_pos rfl⟩
    · exact .inr (.inr ⟨rfl, rfl, rfl⟩)
    · exact .inr (.inl ⟨rfl, rfl, rfl⟩)
    · exact .inl ⟨rfl, if_pos rfl⟩

/-- A request that turns the latch on puts demand on (R68). -/
theorem debounced_of_press {s : State} {c : Chan} (hoff : (s.chan c).latch = false)
    (hon : (if s.pins.req.get c = (s.chan c).debounced then (s.chan c).latch
      else if (s.cfg c).requestMode = .level then s.pins.req.get c
      else if s.pins.req.get c then !(s.chan c).latch else (s.chan c).latch) = true) :
    s.debounced c = (s.requestTaken c).demandOn c := by
  rcases s.debounced_cases c with ⟨hnew, -⟩ | ⟨-, -, heq⟩ | ⟨hnew, -, -⟩
  · exact absurd (hon.symm.trans (hnew.trans hoff)) (by decide)
  · exact heq
  · exact absurd (hon.symm.trans hnew) (by decide)

/-- A channel's record but for what demand writes of it. -/
def demandless (k : Channel) : Channel :=
  { courseOf k with latch := false, settleWithdrawn := false, senseGrace := none, shedRest := none }

theorem demandless_of_course {j k : Channel} (h : courseOf j = courseOf k) : demandless j = demandless k := by
  unfold demandless
  rw [h]

theorem latch_latchOff (s : State) (c : Chan) :
    ((s.latchOff c).chan c).latch = false ∧ demandless ((s.latchOff c).chan c) = demandless (s.chan c) := by
  unfold latchOff
  rw [chan_clearMark, if_pos rfl, chan_modChan, if_pos rfl]
  exact ⟨rfl, rfl⟩

theorem demandOff_of_queued {s : State} {c : Chan} (h : (s.chan c).state = .queued) :
    s.demandOff c = ((s.latchOff c).leave c).enter c .idle := by
  rw [demandOff_eq, latchOff_state, h]

theorem demandOff_of_claiming {s : State} {c : Chan} (h : (s.chan c).state = .claiming) :
    s.demandOff c = (((s.latchOff c).claimTakenBack c).leave c).enter c .idle := by
  rw [demandOff_eq, latchOff_state, h]

theorem demandOff_of_inEngine {s : State} {c : Chan} (h : (s.chan c).state.inEngine = true) :
    s.demandOff c =
      ((((s.latchOff c).outsOff c).removeStart c).setRelease c (.abandoned .requestOff)).enter c .idle := by
  rw [demandOff_eq, latchOff_state]
  cases hst : (s.chan c).state
  case pending | starting | suspended => rfl
  all_goals
    rw [hst] at h
    cases h

/-- A SETTLING channel's outputs off, its state IDLE (R71). -/
def settleOff (s : State) (c : Chan) : State := ((s.latchOff c).outsOff c).enter c .idle

theorem demandOff_of_settling {s : State} {c : Chan} (h : (s.chan c).state = .settling) :
    s.demandOff c =
      if (s.settleOff c).settledOnBus c then (s.settleOff c).modChan c fun k => { k with settleWithdrawn := true }
      else (s.settleOff c).replaceSettled c (.abandoned .requestOff) := by
  rw [demandOff_eq, latchOff_state, h]
  rfl

theorem demandOff_of_on {s : State} {c : Chan} (h : (s.chan c).state = .on) :
    s.demandOff c =
      ((((s.latchOff c).outsOff c).setRelease c (.stopped .requestOff)).enter c .idle).modChan c
        fun k => { k with senseGrace := none } := by
  rw [demandOff_eq, latchOff_state, h]

theorem demandOff_of_shed {s : State} {c : Chan} (h : (s.chan c).state = .shed) :
    s.demandOff c = ((s.latchOff c).enter c .idle).modChan c fun k => { k with shedRest := none } := by
  rw [demandOff_eq, latchOff_state, h]

theorem demandOff_of_faulted {s : State} {c : Chan} (h : (s.chan c).state = .faulted) :
    s.demandOff c = (s.latchOff c).enter c .idle := by
  rw [demandOff_eq, latchOff_state, h]

theorem demandOff_of_idle {s : State} {c : Chan} (h : (s.chan c).state = .idle ∨ (s.chan c).state = .disabled) :
    s.demandOff c = s.latchOff c := by
  rw [demandOff_eq, latchOff_state]
  rcases h with h | h <;> rw [h]

/-- Demand off writes the latch, and of the course of its channel only what the load's course owned (R69-R72). -/
theorem latch_demandOff (s : State) (c : Chan) :
    ((s.demandOff c).chan c).latch = false ∧ demandless ((s.demandOff c).chan c) = demandless (s.chan c) := by
  obtain ⟨hlatch, hless⟩ := s.latch_latchOff c
  rw [← hless]
  cases hst : (s.chan c).state
  case queued =>
    rw [demandOff_of_queued hst, chan_enter, if_pos rfl]
    exact ⟨hlatch, rfl⟩
  case claiming =>
    rw [demandOff_of_claiming hst, chan_enter, if_pos rfl, chan_leave, chan_claimTakenBack]
    exact ⟨hlatch, rfl⟩
  case settling =>
    have hoff : (s.settleOff c).chan c = { (s.latchOff c).chan c with state := .idle, pre := false, main := false } := by
      rw [settleOff, chan_enter, if_pos rfl, chan_outsOff, if_pos rfl]
    rw [demandOff_of_settling hst]
    split
    · rw [chan_modChan, if_pos rfl, hoff]
      exact ⟨hlatch, rfl⟩
    · rw [chan_replaceSettled, if_pos rfl, hoff]
      exact ⟨hlatch, rfl⟩
  case on =>
    rw [demandOff_of_on hst, chan_modChan, if_pos rfl, chan_enter, if_pos rfl, chan_setRelease, if_pos rfl, chan_outsOff,
      if_pos rfl]
    exact ⟨hlatch, rfl⟩
  case shed =>
    rw [demandOff_of_shed hst, chan_modChan, if_pos rfl, chan_enter, if_pos rfl]
    exact ⟨hlatch, rfl⟩
  case faulted =>
    rw [demandOff_of_faulted hst, chan_enter, if_pos rfl]
    exact ⟨hlatch, rfl⟩
  case idle =>
    rw [demandOff_of_idle (.inl hst)]
    exact ⟨hlatch, rfl⟩
  case disabled =>
    rw [demandOff_of_idle (.inr hst)]
    exact ⟨hlatch, rfl⟩
  all_goals
    have hcourse : courseOf ((((s.latchOff c).outsOff c).removeStart c).chan c) = courseOf ((s.latchOff c).chan c) := by
      rw [sameCourse_removeStart _ c c, chan_outsOff, if_pos rfl]
      rfl
    rw [demandOff_of_inEngine (by rw [hst]; rfl), chan_enter, if_pos rfl, chan_setRelease, if_pos rfl]
    exact ⟨(latch_of_course hcourse).trans hlatch, demandless_of_course hcourse⟩

/-- The demand latch is on. -/
def latched (s : State) (c : Chan) : State := s.modChan c fun k => { k with latch := true }

theorem chan_latched_self (s : State) (c : Chan) : (s.latched c).chan c = { s.chan c with latch := true } := by
  rw [latched, chan_modChan, if_pos rfl]

theorem demandOn_joins {s : State} {c : Chan} (hidle : (s.chan c).state = .idle) (hbus : s.claimOnBus c = false) :
    s.demandOn c = (s.latched c).join c :=
  have hst : ((s.latched c).chan c).state = .idle := by rw [chan_latched_self]; exact hidle
  if_pos ⟨hst, hbus⟩

theorem demandOn_waits {s : State} {c : Chan} (hno : ¬((s.chan c).state = .idle ∧ s.claimOnBus c = false)) :
    s.demandOn c = s.latched c :=
  have hst : ((s.latched c).chan c).state = (s.chan c).state := by rw [chan_latched_self]
  if_neg fun ⟨hidle, hbus⟩ => hno ⟨hst.symm.trans hidle, hbus⟩

theorem chan_demandOn_self (s : State) (c : Chan) :
    (s.demandOn c).chan c =
      if (s.chan c).state = .idle ∧ s.claimOnBus c = false then { s.chan c with latch := true, state := .queued }
      else { s.chan c with latch := true } := by
  by_cases h : (s.chan c).state = .idle ∧ s.claimOnBus c = false
  · rw [if_pos h, demandOn_joins h.1 h.2, chan_join, if_pos rfl, chan_latched_self]
  · rw [if_neg h, demandOn_waits h, chan_latched_self]

theorem latch_demandOn (s : State) (c : Chan) :
    ((s.demandOn c).chan c).latch = true ∧ ((s.demandOn c).chan c).debounced = (s.chan c).debounced
      ∧ ((s.demandOn c).chan c).debounceTimer = (s.chan c).debounceTimer := by
  rw [chan_demandOn_self]
  split <;> exact ⟨rfl, rfl, rfl⟩

/-- The debounced request of the channel is the level of REQn, its timer stopped, and its latch as R67 says. -/
theorem request_debounced (s : State) (c : Chan) :
    let level := s.pins.req.get c
    ((s.debounced c).chan c).debounced = level ∧ ((s.debounced c).chan c).debounceTimer = none
      ∧ ((s.debounced c).chan c).latch =
        if level = (s.chan c).debounced then (s.chan c).latch
        else if (s.cfg c).requestMode = .level then level
        else if level then !(s.chan c).latch else (s.chan c).latch := by
  intro level
  have htaken : (s.requestTaken c).chan c = { s.chan c with debounceTimer := none, debounced := level } := by
    rw [chan_requestTaken, if_pos rfl]
  rcases s.debounced_cases c with ⟨hnew, heq⟩ | ⟨hnew, hoff, heq⟩ | ⟨hnew, hon, heq⟩
  · rw [heq, htaken]
    exact ⟨rfl, rfl, hnew.symm⟩
  · obtain ⟨hlatch, hdeb, htimer⟩ := (s.requestTaken c).latch_demandOn c
    rw [htaken] at hdeb htimer
    rw [heq]
    exact ⟨hdeb, htimer, hlatch.trans hnew.symm⟩
  · obtain ⟨hlatch, hless⟩ := (s.requestTaken c).latch_demandOff c
    rw [htaken] at hless
    rw [heq]
    exact ⟨congrArg Channel.debounced hless, congrArg Channel.debounceTimer hless, hlatch.trans hnew.symm⟩

/-! ## Sense loss and shed rest -/

theorem exec_senseGraceRunsOut {s : State} {c : Chan} (hl : s.live = true) (hon : (s.chan c).state = .on)
    (hg : (s.chan c).senseGrace.isSome = true) : exec (.senseGraceRunsOut c) s = .next (s.senseLost c).finish := by
  show execSenseGraceRunsOut c s = _
  simp [execSenseGraceRunsOut, hl, hon, hg]

theorem exec_shedRestRunsOut {s : State} {c : Chan} (hl : s.live = true) (hshed : (s.chan c).state = .shed)
    (hr : (s.chan c).shedRest.isSome = true) :
    exec (.shedRestRunsOut c) s = .next ((s.modChan c fun k => { k with shedRest := none }).join c).finish := by
  show execShedRestRunsOut c s = _
  simp [execShedRestRunsOut, hl, hshed, hr]

theorem chan_senseLost (s : State) (c d : Chan) :
    (s.senseLost c).chan d =
      if d = c then
        { s.chan c with
          state := .faulted, release := .stopped .senseLost, pre := false, main := false, senseGrace := none, mark := false }
      else s.chan d := by
  have hlog (u : State) (k : FaultKind) (i : Option Nat) : (u.log k (some c) i none).chan d = u.chan d := rfl
  unfold senseLost
  dsimp only
  rw [hlog, chan_clearMark]
  by_cases hd : d = c
  · subst hd
    rw [if_pos rfl, if_pos rfl]
    simp only [chan_modChan, chan_enter, chan_setRelease, chan_outsOff, if_true]
  · rw [if_neg hd, if_neg hd]
    simp only [chan_modChan, chan_enter, chan_setRelease, chan_outsOff, if_neg hd]

theorem senseLost_log (s : State) (c : Chan) :
    ∃ r, (s.senseLost c).faults.records.head? = some r ∧ r.kind = .senseLost ∧ r.ch = some c ∧ r.step = none :=
  ⟨_, rfl, rfl, rfl, rfl⟩

/-- A faulted channel shows in FLT while the channels act (R83). -/
theorem finish_shows_fault {s : State} {c : Chan} (hl : s.live = true) (h : (s.chan c).state = .faulted) :
    s.finish.indicators.flt = true := by
  obtain ⟨-, -, -, hflt⟩ := s.finish_law
  have hsame : s.finish.chan c = s.chan c := eq_of_sameButOffer (finish_same s c) (by rw [h]; simp [inQueue])
  exact (hflt (by simpa using (live_of_running hl).1) (by simpa using live_warning hl)).mpr
    (.inr ⟨c, by rw [hsame]; exact h⟩)

/-! ## The timers of the queue -/

theorem exec_patienceTimerRunsOut {s : State} {c : Chan} {e : QueueEntry} (hop : s.operating = true)
    (he : s.queueEntry c = some e) (hp : e.patience.isSome = true) :
    exec (.patienceTimerRunsOut c) s = .next (s.age c).finish := by
  show execPatienceTimerRunsOut c s = _
  simp [execPatienceTimerRunsOut, hop, he, hp]

theorem exec_shedWaitRunsOut {s : State} {c : Chan} {e : QueueEntry} (hop : s.operating = true)
    (he : s.queueEntry c = some e) (hw : e.shedWait.isSome = true) :
    exec (.shedWaitRunsOut c) s = .next (s.shedWaitEnds c).finish := by
  show execShedWaitRunsOut c s = _
  simp [execShedWaitRunsOut, hop, he, hw]

theorem entryBefore_asymm (mark : Chan → Bool) {a b : QueueEntry} (h : entryBefore mark a b = true) :
    entryBefore mark b a = false := by
  rw [← Bool.not_eq_true]
  intro k
  rw [entryBefore_eq_true] at h k
  cases ha : mark a.ch <;> cases hb : mark b.ch <;> rw [ha, hb] at h k <;> simp at h k <;> omega

/-- No entry of a sorted list stands before one that comes earlier in it, whether or not entries tie. -/
theorem sortBy_notAfter {α : Type} {before : α → α → Bool} (l : List α)
    (trans : ∀ a b c, before a b = true → before b c = true → before a c = true)
    (asymm : ∀ a b, before a b = true → before b a = false) :
    (sortBy before l).Pairwise fun a b => before b a = false := by
  have hinsert (x : α) (l : List α) (h : l.Pairwise fun a b => before b a = false) :
      (insertBy before x l).Pairwise fun a b => before b a = false := by
    induction l with
    | nil => exact List.pairwise_singleton _ _
    | cons y ys ih =>
      obtain ⟨hy, hys⟩ := List.pairwise_cons.mp h
      unfold insertBy
      split
      · next hxy =>
        refine List.pairwise_cons.mpr ⟨fun z hz => ?_, h⟩
        rcases List.mem_cons.mp hz with rfl | hz
        · exact asymm _ _ hxy
        · by_contra hzx
          have := trans _ _ _ (by simpa using hzx) hxy
          rw [hy z hz] at this
          cases this
      · next hxy =>
        refine List.pairwise_cons.mpr ⟨fun z hz => ?_, ih hys⟩
        rcases List.mem_cons.mp ((insertBy_perm before x ys).mem_iff.mp hz) with rfl | hz
        · simpa using hxy
        · exact hy z hz
  induction l with
  | nil => exact List.Pairwise.nil
  | cons x xs ih => exact hinsert x _ ih

/-- The entries of the queue stand in an order that its keys and the marks decide (R47). -/
def orderly (s : State) : Prop := s.queue.entries.Pairwise fun a b => entryBefore s.markOf b a = false

theorem orderly_iff (s : State) : s.orderly ↔ s.queueKeys.Pairwise fun a b => keyBefore s.markOf b a = false := by
  unfold orderly queueKeys
  rw [List.pairwise_map]
  rfl

theorem orderly_reform (s : State) : s.reform.orderly :=
  sortBy_notAfter s.queue.entries (entryBefore_trans s.markOf) fun _ _ => entryBefore_asymm s.markOf

theorem markOf_finish (s : State) : s.finish.markOf = s.markOf := by
  funext c
  obtain ⟨-, hmark, -⟩ := fields_of_sameButOffer (finish_same s c)
  exact hmark

theorem orderly_finish {s : State} (h : s.orderly) : s.finish.orderly := by
  rw [orderly_iff] at h ⊢
  rw [queueKeys_finish, markOf_finish]
  exact h

/-- An aged entry (R50). -/
def isAged (k : ChannelConfig) (e x : QueueEntry) : Prop :=
  x.ch = e.ch ∧ x.stamp = e.stamp ∧ x.eff = e.eff - 1 ∧ x.patience = agingTimer k (e.eff - 1)

theorem endStable_isAged (k : ChannelConfig) (e : QueueEntry) : EndStable (isAged k e) where
  requeue _ h := h
  offer _ h := h
  claim _ _ h := h

theorem lists_age {s : State} {c : Chan} {e : QueueEntry} (he : s.queueEntry c = some e) :
    (s.age c).lists (isAged (s.cfg c) e) := by
  have hmem : e ∈ s.queue.entries := List.mem_of_find?_eq_some he
  have hch : e.ch = c := by simpa using List.find?_some he
  refine ⟨{ e with eff := e.eff - 1, patience := agingTimer (s.cfg c) (e.eff - 1) }, ?_, rfl, rfl, rfl, rfl⟩
  exact (sortBy_perm _ _).mem_iff.mpr (List.mem_map.mpr ⟨e, hmem, if_pos hch⟩)

/-- An entry whose shed wait has ended (R40). -/
def isUnshed (e x : QueueEntry) : Prop :=
  x.ch = e.ch ∧ x.stamp = e.stamp ∧ x.shedWait = none ∧ x.shedCalled = e.shedCalled

theorem endStable_isUnshed (e : QueueEntry) : EndStable (isUnshed e) where
  requeue _ h := h
  offer _ h := ⟨h.1, h.2.1, rfl, h.2.2.2⟩
  claim _ _ h := h

/-- The entry's shed wait is ended. -/
def shedWaited (s : State) (c : Chan) : State := s.modEntry c fun e => { e with shedWait := none }

theorem shedWaitEnds_eq (s : State) (c : Chan) :
    s.shedWaitEnds c =
      if (s.chan c).state = .queued then (s.shedWaited c).log .shedInsufficient (some c) none none
      else s.shedWaited c := rfl

theorem lists_shedWaitEnds {s : State} {c : Chan} {e : QueueEntry} (he : s.queueEntry c = some e) :
    (s.shedWaitEnds c).lists (isUnshed e) := by
  have hmem : e ∈ s.queue.entries := List.mem_of_find?_eq_some he
  have hch : e.ch = c := by simpa using List.find?_some he
  have hwaited : (s.shedWaited c).lists (isUnshed e) :=
    ⟨{ e with shedWait := none }, List.mem_map.mpr ⟨e, hmem, if_pos hch⟩, rfl, rfl, rfl, rfl⟩
  rw [shedWaitEnds_eq]
  split
  · exact hwaited
  · exact hwaited

theorem orderly_age (s : State) (c : Chan) : (s.age c).orderly :=
  orderly_reform (s.modEntry c fun e => { e with eff := e.eff - 1, patience := agingTimer (s.cfg c) (e.eff - 1) })

theorem chan_age (s : State) (c d : Chan) : (s.age c).chan d = s.chan d := rfl

theorem chan_shedWaitEnds (s : State) (c d : Chan) : (s.shedWaitEnds c).chan d = s.chan d := by
  rw [shedWaitEnds_eq]
  split <;> rfl

end State

open State

/-- Settles O42: the debounced request leaves the latch, puts demand on, or takes it off; only the second and third write
more of the channel than the debouncer's own fields. -/
theorem debouncedRequestWritesTheLatch : Obligations.DebouncedRequestWritesTheLatch := by
  intro c s hl ht level new
  refine ⟨_, exec_debounceTimerRunsOut hl ht, ?_⟩
  have hcourse := sameCourse_finish (s.debounced c) c
  have htaken : (s.requestTaken c).chan c = { s.chan c with debounceTimer := none, debounced := level } := by
    rw [chan_requestTaken, if_pos rfl]
  obtain ⟨hdeb, htimer, hlatch⟩ := s.request_debounced c
  refine ⟨(debounced_of_course hcourse).trans hdeb, (debounceTimer_of_course hcourse).trans htimer,
    (latch_of_course hcourse).trans hlatch, by simp, by simp, by simp, fun hsame => ?_, fun hoff hon hidle hbus => ?_,
    fun hoff hon hidle hbus => ?_⟩
  · have heq : s.debounced c = s.requestTaken c := by
      rcases s.debounced_cases c with ⟨-, heq⟩ | ⟨hnew, hoff, -⟩ | ⟨hnew, hon, -⟩
      · exact heq
      · exact absurd (hnew.symm.trans (hsame.trans hoff)) (by decide)
      · exact absurd (hnew.symm.trans (hsame.trans hon)) (by decide)
    rw [heq]
    refine ⟨?_, by simp; rfl, by simp; rfl⟩
    have h := finish_same (s.requestTaken c) c
    rw [htaken] at h
    have hmap := sameButOffer_map
      (fun k => { k with debounced := (s.chan c).debounced, debounceTimer := (s.chan c).debounceTimer }) (fun _ => rfl)
      (fun _ _ => rfl) h
    exact hmap
  · have heq := (s.debounced_of_press hoff hon).trans
      (demandOn_joins (s := s.requestTaken c) (c := c) (by rw [htaken]; exact hidle) hbus)
    have hself : (s.debounced c).chan c
        = { s.chan c with debounceTimer := none, debounced := level, latch := true, state := .queued } := by
      rw [heq, chan_join, if_pos rfl, chan_latched_self, htaken]
    have hend := finish_same (s.debounced c) c
    rw [hself] at hend
    obtain ⟨-, -, hrel, -⟩ := fields_of_sameButOffer hend
    obtain ⟨e, he, hch, heff, hcalled, hwait, hvoids, hpatience, hstamp⟩ :=
      lists_finish (endStable_isFresh _ c _) (lists_join ((s.requestTaken c).latched c) c)
    rw [← heq] at he
    refine ⟨inQueue_of_sameButOffer hend (.inl rfl), hrel, e, he, hch, heff, hcalled, hwait, hvoids, hpatience,
      fun hn => ⟨hstamp hn, ?_⟩⟩
    rw [nextStamp_finish, heq]
    exact nextStamp_join (s := (s.requestTaken c).latched c) hn c
  · have heq := (s.debounced_of_press hoff hon).trans
      (demandOn_waits (s := s.requestTaken c) (c := c) fun h => Bool.false_ne_true (h.2.symm.trans hbus))
    have hself : ((s.debounced c).chan c).state = .idle := by
      rw [heq, chan_latched_self, htaken]
      exact hidle
    rw [eq_of_sameButOffer (finish_same (s.debounced c) c) (by rw [hself]; simp [inQueue])]
    exact hself

/-- Settles O44: the sense loss faults the channel outright; the end of a shed rest is a join. -/
theorem senseLostFaultsAndShedRestRequeues : Obligations.SenseLostFaultsAndShedRestRequeues := by
  refine ⟨fun c s hl hon hg => ?_, fun c s hl hshed hr => ?_⟩
  · have hself := s.chan_senseLost c c
    rw [if_pos rfl] at hself
    have hend := finish_same (s.senseLost c) c
    rw [hself] at hend
    have hsame := eq_of_sameButOffer hend (by simp [inQueue])
    refine ⟨_, exec_senseGraceRunsOut hl hon hg, ?_⟩
    rw [hsame]
    refine ⟨rfl, ⟨rfl, rfl⟩, rfl, rfl, rfl, rfl, by simpa using s.senseLost_log c, ?_, fun d hd => ?_, by simp, by simp, by simp,
      by simp⟩
    · exact finish_shows_fault (c := c) ((live_of_keeps (by simp) (by simp)).trans hl) (by rw [hself])
    · have h := finish_same (s.senseLost c) d
      rwa [chan_senseLost, if_neg hd] at h
  · refine ⟨_, exec_shedRestRunsOut hl hshed hr, ?_⟩
    have hself : ((s.modChan c fun k => { k with shedRest := none }).join c).chan c
        = { s.chan c with shedRest := none, state := .queued } := by
      rw [chan_join, if_pos rfl, chan_modChan, if_pos rfl]
    have hend := finish_same ((s.modChan c fun k => { k with shedRest := none }).join c) c
    rw [hself] at hend
    obtain ⟨e, he, hch, heff, hcalled, -, hvoids, -⟩ :=
      lists_finish (endStable_isFresh _ c _) (lists_join (s.modChan c fun k => { k with shedRest := none }) c)
    obtain ⟨-, -, hrel, -⟩ := fields_of_sameButOffer hend
    refine ⟨inQueue_of_sameButOffer hend (.inl rfl), shedRest_of_course (course_of_sameButOffer hend), hrel,
      ⟨e, he, hch, heff, hvoids, hcalled⟩, fun d hd => ?_, by simp, by simp, by simp, by simp, by simp⟩
    have h := finish_same ((s.modChan c fun k => { k with shedRest := none }).join c) d
    rwa [chan_join, if_neg hd, chan_modChan, if_neg hd] at h

/-- Settles O46: ageing re-forms the queue, and the end of the step leaves its order; the entries stand as the two events
wrote them. -/
theorem queueTimersRunOut : Obligations.QueueTimersRunOut := by
  refine ⟨fun c s e hop he hp heff => ?_, fun c s e hop he hw => ?_⟩
  · have hch : e.ch = c := by simpa using List.find?_some he
    obtain ⟨x, hx, hxch, hstamp, hxeff, hpatience⟩ := lists_finish (endStable_isAged _ e) (lists_age he)
    have hval : (e.eff - 1).val = e.eff.val - 1 := by
      have : e.eff ≠ 0 := fun h => by rw [h] at heff; simp at heff
      exact Fin.val_sub_one_of_ne_zero this
    refine ⟨_, exec_patienceTimerRunsOut hop he hp, ⟨x, hx, hxch.trans hch, hstamp, by rw [hxeff, hval], ?_⟩,
      orderly_finish (orderly_age s c), fun d => finish_same (s.age c) d, by simp, by simp, by simp, by simp, by simp⟩
    rw [hpatience]
    unfold agingTimer
    congr 1
    have h2 : (2 ≤ (s.cfg c).urgency) = (2 ≤ (s.cfg c).urgency.val) := rfl
    have h1 : (1 < e.eff - 1) = (2 < e.eff.val) := by
      rw [Fin.lt_def, hval]
      exact propext ⟨fun h => by have : (1 : Urg).val = 1 := rfl; omega, fun h => by have : (1 : Urg).val = 1 := rfl; omega⟩
    rw [h1, h2]
  · have hch : e.ch = c := by simpa using List.find?_some he
    obtain ⟨x, hx, hxch, hstamp, hwait, hcalled⟩ := lists_finish (endStable_isUnshed e) (lists_shedWaitEnds he)
    refine ⟨_, exec_shedWaitRunsOut hop he hw, ⟨x, hx, hxch.trans hch, hstamp, hwait, hcalled⟩, fun hq => ?_, fun hq => ?_,
      fun d => ?_, by simp, by simp, by simp, by simp⟩
    · rw [shedWaitEnds_eq, if_pos hq]
      exact ⟨_, by simp; rfl, rfl, rfl⟩
    · rw [shedWaitEnds_eq, if_neg hq]
      simp
      rfl
    · have h := finish_same (s.shedWaitEnds c) d
      rwa [chan_shedWaitEnds] at h

end Sys2Proof.Machine
end

section
/-! The filtered INH (R52, R55, R80, R114; O45). -/

namespace Sys2Proof.Machine

open Sys2Proof

namespace State

/-! ## A claim on the bus at the end of a step -/

theorem chan_requeue_onBus {s : State} {c d : Chan} (hd : s.claimOnBus d = false) (hc : s.claimOnBus c = true) :
    (s.requeue d).chan c = s.chan c := by
  rw [chan_requeue, if_neg]
  rintro rfl
  rw [hc] at hd
  cases hd

theorem chan_withdrawBehind_onBus (l : List QueueEntry) {s : State} {c : Chan} (h : s.claimOnBus c = true) :
    (s.withdrawBehind l).chan c = s.chan c := by
  induction l generalizing s with
  | nil => rfl
  | cons e es ih =>
    rw [withdrawBehind]
    split
    · next hcl =>
      rw [ih (s := s.requeue e.ch) h]
      exact chan_requeue_onBus hcl.2 h
    · exact ih h

theorem chan_judgeHead_onBus {s : State} {c : Chan} (h : s.claimOnBus c = true) (hst : (s.chan c).state ≠ .queued) :
    s.judgeHead.chan c = s.chan c := by
  have hshed (u : State) (e : QueueEntry) : (u.judgeShedNeed e).chan c = u.chan c := chan_of_channels (by simp) c
  have hend (u : State) : u.endShedNeed.chan c = u.chan c := rfl
  unfold judgeHead
  split
  · exact hend s
  · next e rest hq =>
    split
    · next hqueued =>
      split
      · rw [hend, chan_enter, if_neg (by rintro rfl; exact hst hqueued)]
        rfl
      · exact hshed s e
    · next hcl =>
      split
      · exact hend s
      · next hno =>
        rw [hshed, chan_requeue_onBus (by simpa using (Bool.or_eq_false_iff.mp (by simpa using hno)).1) h]
    all_goals exact hend s

theorem chan_evaluate_onBus {s : State} {c : Chan} (h : s.claimOnBus c = true) (hst : (s.chan c).state ≠ .queued) :
    s.evaluate.chan c = s.chan c := by
  have hbehind := chan_withdrawBehind_onBus s.queue.entries.tail h
  have hbus : (s.withdrawBehind s.queue.entries.tail).claimOnBus c = true := by
    rwa [claimOnBus_of_tx (s := s) (by simp)]
  rw [evaluate, chan_judgeHead_onBus hbus (by rwa [hbehind]), hbehind]

theorem tx_of_claimOnBus {s : State} {c : Chan} (h : s.claimOnBus c = true) : s.bus.tx.isSome = true := by
  unfold claimOnBus at h
  split at h
  · next heq => rw [heq]; rfl
  · cases h

/-- The end of a step leaves the channel of the claim on the bus as it is. -/
theorem chan_finish_onBus {s : State} {c : Chan} (h : s.claimOnBus c = true) (hst : (s.chan c).state ≠ .queued) :
    s.finish.chan c = s.chan c := by
  rw [finish, select_of_sending (by simpa using tx_of_claimOnBus h), chan_of_channels (s := s.takeNotice) (by simp)]
  unfold takeNotice
  split
  · split
    · exact chan_evaluate_onBus (s := { s with notice := false }) h hst
    · rfl
  · rfl

/-! ## An offered head at the end of a step -/

/-- The head of the queue is offered: CLAIMING, with every condition of R52 holding. -/
def isOffered (s : State) (c : Chan) : Prop :=
  ∃ e rest, s.queue.entries = e :: rest ∧ e.ch = c ∧ (s.chan c).state = .claiming ∧ s.offers e = true

theorem isOffered_of_eq {s t : State} {c : Chan} (h : s.isOffered c) (hq : t.queue.entries = s.queue.entries)
    (hc : t.channels = s.channels) (ho : ∀ e, t.offers e = s.offers e) : t.isOffered c := by
  obtain ⟨e, rest, he, hch, hst, hoff⟩ := h
  exact ⟨e, rest, hq.trans he, hch, by rwa [chan_of_channels hc], (ho e).trans hoff⟩

theorem offers_congr {s : State} {e x : QueueEntry} (hch : x.ch = e.ch) (heff : x.eff = e.eff) : s.offers x = s.offers e := by
  unfold offers offerable
  rw [hch, heff]

theorem offerable_enter (s : State) (d : Chan) (st : ChanState) (e : QueueEntry) :
    (s.enter d st).offerable e = s.offerable e := by
  have hrel : ((s.enter d st).chan e.ch).release = (s.chan e.ch).release := by
    rw [chan_enter]
    split
    · next h => rw [h]
    · rfl
  show (_ && _ && _ && _ && _ && decide (((s.enter d st).chan e.ch).release = .none)) = _
  rw [hrel]
  rfl

theorem offers_enter (s : State) (d : Chan) (st : ChanState) (e : QueueEntry) : (s.enter d st).offers e = s.offers e := by
  unfold offers
  rw [offerable_enter]
  rfl

theorem offers_requeue (s : State) (d : Chan) (e : QueueEntry) : (s.requeue d).offers e = s.offers e :=
  offers_enter _ d .queued e

theorem chan_build_offered {s : State} {c : Chan} (h : s.isOffered c) (src : Source) :
    (s.build src).1.chan c = s.chan c ∧ ((s.build src).2 = none → (s.build src).1.isOffered c) := by
  cases src with
  | claim eff =>
    show (s.buildClaim eff).1.chan c = _ ∧ ((s.buildClaim eff).2 = none → (s.buildClaim eff).1.isOffered c)
    cases hf : (s.buildClaim eff).2 with
    | some f =>
      obtain ⟨e, rest, -, -, -, -, -, heq⟩ := buildClaim_some hf
      rw [heq]
      exact ⟨rfl, fun hno => by cases hno⟩
    | none =>
      rcases buildClaim_none hf with heq | ⟨e, rest, he, -, hno, -⟩
      · rw [heq]
        exact ⟨rfl, fun _ => h⟩
      · obtain ⟨e', rest', he', -, -, hoff⟩ := h
        rw [he] at he'
        obtain ⟨rfl, -⟩ := List.cons_eq_cons.mp he'
        rw [hno] at hoff
        cases hoff
  | shedCall =>
    refine ⟨chan_of_channels (by simp [build]) c, fun _ => ?_⟩
    show s.buildShedCall.1.isOffered c
    unfold buildShedCall
    repeat' split
    all_goals exact isOffered_of_eq h rfl rfl fun _ => rfl
  | release | expire | absent | renewal | recount | syncReq | hello | presence | answer => exact ⟨rfl, fun _ => h⟩

theorem chan_trySources_offered (l : List Source) {s : State} {c : Chan} (h : s.isOffered c) :
    (s.trySources l).chan c = s.chan c := by
  induction l generalizing s with
  | nil => rfl
  | cons src rest ih =>
    obtain ⟨hsame, hnone⟩ := chan_build_offered h src
    unfold trySources
    split
    · split
      · next s' f heq =>
        rw [heq] at hsame
        exact hsame
      · next s' heq =>
        rw [heq] at hsame hnone
        rw [ih (hnone rfl), hsame]
    · exact ih h

/-- The entries behind a queued head are withdrawn; the head itself, and what it is offered on, stay. -/
theorem withdrawBehind_head {e : QueueEntry} (l : List QueueEntry) {s : State} {rest : List QueueEntry}
    (he : s.queue.entries = e :: rest) (hst : (s.chan e.ch).state = .queued) :
    (∃ rest', (s.withdrawBehind l).queue.entries = e :: rest')
      ∧ ∀ x, (s.withdrawBehind l).offers x = s.offers x := by
  induction l generalizing s rest with
  | nil => exact ⟨⟨rest, he⟩, fun _ => rfl⟩
  | cons d ds ih =>
    rw [withdrawBehind]
    split
    · next hcl =>
      have hne : e.ch ≠ d.ch := fun h => by rw [h, hcl.1] at hst; cases hst
      have hentries : ∃ rest', (s.requeue d.ch).queue.entries = e :: rest' := by
        refine ⟨rest.map fun x => if x.ch = d.ch then { x with voids := 0, offered := none } else x, ?_⟩
        show s.queue.entries.map _ = _
        rw [he, List.map_cons, if_neg hne]
      obtain ⟨rest', hrest⟩ := hentries
      obtain ⟨hhead, hoff⟩ := ih hrest (by rw [chan_requeue_queued hcl.1 hst]; exact hst)
      exact ⟨hhead, fun x => (hoff x).trans (offers_requeue s d.ch x)⟩
    · exact ih he hst

/-- The evaluation offers a queued head on which every condition holds (R51, R52). -/
theorem isOffered_evaluate {s : State} {e : QueueEntry} {rest : List QueueEntry} (he : s.queue.entries = e :: rest)
    (hst : (s.chan e.ch).state = .queued) (hoff : s.offers e = true) : s.evaluate.isOffered e.ch := by
  obtain ⟨⟨rest', hrest⟩, hsame⟩ := withdrawBehind_head s.queue.entries.tail he hst
  have hqueued : ((s.withdrawBehind s.queue.entries.tail).chan e.ch).state = .queued := by
    rw [chan_withdrawBehind_queued _ hst]
    exact hst
  generalize hw : s.withdrawBehind s.queue.entries.tail = w at hrest hsame hqueued
  have hjudge : w.judgeHead = (w.offered e.ch).endShedNeed := by
    unfold judgeHead
    rw [hrest]
    dsimp only
    rw [hqueued]
    dsimp only
    rw [if_pos ((hsame e).trans hoff)]
    rfl
  rw [evaluate, hw, hjudge]
  refine ⟨{ e with shedWait := none }, rest'.map fun x => if x.ch = e.ch then { x with shedWait := none } else x, ?_, rfl, ?_, ?_⟩
  · show w.queue.entries.map _ = _
    rw [hrest, List.map_cons, if_pos rfl]
  · show ((w.offered e.ch).chan e.ch).state = _
    rw [chan_offered, if_pos rfl]
  · exact (offers_enter _ e.ch .claiming _).trans (((offers_congr rfl rfl).trans (hsame e)).trans hoff)

/-- Where the evaluation runs, a queued head on which every condition holds is CLAIMING at the end of the step. -/
theorem finish_offers {s : State} {e : QueueEntry} {rest : List QueueEntry} (hl : s.live = true) (hn : s.notice = true)
    (he : s.queue.entries = e :: rest) (hst : (s.chan e.ch).state = .queued) (hoff : s.offers e = true) :
    (s.finish.chan e.ch).state = .claiming := by
  have hoffered : s.takeNotice.isOffered e.ch := by
    rw [takeNotice, if_pos hn, if_pos hl]
    exact isOffered_evaluate (s := { s with notice := false }) he hst hoff
  have hsel : s.takeNotice.select.chan e.ch = s.takeNotice.chan e.ch := by
    unfold select
    split
    · exact chan_trySources_offered _ hoffered
    · rfl
  obtain ⟨x, -, -, -, hclaiming, -⟩ := hoffered
  rw [finish, chan_of_channels (s := s.takeNotice.select) (by simp), hsel, hclaiming]

/-! ## INH is asserted -/

theorem claimOnBus_of_core {s t : State} (h : t.bus.core = s.bus.core) (c : Chan) : t.claimOnBus c = s.claimOnBus c := by
  obtain ⟨-, -, -, -, -, -, hsent, -⟩ := Bus.of_core h
  have himp {u v : State} (huv : v.bus.sending = u.bus.sending) (hu : u.claimOnBus c = true) : v.claimOnBus c = true := by
    obtain ⟨x, p, hx, hf, rfl⟩ := (claimOnBus_iff u c).mp hu
    refine claimOnBus_of_sending (b := x.withdrawn) (huv.trans ?_)
    rw [Bus.sending, hx, Option.map_some, hf]
  exact Bool.eq_iff_iff.mpr ⟨himp hsent.symm, himp hsent⟩

/-- What a withdrawal of its claim, unless that is on the bus, leaves of a channel. -/
def retracted (s : State) (c : Chan) : Channel :=
  if (s.chan c).state = .claiming ∧ s.claimOnBus c = false then { s.chan c with state := .queued } else s.chan c

theorem retracted_of {s : State} {c : Chan} (h : (s.chan c).state = .claiming ∧ s.claimOnBus c = false) :
    s.retracted c = { s.chan c with state := .queued } := if_pos h

theorem retracted_of_not {s : State} {c : Chan} (h : ¬((s.chan c).state = .claiming ∧ s.claimOnBus c = false)) :
    s.retracted c = s.chan c := if_neg h

theorem retracted_state_ne (s : State) (c : Chan) : ¬((s.retracted c).state = .claiming ∧ s.claimOnBus c = false) := by
  rintro ⟨hst, hbus⟩
  by_cases h : (s.chan c).state = .claiming ∧ s.claimOnBus c = false
  · rw [retracted_of h] at hst
    cases hst
  · rw [retracted_of_not h] at hst
    exact h ⟨hst, hbus⟩

theorem chan_withdrawIdleClaim (s : State) (c d : Chan) :
    (s.withdrawIdleClaim c).chan d = if d = c then s.retracted d else s.chan d := by
  unfold withdrawIdleClaim
  by_cases hd : d = c
  · subst hd
    rw [if_pos rfl]
    split
    · next h => rw [chan_requeue, if_pos rfl, retracted_of h]
    · next h => rw [retracted_of_not h]
  · rw [if_neg hd]
    split
    · rw [chan_requeue, if_neg hd]
    · rfl

theorem retracted_withdrawIdleClaim (s : State) (c d : Chan) : (s.withdrawIdleClaim c).retracted d = s.retracted d := by
  have hbus : (s.withdrawIdleClaim c).claimOnBus d = s.claimOnBus d := claimOnBus_of_tx (by simp) d
  have hchan := chan_withdrawIdleClaim s c d
  by_cases hd : d = c
  · rw [if_pos hd] at hchan
    rw [retracted_of_not (by rw [hbus, hchan]; exact s.retracted_state_ne d), hchan]
  · rw [if_neg hd] at hchan
    unfold retracted
    rw [hbus, hchan]

theorem chan_foldl_withdrawIdleClaim (l : List Chan) (s : State) (d : Chan) :
    (l.foldl (fun s c => s.withdrawIdleClaim c) s).chan d = if d ∈ l then s.retracted d else s.chan d := by
  induction l generalizing s with
  | nil => rfl
  | cons c cs ih =>
    rw [List.foldl_cons, ih, chan_withdrawIdleClaim, retracted_withdrawIdleClaim]
    by_cases hd : d = c
    · rw [if_pos hd, ite_self, if_pos (List.mem_cons.mpr (.inl hd))]
    · simp [hd]

theorem chan_claimsWithdrawn (s : State) (c : Chan) : s.claimsWithdrawn.chan c = s.retracted c :=
  (chan_foldl_withdrawIdleClaim allChans { s with inh := { asserted := true, timer := none } } c).trans
    (if_pos (mem_allChans c))

theorem claimsWithdrawn_keeps (s : State) :
    s.claimsWithdrawn.engine = s.engine ∧ s.claimsWithdrawn.inh = { asserted := true, timer := none } := by
  unfold claimsWithdrawn
  simp

theorem inEngine_claimsWithdrawn (s : State) (c : Chan) :
    (s.claimsWithdrawn.chan c).state.inEngine = (s.chan c).state.inEngine := by
  rw [chan_claimsWithdrawn]
  by_cases h : (s.chan c).state = .claiming ∧ s.claimOnBus c = false
  · rw [retracted_of h, h.1]
    rfl
  · rw [retracted_of_not h]

theorem inhibit_inh (s : State) : s.inhibit.inh = { asserted := true, timer := none } := by
  rw [inhibit_eq]
  split
  · exact s.claimsWithdrawn_keeps.2
  · simpa using s.claimsWithdrawn_keeps.2

/-- The starts in progress end QUEUED with ABANDONED(INHIBIT) pending (R80, R114). -/
theorem chan_inhibit_inEngine {s : State} {c : Chan} (hc : (s.chan c).state.inEngine = true) :
    s.inhibit.chan c = { s.chan c with state := .queued, pre := false, main := false, release := .abandoned .inhibit } := by
  have hin : (s.claimsWithdrawn.chan c).state.inEngine = true := by rwa [inEngine_claimsWithdrawn]
  have hsome : s.claimsWithdrawn.startsInProgress.isEmpty = false := by
    rw [List.isEmpty_eq_false_iff_exists_mem]
    exact ⟨c, (mem_startsInProgress _ c).mpr hin⟩
  have hsame : s.claimsWithdrawn.chan c = s.chan c := by
    rw [chan_claimsWithdrawn, retracted_of_not]
    intro h
    rw [h.1] at hc
    cases hc
  rw [inhibit_eq, if_neg (by simp [hsome]), chan_abortAll_self hin, hsame]
  rfl

/-- The other channels keep their records, but for the withdrawn claims. -/
theorem chan_inhibit_other {s : State} {c : Chan} (hc : (s.chan c).state.inEngine = false) :
    s.inhibit.chan c = s.retracted c := by
  rw [← chan_claimsWithdrawn, inhibit_eq]
  split
  · rfl
  · exact chan_abortAll_other (by rwa [inEngine_claimsWithdrawn]) _

/-- No start is in progress: the engine is empty (R86). -/
theorem engine_empty_of_engineLaw {s : State} (h : EngineLaw s) (hno : ∀ c, (s.chan c).state.inEngine = false) :
    s.engine.running = none ∧ s.engine.waiting = none ∧ s.engine.stack = [] := by
  obtain ⟨hstates, -⟩ := h
  have hnot (c : Chan) (st : ChanState) (hst : st.inEngine = true) : (s.chan c).state ≠ st := by
    intro hc
    have := hno c
    rw [hc, hst] at this
    cases this
  refine ⟨?_, ?_, ?_⟩
  · cases hr : s.engine.running with
    | none => rfl
    | some r => exact absurd ((hstates r.ch).1.mp (by rw [hr]; rfl)) (hnot _ _ rfl)
  · cases hw : s.engine.waiting with
    | none => rfl
    | some c => exact absurd ((hstates c).2.1.mp hw) (hnot _ _ rfl)
  · rw [List.eq_nil_iff_forall_not_mem]
    exact fun r hr => hnot _ _ rfl ((hstates r.ch).2.2.mp (List.mem_map_of_mem hr))

theorem inhibit_engine {s : State} (h : EngineLaw s) :
    s.inhibit.engine.running = none ∧ s.inhibit.engine.waiting = none ∧ s.inhibit.engine.stack = [] := by
  rw [inhibit_eq]
  split
  · next hempty =>
    rw [s.claimsWithdrawn_keeps.1]
    refine engine_empty_of_engineLaw h fun c => ?_
    rw [← inEngine_claimsWithdrawn, ← Bool.not_eq_true, ← mem_startsInProgress, List.isEmpty_iff.mp hempty]
    exact List.not_mem_nil
  · exact abortAll_engine _ _

theorem exec_inhAsserted {s : State} (hl : s.live = true) (ht : s.inh.timer.isSome = true) (hp : s.pins.inh = true)
    (ha : s.inh.asserted = false) : exec .inhAsserted s = .next s.inhibit.finish := by
  show execInhAsserted s = _
  simp [execInhAsserted, hl, ht, hp, ha]

theorem exec_inhReleased {s : State} (hl : s.live = true) (ht : s.inh.timer.isSome = true) (hp : s.pins.inh = false)
    (ha : s.inh.asserted = true) : exec .inhReleased s = .next s.inhReleased.finish := by
  show execInhReleased s = _
  simp [execInhReleased, hl, ht, hp, ha, inhReleased]

end State

open State

/-- Settles O45: the assertion withdraws and aborts, and bars every entry for the rest of the step; the release calls for
the evaluation, which offers the head. -/
theorem inhibitAbortsEveryStart : Obligations.InhibitAbortsEveryStart := by
  refine ⟨fun s hl heng ht hp ha => ?_, fun s hl ht hp ha => ?_⟩
  · have hbarred (c : Chan) : s.inhibit.barred c := .inr (.inl (by rw [inhibit_inh]))
    refine ⟨_, exec_inhAsserted hl ht hp ha, by simpa using s.inhibit_inh, by simpa using (inhibit_engine heng).1,
      by simpa using (inhibit_engine heng).2.1, by simpa using (inhibit_engine heng).2.2, fun c hc => ?_,
      fun c hc hbus => ?_, fun c hc hkeep => ?_, by simp, by simp, by simp, by simp⟩
    · have hself := chan_inhibit_inEngine hc
      rw [chan_finish_barred (by rw [hself]) (hbarred c), hself]
      exact ⟨rfl, ⟨rfl, rfl⟩, rfl, rfl⟩
    · have hself := chan_inhibit_other (s := s) (c := c) (by rw [hc]; rfl)
      rw [retracted_of ⟨hc, hbus⟩] at hself
      rw [chan_finish_barred (by rw [hself]) (hbarred c), hself]
    · have hself := chan_inhibit_other hc
      rw [retracted_of_not fun h => hkeep.elim (fun k => k h.1) fun k => Bool.false_ne_true (h.2.symm.trans k)] at hself
      by_cases hqueued : (s.chan c).state = .queued
      · rw [chan_finish_barred (by rw [hself]; exact hqueued) (hbarred c), hself]
      · by_cases hclaiming : (s.chan c).state = .claiming
        · have hbus : s.claimOnBus c = true := hkeep.resolve_left fun k => k hclaiming
          have hbus' : s.inhibit.claimOnBus c = true := by
            rwa [claimOnBus_of_core s.inhibit_core]
          rw [chan_finish_onBus hbus' (by rwa [hself]), hself]
        · have hend := finish_same s.inhibit c
          rw [hself] at hend
          exact eq_of_sameButOffer hend fun h => h.elim hqueued hclaiming
  · refine ⟨_, exec_inhReleased hl ht hp ha, by simp; rfl, fun c => finish_same s.inhReleased c, fun e rest he hst hoff => ?_,
      by simp; rfl, by simp; rfl, by simp; rfl, by simp; rfl, by simp; rfl⟩
    exact finish_offers (s := s.inhReleased) hl rfl he hst hoff

end Sys2Proof.Machine
end

section
/-! The timers of membership (R133, R136, R143-R145; O48). -/

namespace Sys2Proof.Machine

open Sys2Proof

namespace State

theorem exec_presenceTimerRunsOut {s : State} (hop : s.operating = true) (ht : s.member.presenceTimer.isSome = true) :
    exec .presenceTimerRunsOut s
      = .next ({ s with member.presenceTimer := none, member.presenceDue := true } : State).finish := by
  show execPresenceTimerRunsOut s = _
  simp [execPresenceTimerRunsOut, hop, ht]

theorem exec_listenWindowRunsOut {s : State} (hop : s.operating = true) (hst : s.member.state = .listen)
    (ht : s.member.listenWindow.isSome = true) : exec .listenWindowRunsOut s = .next s.windowEnds.finish := by
  show execListenWindowRunsOut s = _
  simp [execListenWindowRunsOut, hop, hst, ht]

theorem exec_syncTimeoutRunsOut {s : State} (hop : s.operating = true) (hst : s.member.state = .syncing)
    (ht : s.member.syncTimeout.isSome = true) : exec .syncTimeoutRunsOut s = .next s.syncEnds.finish := by
  show execSyncTimeoutRunsOut s = _
  simp [execSyncTimeoutRunsOut, hop, hst, ht]

theorem exec_absenceTimeReached {s : State} {a : Addr} (hop : s.operating = true) (hst : (s.peer a).state = .present)
    (ht : (s.peer a).lastHeard.isSome = true) : exec (.absenceTimeReached a) s = .next (s.peerSilent a).finish := by
  show execAbsenceTimeReached a s = _
  simp [execAbsenceTimeReached, hop, hst, ht]

theorem exec_requestTimerRunsOut {s : State} {a : Addr} (hop : s.operating = true)
    (ht : (s.peer a).requestTimer.isSome = true) :
    exec (.requestTimerRunsOut a) s = .next (s.modPeer a fun x => { x with requestTimer := none }).finish := by
  show execRequestTimerRunsOut a s = _
  simp [execRequestTimerRunsOut, hop, ht]

theorem enterInStep_joined (s : State) : s.enterInStep.history.joined = true := by
  have hkeep (u : State) : u.judgeSampling.history.joined = u.history.joined := by
    unfold judgeSampling
    split <;> rfl
  have hisolated (u : State) : u.judgeIsolated.history = u.history := by
    unfold judgeIsolated
    split <;> simp
  rw [enterInStep_eq, hisolated]
  exact hkeep s.steppedIn

theorem enterInStep_keeps_local (s : State) :
    s.enterInStep.channels = s.channels ∧ s.enterInStep.starts = s.starts ∧ s.enterInStep.draws = s.draws
      ∧ s.enterInStep.engine = s.engine ∧ s.enterInStep.retention = s.retention := by
  simp

theorem chan_windowEnds (s : State) : s.windowEnds.channels = s.channels := by
  unfold windowEnds
  split <;> simp

/-- ISOLATED is entered past SYNCING with its record (R144). -/
theorem enterInStep_log {s : State} (h : 3 ≤ s.bus.unackRun) :
    ∃ r, s.enterInStep.faults.records.head? = some r ∧ r.kind = .isolatedEntered := by
  have hst : s.steppedIn.judgeSampling.markAbsentees.member.state = .inStep := by
    show s.steppedIn.judgeSampling.member.state = _
    rw [show s.steppedIn.judgeSampling.member = s.steppedIn.member by simp only [judgeSampling_keeps]]
    simp [steppedIn]
  have hrun : 3 ≤ s.steppedIn.judgeSampling.markAbsentees.bus.unackRun := by
    show 3 ≤ s.steppedIn.judgeSampling.bus.unackRun
    rw [show s.steppedIn.judgeSampling.bus = s.bus by
      simp only [judgeSampling_keeps]
      simp [steppedIn]]
    exact h
  rw [enterInStep_eq, judgeIsolated, if_pos ⟨hst, hrun⟩]
  exact ⟨_, rfl, rfl⟩

theorem ne_atStart_of_owed {x : RosterSlot} (h : x.owed = true) : x ≠ RosterSlot.atStart := by
  rintro rfl
  cases h

theorem ne_atStart_of_present {x : RosterSlot} (h : x.state = .present) : x ≠ RosterSlot.atStart := by
  rintro rfl
  cases h

theorem ne_atStart_of_suspect {x : RosterSlot} (h : x.suspect = true) : x ≠ RosterSlot.atStart := by
  rintro rfl
  cases h

theorem absentee_suspect (ms : Nat) (x : RosterSlot) :
    (absentee ms x).suspect = x.suspect ∧ (absentee ms x).owed = x.owed := by
  unfold absentee
  split <;> exact ⟨rfl, rfl⟩

/-- A member of the awaited set whose round has not ended is SUSPECT past SYNCING (R143). -/
theorem peer_suspectAwaited {s : State} {a : Addr} (ha : a ∈ s.member.awaited) (ho : (s.peer a).owed = true) :
    s.suspectAwaited.peer a = { s.peer a with owed := false, suspect := true } := by
  have hin : (s.peer a).owed = true ∧ a.val ∈ s.member.awaited.map (·.val) := ⟨ho, List.mem_map_of_mem ha⟩
  have hslot := peer_mapPeers (s := s) (a := a)
    (f := fun n x =>
      if x.owed = true ∧ n ∈ s.member.awaited.map (·.val) then { x with owed := false, suspect := true } else x)
    (ne_atStart_of_owed ho) (by rw [if_pos hin]; exact ne_atStart_of_suspect rfl)
  rwa [if_pos hin] at hslot

theorem peer_suspectPresent {s : State} {a : Addr} (h : (s.peer a).state = .present) :
    s.suspectPresent.peer a = { s.peer a with suspect := true } := by
  have hslot := peer_mapPeers (s := s) (a := a)
    (f := fun _ x => if x.state = .present then { x with suspect := true } else x)
    (ne_atStart_of_present h) (by rw [if_pos h]; exact ne_atStart_of_suspect rfl)
  rwa [if_pos h] at hslot

/-- What the sync timeout does before the station steps on (R143). -/
def syncDoubted (s : State) : State :=
  if s.member.ownAccepted then s.suspectAwaited else { s.suspectPresent with member.ownRequest := none }

theorem syncEnds_eq (s : State) : s.syncEnds = s.syncDoubted.enterInStep := by
  unfold syncEnds syncDoubted
  split <;> rfl

theorem syncDoubted_keeps (s : State) :
    s.syncDoubted.channels = s.channels ∧ s.syncDoubted.starts = s.starts ∧ s.syncDoubted.draws = s.draws
      ∧ s.syncDoubted.engine = s.engine ∧ s.syncDoubted.retention = s.retention ∧ s.syncDoubted.bus = s.bus
      ∧ s.syncDoubted.member.round = s.member.round := by
  unfold syncDoubted
  split <;> exact ⟨rfl, rfl, rfl, rfl, rfl, rfl, rfl⟩

/-- A peer that the sync timeout made SUSPECT stays so past SYNCING. -/
theorem peer_enterInStep_suspect {s : State} {a : Addr} {x : RosterSlot} (h : s.peer a = x) (hx : x.suspect = true) :
    (s.enterInStep.finish.peer a).suspect = true ∧ (s.enterInStep.finish.peer a).owed = x.owed := by
  have hend : s.enterInStep.finish.peer a = s.enterInStep.peer a := peer_of_roster (by simp) a
  obtain ⟨hs, ho⟩ := absentee_suspect s.presenceMs x
  rw [hend, peer_enterInStep (by rw [h]; exact ne_atStart_of_suspect hx), h]
  exact ⟨hs.trans hx, ho⟩

theorem sameLocal_modPeer (s : State) (a : Addr) (f : RosterSlot → RosterSlot) : sameLocal s (s.modPeer a f).finish :=
  finish_sameLocal (s.modPeer a f)

end State

open State

/-- Settles O48: each timer's event is the membership's own; past SYNCING is `enterInStep`, and a slot that it doubts keeps
its doubt. -/
theorem membershipTimersRunOut : Obligations.MembershipTimersRunOut := by
  refine ⟨fun s hop ht => ?_, fun s hop hst ht => ?_, fun s hop hst ht => ?_, fun a s hop hst ht => ?_,
    fun a s hop ht => ?_⟩
  · exact ⟨_, exec_presenceTimerRunsOut hop ht, by simp,
      finish_sameLocal ({ s with member.presenceTimer := none, member.presenceDue := true } : State), by simp, by simp,
      by simp⟩
  · have hchan := s.chan_windowEnds
    refine ⟨_, exec_listenWindowRunsOut hop hst ht, fun hpeers => ?_, fun hnone => ?_, fun c => ?_, by simp, by simp, by simp,
      by simp⟩
    · have hw : s.windowEnds = s.enterSyncing .all := if_pos hpeers
      have hm : s.windowEnds.finish.member = (s.enterSyncing .all).member := by rw [hw]; simp
      rw [hm, enterSyncing_member, ite_self]
      exact ⟨rfl, rfl, rfl, rfl⟩
    · have hw : s.windowEnds = s.enterInStep := if_neg (by omega)
      have hm : s.windowEnds.finish.member = s.enterInStep.member := by rw [hw]; simp
      rw [hm, enterInStep_member, hw]
      exact ⟨by simpa using s.enterInStep_joined, rfl⟩
    · have hend := finish_same s.windowEnds c
      rwa [chan_of_channels hchan] at hend
  · obtain ⟨hchan, hstarts, hdraws, heng, hret, hbus, hround⟩ := s.syncDoubted_keeps
    obtain ⟨hchan', hstarts', hdraws', heng', hret'⟩ := s.syncDoubted.enterInStep_keeps_local
    have hm : s.syncDoubted.enterInStep.finish.member = s.syncDoubted.enterInStep.member := by simp
    refine ⟨s.syncDoubted.enterInStep.finish, by rw [exec_syncTimeoutRunsOut hop hst ht, syncEnds_eq], ?_⟩
    rw [hm, enterInStep_member, hbus, hround]
    refine ⟨by simpa using enterInStep_joined _, rfl, rfl, fun hrun => ?_, fun hacc => ?_, fun hacc => ?_, rfl, fun c => ?_,
      by simpa using hstarts'.trans hstarts, by simpa using hdraws'.trans hdraws, by simpa using heng'.trans heng,
      by simpa using hret'.trans hret⟩
    · simpa using enterInStep_log (s := s.syncDoubted) (by rwa [hbus])
    · have hdoubt : s.syncDoubted = s.suspectAwaited := if_pos hacc
      intro a ha ho
      rw [hdoubt]
      exact peer_enterInStep_suspect (peer_suspectAwaited ha ho) rfl
    · have hdoubt : s.syncDoubted = { s.suspectPresent with member.ownRequest := none } := if_neg (by simp [hacc])
      rw [hdoubt]
      exact ⟨rfl, fun a ha => (peer_enterInStep_suspect (s := { s.suspectPresent with member.ownRequest := none })
        (peer_suspectPresent ha) rfl).1⟩
    · have hend := finish_same s.syncDoubted.enterInStep c
      rwa [chan_of_channels (hchan'.trans hchan)] at hend
  · have hpeer : (s.peerSilent a).finish.peer a =
        { s.peer a with
          lastHeard := (s.peer a).lastHeard.map fun t => max t (3 * s.presenceMs)
          absentPending := (s.peer a).absentPending || s.member.state.joinedUp } := by
      rw [peer_of_roster (s := s.peerSilent a) (by simp)]
      exact peer_modPeer_self s a _
    obtain ⟨ms, hms⟩ := Option.isSome_iff_exists.mp ht
    refine ⟨_, exec_absenceTimeReached hop hst ht, fun hno => ?_, fun hlisten => ?_, ?_, by simp; rfl,
      finish_sameLocal (s.peerSilent a), by simp, by simp, by simp⟩
    · rw [hpeer]
      exact (Bool.or_eq_true _ _).mpr (.inr (joinedUp_of_operating hop hno))
    · rw [hpeer, hlisten]
      exact Bool.or_false _
    · rw [hpeer, hms]
      exact ⟨_, rfl, Nat.le_max_right _ _⟩
  · refine ⟨_, exec_requestTimerRunsOut hop ht, ?_, by simp, sameLocal_modPeer s a _, by simp, by simp, by simp⟩
    rw [peer_of_roster (s := s.modPeer a fun x => { x with requestTimer := none }) (by simp), peer_modPeer_self]

end Sys2Proof.Machine
end

section
/-! Supplies and reset (R82, R83, R116-R122; O50). -/

namespace Sys2Proof.Machine

open Sys2Proof

namespace State

/-! ## The end of a step of a station whose channels do not act -/

theorem refresh_shows (s : State) : s.refresh.indicators.stat = s.statPattern ∧ s.refresh.indicators.flt = s.fltLevel :=
  ⟨s.judgeStat_stat, rfl⟩

/-- The end of a step of a station whose channels do not act leaves all but the notice and the indicators (R121). -/
theorem finish_held_still {s : State} (h : s.live = false) :
    s.finish.channels = s.channels ∧ s.finish.queue = s.queue ∧ s.finish.bus = s.bus
      ∧ s.finish.indicators.stat = s.statPattern ∧ s.finish.indicators.flt = s.fltLevel := by
  obtain ⟨hstat, hflt⟩ := ({ s with notice := false } : State).refresh_shows
  rw [finish_of_not_live h]
  exact ⟨by simp, by simp, by simp, hstat, hflt⟩

theorem live_of_phase {s : State} (h : s.power.phase ≠ .running) : s.live = false := by
  simp [live, operating, h]

theorem statPattern_off {s : State} (h : s.power.phase ≠ .running ∨ s.power.warning = true) : s.statPattern = .off := by
  unfold statPattern
  rw [if_pos]
  rcases h with h | h
  · simp [h]
  · simp [h]

/-! ## What the power commands do -/

theorem exec_powerFailWarning {s : State} (h : s.power.vmain = .good) : exec .powerFailWarning s = .next s.failPower.finish := by
  show execPowerFailWarning s = _
  rw [execPowerFailWarning, if_pos h]

theorem exec_vmainLost {s : State} (h : s.power.vmain ≠ .absent) : exec .vmainLost s = .next s.losePower.finish := by
  show execVmainLost s = _
  rw [execVmainLost, if_neg h]

theorem exec_retentionLoss_absent {s : State} (h : s.power.vmain = .absent) :
    exec .retentionLoss s = .next s.loseRetention.finish := by
  show execRetentionLoss s = _
  rw [execRetentionLoss, if_pos h]

theorem exec_retentionLoss_powered {s : State} (h : s.power.vmain ≠ .absent) :
    exec .retentionLoss s = .next s.losePower.loseRetention.finish := by
  show execRetentionLoss s = _
  rw [execRetentionLoss, if_neg h]

theorem exec_vmainRise_running {s : State} (h : s.power.vmain ≠ .good) (hr : s.power.phase = .running) :
    exec .vmainRise s = .next s.recover.finish := by
  show execVmainRise s = _
  rw [execVmainRise, if_neg h, if_pos hr]

theorem exec_vmainRise_down {s : State} (h : s.power.vmain ≠ .good) (hr : s.power.phase ≠ .running) :
    exec .vmainRise s = .next s.powerUp.finish := by
  show execVmainRise s = _
  rw [execVmainRise, if_neg h, if_neg hr]

theorem exec_rstnLow_unpowered {s : State} (h : s.pins.rstn = true) (hu : s.power.phase = .unpowered) :
    exec .rstnLow s = .next { s with pins.rstn := false, power.startDelay := none, indicators.flt := false } := by
  show execRstnLow s = _
  rw [execRstnLow, if_pos h]
  dsimp only
  rw [if_pos hu]

theorem exec_rstnLow_powered {s : State} (h : s.pins.rstn = true) (hu : s.power.phase ≠ .unpowered) :
    exec .rstnLow s = .next s.held.finish := by
  show execRstnLow s = _
  rw [execRstnLow, if_pos h]
  dsimp only
  rw [if_neg hu]
  rfl

theorem exec_rstnRelease {s : State} (h : s.pins.rstn = false) :
    exec .rstnRelease s = .next ({ s with
        pins.rstn := true
        power.startDelay := if s.power.vmain = Vmain.good then some 50 else s.power.startDelay } : State).finish := by
  show execRstnRelease s = _
  rw [execRstnRelease, if_neg (by simp [h])]

theorem failPower_power (s : State) :
    s.failPower.power.vmain = .low ∧ s.failPower.power.startDelay = none ∧ s.failPower.power.phase = s.power.phase
      ∧ s.failPower.retention = { s.retention with mainPresent := false } ∧ s.failPower.indicators = s.indicators := by
  unfold failPower
  dsimp only
  split <;> exact ⟨rfl, rfl, rfl, rfl, rfl⟩

/-- Without power, and in reset, nothing of the part is left (R118). -/
theorem discard_empty (s : State) :
    s.discard.starts = [] ∧ s.discard.draws = [] ∧ s.discard.queue = ClaimQueue.atStart
      ∧ s.discard.engine = Engine.atStart ∧ s.discard.member = Membership.atStart ∧ s.discard.loader = Loader.atStart
      ∧ s.discard.faults.records = [] ∧ s.discard.bus.tx = none ∧ s.discard.indicators.flt = s.indicators.flt
      ∧ s.discard.power = s.power ∧ s.discard.retention = s.retention ∧ s.discard.pins = s.pins :=
  ⟨rfl, rfl, rfl, rfl, rfl, rfl, rfl, rfl, rfl, rfl, rfl, rfl⟩

theorem losePower_power (s : State) :
    s.losePower.power = { vmain := .absent, domain := .vkeep, phase := .unpowered, warning := false, startDelay := none }
      ∧ s.losePower.retention =
        { s.retention with mainPresent := if s.power.vmain = .good then false else s.retention.mainPresent }
      ∧ s.losePower.indicators.flt = s.indicators.flt := by
  obtain ⟨-, -, -, hret, hind⟩ := s.failPower_power
  unfold losePower
  by_cases h : s.power.vmain = .good
  · rw [if_pos h, if_pos h]
    refine ⟨rfl, hret, ?_⟩
    show s.failPower.indicators.flt = _
    rw [hind]
  · rw [if_neg h, if_neg h]
    exact ⟨rfl, rfl, rfl⟩

theorem live_losePower (s : State) : s.losePower.live = false :=
  live_of_phase (by rw [s.losePower_power.1]; decide)

/-- A part that loses VMAIN keeps its retention domain and FLT, and nothing else (R116, R118). -/
theorem losePower_empty (s : State) :
    s.losePower.starts = [] ∧ s.losePower.draws = [] ∧ s.losePower.queue = ClaimQueue.atStart
      ∧ s.losePower.engine = Engine.atStart ∧ s.losePower.member = Membership.atStart
      ∧ s.losePower.loader = Loader.atStart ∧ s.losePower.faults.records = [] ∧ s.losePower.bus.tx = none
      ∧ ∀ c, s.losePower.chan c = Channel.atStart := by
  unfold losePower
  exact ⟨rfl, rfl, rfl, rfl, rfl, rfl, rfl, rfl, fun c => chan_discard _ c⟩

/-- A running part in the warning condition holds everything but what the warning stops (R121). -/
theorem enterWarning_holds (s : State) :
    s.enterWarning.history.released = false ∧ s.enterWarning.history.sampleTimer = none
      ∧ s.enterWarning.starts = s.starts ∧ s.enterWarning.draws = s.draws ∧ s.enterWarning.queue = s.queue
      ∧ s.enterWarning.engine = s.engine ∧ s.enterWarning.member = s.member ∧ s.enterWarning.faults = s.faults
      ∧ s.enterWarning.bus = s.bus ∧ s.enterWarning.indicators = s.indicators ∧ s.enterWarning.answer = s.answer :=
  ⟨rfl, rfl, rfl, rfl, rfl, rfl, rfl, rfl, rfl, rfl, rfl⟩

/-- A recovery holds what the warning held, its own frame cut off (R122). -/
theorem recover_holds (s : State) :
    s.recover.history.released = false ∧ s.recover.history.sampleTimer = none
      ∧ s.recover.starts = s.starts ∧ s.recover.draws = s.draws ∧ s.recover.queue = s.queue
      ∧ s.recover.engine = s.engine ∧ s.recover.member = s.member ∧ s.recover.faults = s.faults
      ∧ s.recover.answer = s.answer :=
  ⟨rfl, rfl, rfl, rfl, rfl, rfl, rfl, rfl, rfl⟩

/-- The warning has come in a running part: the supply has fallen, the part has not yet stopped anything. -/
def warningCame (s : State) : State :=
  { s with power.vmain := .low, power.startDelay := none, retention.mainPresent := false }

theorem failPower_of_running {s : State} (h : s.power.phase = .running) : s.failPower = s.warningCame.enterWarning := if_pos h

theorem fltLevel_of_warning {s : State} (hr : s.power.phase = .running) (hw : s.power.warning = true) :
    s.fltLevel = (decide (s.power.vmain ≠ .good) && s.indicators.flt) := by
  simp [fltLevel, hr, hw]

end State

open State

/-- Settles O50: each command is its own power event, and the end of the step shows it. -/
theorem suppliesAndReset : Obligations.SuppliesAndReset := by
  refine ⟨fun s h => ?_, fun s h => ?_, fun s => ?_, fun s h => ?_, fun s h => ?_, fun s h => ?_⟩
  · refine ⟨_, exec_powerFailWarning h, by simp, by simp, by simp, by simp, fun hrun => ?_⟩
    obtain ⟨hreleased, htimer, hstarts, hdraws, hqueue, heng, hmember, hfaults, hbus, hind, -⟩ := s.warningCame.enterWarning_holds
    have hw : s.warningCame.enterWarning.power.warning = true := rfl
    obtain ⟨hchan', hqueue', hbus', hstat', hflt'⟩ := finish_held_still (live_of_warning hw)
    rw [failPower_of_running hrun]
    refine ⟨by simpa using hw, by simpa using hreleased, by simpa using htimer, fun c => ?_, by simp; exact hstarts,
      by simp; exact hdraws, hqueue'.trans hqueue, by simp; exact heng, by simp; exact hmember, by simp; exact hfaults,
      hbus'.trans hbus, ?_, ?_⟩
    · rw [chan_of_channels hchan', chan_enterWarning]
      rfl
    · rw [hflt', fltLevel_of_warning (s := s.warningCame.enterWarning) hrun hw, hind]
      rfl
    · rw [hstat', statPattern_off (.inr hw)]
  · obtain ⟨hpower, hret, hflt⟩ := s.losePower_power
    obtain ⟨hstarts, hdraws, hqueue, heng, hmember, hloader, hfaults, htx, hchan⟩ := s.losePower_empty
    obtain ⟨hchan', hqueue', hbus', hstat', hflt'⟩ := finish_held_still s.live_losePower
    refine ⟨_, exec_vmainLost h, by simp [hpower], by simp [hpower], by simp [hpower], by simp [hpower], by simpa using hret,
      by simpa using hstarts, by simpa using hdraws, hqueue'.trans hqueue, by simpa using heng, by simpa using hmember,
      by simpa using hloader, by simpa using hfaults, by rw [hbus', htx], ?_, ?_, fun c => ?_⟩
    · rw [hflt', fltLevel, hpower]
      exact hflt
    · rw [hstat', statPattern_off (.inl (by rw [hpower]; decide))]
    · rw [chan_of_channels hchan', hchan]
  · by_cases habsent : s.power.vmain = .absent
    · refine ⟨s.loseRetention.finish, exec_retentionLoss_absent habsent, by simpa using show s.loseRetention.power.vmain = _ from habsent, by simp; rfl,
        by simp; rfl, fun hor => ?_, fun hne => absurd habsent hne⟩
      have hphase : s.loseRetention.power.phase = .unpowered := hor.resolve_left fun hne => hne habsent
      obtain ⟨-, -, -, -, hflt⟩ := finish_held_still (s := s.loseRetention) (live_of_phase (by rw [hphase]; decide))
      rw [hflt, fltLevel, hphase]
      rfl
    · obtain ⟨hpower, -, hflt⟩ := s.losePower_power
      obtain ⟨hstarts, hdraws, -⟩ := s.losePower_empty
      have hphase : s.losePower.loseRetention.power.phase = .unpowered := congrArg Power.phase hpower
      obtain ⟨-, -, -, -, hflt'⟩ :=
        finish_held_still (s := s.losePower.loseRetention) (live_of_phase (by rw [hphase]; decide))
      refine ⟨s.losePower.loseRetention.finish, exec_retentionLoss_powered habsent,
        by simpa using show s.losePower.loseRetention.power.vmain = .absent from by exact congrArg Power.vmain hpower, by simp; rfl, by simp; rfl, fun _ => ?_, fun _ =>
        ⟨by simpa using show s.losePower.loseRetention.starts = _ from hstarts,
          by simpa using show s.losePower.loseRetention.draws = _ from hdraws, by simpa using hphase⟩⟩
      rw [hflt', fltLevel, hphase]
      exact hflt
  · by_cases hrun : s.power.phase = .running
    · obtain ⟨hreleased, htimer, hstarts, hdraws, hqueue, heng, hmember, hfaults, hanswer⟩ := s.recover_holds
      have hw : s.recover.power.warning = true := rfl
      obtain ⟨hchan', hqueue', hbus', hstat', hflt'⟩ := finish_held_still (live_of_warning hw)
      have hchan (c : Chan) : s.recover.finish.chan c =
          { s.chan c with debounceTimer := none, senseGrace := none, shedRest := none, pre := false, main := false } := by
        rw [chan_of_channels hchan']
        exact chan_enterWarning s c
      refine ⟨_, exec_vmainRise_running h hrun, by simp; rfl, by simp; rfl, by simp; rfl, by simp; rfl,
        congrArg Bus.tx hbus', ?_, ?_, fun c => ?_, fun _ => ?_, fun hno => absurd hrun hno⟩
      · rw [hflt', fltLevel_of_warning (s := s.recover) hrun hw]
        rfl
      · rw [hstat', statPattern_off (.inr hw)]
      · rw [hchan]
        exact ⟨rfl, rfl⟩
      · refine ⟨by simpa using show s.recover.power.phase = _ from hrun, by simpa using hw, by simpa using hreleased, by simpa using htimer, hchan,
          by simpa using hstarts, by simpa using hdraws, hqueue'.trans hqueue, by simpa using heng, by simpa using hmember,
          by simpa using hfaults, by simpa using hanswer⟩
    · have hphase : s.powerUp.power.phase = .inReset := rfl
      obtain ⟨hchan', -, hbus', hstat', hflt'⟩ :=
        finish_held_still (s := s.powerUp) (live_of_phase (by rw [hphase]; decide))
      have hchan (c : Chan) : s.powerUp.finish.chan c = Channel.atStart := by
        rw [chan_of_channels hchan']
        exact chan_discard _ c
      refine ⟨_, exec_vmainRise_down h hrun, by simp; rfl, by simp; rfl, by simp; rfl, by simp; rfl,
        congrArg Bus.tx hbus', ?_, ?_, fun c => ?_, fun hyes => absurd hyes hrun, fun _ => ?_⟩
      · rw [hflt', fltLevel, hphase]
      · rw [hstat', statPattern_off (.inl (by rw [hphase]; decide))]
      · rw [hchan]
        exact ⟨rfl, rfl⟩
      · exact ⟨by simpa using hphase, by simp; rfl, by simp; rfl, by simp; rfl, hchan⟩
  · by_cases hu : s.power.phase = .unpowered
    · exact ⟨_, exec_rstnLow_unpowered h hu, rfl, rfl, rfl, rfl, rfl, fun hno => absurd hu hno⟩
    · have hphase : s.held.power.phase = .inReset := rfl
      obtain ⟨hchan', -, hbus', -, hflt'⟩ :=
        finish_held_still (s := s.held) (live_of_phase (by rw [hphase]; decide))
      refine ⟨_, exec_rstnLow_powered h hu, by simp; rfl, by simp; rfl, by simp; rfl, by simp; rfl, ?_, fun _ => ?_⟩
      · rw [hflt', fltLevel, hphase]
      · refine ⟨by simpa using hphase, by simp; rfl, by simp; rfl, by simp; rfl, congrArg Bus.tx hbus', fun c => ?_⟩
        rw [chan_of_channels hchan']
        exact chan_discard _ c
  · exact ⟨_, exec_rstnRelease h, by simp, by simp, by simp, by simp⟩

end Sys2Proof.Machine
end

section
/-! The start and the attempts of the image read (R119, R166-R168, R174, R178; O52, O53). -/

namespace Sys2Proof.Machine

open Sys2Proof

namespace State

/-! ## A station that loads, and one that halts from loading -/

theorem live_of_state {s : State} (h : s.member.state = .loading ∨ s.member.state = .halted) : s.live = false := by
  rcases h with h | h <;> simp [live, operating, h, MState.applies]

theorem enterHalted_shows (s : State) :
    s.enterHalted.member.state = .halted ∧ s.enterHalted.power = s.power ∧ s.enterHalted.faults = s.faults
      ∧ s.enterHalted.loader.link = s.loader.link ∧ s.enterHalted.loader.attempts = s.loader.attempts
      ∧ s.enterHalted.loader.result = s.loader.result :=
  ⟨rfl, rfl, rfl, rfl, rfl, rfl⟩

/-- The end of loading in HALTED (R166, R168, R170, R174). -/
theorem haltLoading_finish_shows {s : State} (hr : s.power.phase = .running) (hw : s.power.warning = false) (r : LoadResult) :
    (s.haltLoading r).finish.member.state = .halted ∧ (s.haltLoading r).finish.loader.result = r
      ∧ (s.haltLoading r).finish.indicators.flt = true ∧ (s.haltLoading r).finish.indicators.stat = .doubleFlash
      ∧ (s.haltLoading r).finish.channels = (s.haltLoading r).channels
      ∧ (s.haltLoading r).finish.faults = (s.log .configBad none none none).faults
      ∧ (s.haltLoading r).finish.loader.link = s.loader.link
      ∧ (s.haltLoading r).finish.loader.attempts = s.loader.attempts := by
  have hst : (s.haltLoading r).member.state = .halted := rfl
  have hphase : (s.haltLoading r).power.phase = .running := hr
  have hwarn : (s.haltLoading r).power.warning = false := hw
  obtain ⟨hchan, -, -, hstat, hflt⟩ := finish_held_still (live_of_state (.inr hst))
  refine ⟨by simpa using hst, by simp; rfl, ?_, ?_, hchan, by simp; rfl, by simp; rfl, by simp; rfl⟩
  · rw [hflt, fltLevel, hphase, hwarn]
    exact (faulted_iff _).mpr (.inl hst)
  · rw [hstat, statPattern, hphase, hwarn, hst]
    rfl

theorem chan_haltLoading (s : State) (r : LoadResult) (c : Chan) :
    (s.haltLoading r).chan c =
      { s.chan c with debounceTimer := none, senseGrace := none, shedRest := none, pre := false, main := false } := by
  show (s.channels.map _).get c = _
  rw [Four.get_map]
  rfl

theorem configBad_logged (s : State) :
    ∃ r, (s.log .configBad none none none).faults.records.head? = some r ∧ r.kind = .configBad ∧ r.ch = none :=
  ⟨_, rfl, rfl, rfl⟩

/-! ## A start -/

/-- A start, before the straps are sampled (R119, R120, R178). -/
def startBegun (s : State) : State :=
  { s.discard with
    power.phase := .running
    power.warning := false
    power.startDelay := none
    retention := s.retention.afterStart
    history.startKind := s.retention.kind
    faults := startRecordOf s.retention.kind }

theorem begin_eq (s : State) (straps : Addr) : s.begin straps = s.startBegun.sampleStraps straps := rfl

theorem chan_startBegun (s : State) (c : Chan) : s.startBegun.chan c = Channel.atStart := chan_discard s c

/-- The straps stand in the pins and in the loader. -/
def strapped (s : State) (straps : Addr) : State := { s with pins.addr := straps, loader.addr := some straps }

theorem sampleStraps_eq (s : State) (straps : Addr) :
    s.sampleStraps straps =
      if straps = 0 ∨ straps = toolAddr then (s.strapped straps).haltLoading .haltedGroup
      else (s.strapped straps).beginAttempt := rfl

/-- What a start leaves, whichever way the straps send it. -/
structure begun (s t : State) (straps : Addr) : Prop where
  phase : t.power.phase = .running
  warning : t.power.warning = false
  startDelay : t.power.startDelay = none
  addr : t.loader.addr = some straps
  link : t.loader.link = []
  starts : t.starts = []
  draws : t.draws = []
  queue : t.queue = ClaimQueue.atStart
  engine : t.engine = Engine.atStart
  roster : t.member.roster = []
  answer : t.answer = none
  counters : t.bus.counters = LinkCounters.atStart
  chans : ∀ c, t.chan c = Channel.atStart
  joined : t.history.joined = false
  marks : t.history.marks = 0
  released : t.history.released = false
  kind : t.history.startKind = s.retention.kind

theorem begun_attempt (s : State) (straps : Addr) : begun s (s.startBegun.strapped straps).beginAttempt straps where
  phase := rfl
  warning := rfl
  startDelay := rfl
  addr := rfl
  link := rfl
  starts := rfl
  draws := rfl
  queue := rfl
  engine := rfl
  roster := rfl
  answer := rfl
  counters := rfl
  chans := s.chan_startBegun
  joined := rfl
  marks := rfl
  released := rfl
  kind := rfl

theorem begun_halt (s : State) (straps : Addr) (r : LoadResult) :
    begun s ((s.startBegun.strapped straps).haltLoading r) straps where
  phase := rfl
  warning := rfl
  startDelay := rfl
  addr := rfl
  link := rfl
  starts := rfl
  draws := rfl
  queue := rfl
  engine := rfl
  roster := rfl
  answer := rfl
  counters := rfl
  chans c := by
    rw [chan_haltLoading]
    show { s.startBegun.chan c with
      debounceTimer := none, senseGrace := none, shedRest := none, pre := false, main := false } = Channel.atStart
    rw [chan_startBegun]
    rfl
  joined := rfl
  marks := rfl
  released := rfl
  kind := rfl

theorem begun_finish {s t : State} {straps : Addr} (h : begun s t straps) (hl : t.live = false) :
    begun s t.finish straps := by
  obtain ⟨hchan, hqueue, hbus, -⟩ := finish_held_still hl
  exact ⟨by simpa using h.phase, by simpa using h.warning, by simpa using h.startDelay, by simpa using h.addr,
    by simpa using h.link, by simpa using h.starts, by simpa using h.draws, hqueue.trans h.queue, by simpa using h.engine,
    by simpa using h.roster, by simpa using h.answer, by simpa using h.counters,
    fun c => (chan_of_channels hchan c).trans (h.chans c), by simpa using h.joined, by simpa using h.marks,
    by simpa using h.released, by simpa using h.kind⟩

/-! ## The attempts of the image read -/

theorem loading_iff (s : State) :
    s.loading = true ↔ s.power.phase = .running ∧ s.power.warning = false ∧ s.member.state = .loading := by
  simp [loading, and_assoc]

/-- The attempt that failed is counted (R168). -/
def attemptCounted (s : State) : State := { s with loader.attempts := s.loader.attempts + 1, loader.bytes := [] }

theorem failAttempt_eq (s : State) :
    s.failAttempt =
      if 3 ≤ s.loader.attempts + 1 then s.attemptCounted.haltLoading .haltedImage
      else { s.attemptCounted with loader.phase := .retryWait 10 } := rfl

/-- A failed attempt counts; the third ends loading; the record of the lines stays (R168). -/
theorem attemptFailed_finish {s : State} (h : s.loading = true) :
    attemptFailed s s.failAttempt.finish ∧ s.failAttempt.finish.loader.link = s.loader.link := by
  obtain ⟨hr, hw, hst⟩ := (loading_iff s).mp h
  rw [failAttempt_eq]
  split
  · next hthird =>
    obtain ⟨hstate, hresult, hflt, hstat, hchan, hfaults, hlink, hatt⟩ :=
      haltLoading_finish_shows (s := s.attemptCounted) hr hw .haltedImage
    refine ⟨⟨hatt, fun hlt => by omega, fun _ => ⟨hstate, hresult, hflt, hstat, fun c => ?_, ?_⟩⟩, hlink⟩
    · rw [chan_of_channels hchan, chan_haltLoading]
      exact ⟨rfl, rfl⟩
    · rw [hfaults]
      exact s.attemptCounted.configBad_logged
  · next hmore =>
    exact ⟨⟨by simp; rfl, fun _ => ⟨by simp, by simp; rfl, by simp; rfl, by simp; rfl⟩, fun hge => by omega⟩, by simp; rfl⟩

/-- A failed attempt after the loader drove the lines once more. -/
theorem attemptFailed_drive {s : State} (h : s.loading = true) (ops : List LinkOp) :
    attemptFailed s (s.drive ops).failAttempt.finish
      ∧ (s.drive ops).failAttempt.finish.loader.link = s.loader.link ++ ops :=
  attemptFailed_finish (s := s.drive ops) h

theorem exec_imageHeaderRead {s : State} (tag len : Byte) (clocks : Fin 10) (hl : s.loading = true)
    (hp : s.loader.phase = .header) : exec (.imageHeaderRead tag len clocks) s = .next (s.readHeader clocks tag len).finish := by
  show execImageHeaderRead tag len s clocks = _
  simp [execImageHeaderRead, hl, hp]

theorem exec_imageAttemptFails {s : State} (how : LinkFailure) (hl : s.loading = true)
    (hp : s.loader.phase = .header ∨ s.loader.phase = .rest) :
    exec (.imageAttemptFails how) s
      = .next
        (s.drive (if s.loader.phase = .header then failedLink how else [.stop, .release])).failAttempt.finish := by
  show execImageAttemptFails s how = _
  rcases hp with hp | hp <;> simp [execImageAttemptFails, hl, hp]

theorem exec_clockStretchTimeout {s : State} (clocks : Fin 10) (done : Nat) (bytes : List Byte) (hl : s.loading = true)
    (hp : s.loader.phase = .header ∨ s.loader.phase = .rest) :
    exec (.clockStretchTimeout clocks done bytes) s
      = .next
        (s.drive
          ((if s.loader.phase = .rest then readBytes 107 bytes else stretchedHeader clocks done bytes)
            ++ [.release])).failAttempt.finish := by
  show execClockStretchTimeout s clocks done bytes = _
  rcases hp with hp | hp <;> simp [execClockStretchTimeout, hl, hp]

theorem exec_attemptRetryWaitElapsed {s : State} {left : Nat} (hl : s.loading = true)
    (hp : s.loader.phase = .retryWait left) : exec .attemptRetryWaitElapsed s = .next s.beginAttempt.finish := by
  show execAttemptRetryWaitElapsed s = _
  simp [execAttemptRetryWaitElapsed, hl, hp, LoadPhase.waits]

/-- The two header bytes have been read and acknowledged (R167). -/
def headerRead (s : State) (clocks : Fin 10) (tag len : Byte) : State :=
  s.drive (openRead clocks ++ [.take tag true, .take len true])

theorem readHeader_eq (s : State) (clocks : Fin 10) (tag len : Byte) :
    s.readHeader clocks tag len =
      if headerPasses tag len then
        { s.headerRead clocks tag len with loader.phase := .rest, loader.bytes := [tag, len] }
      else ((s.headerRead clocks tag len).drive [.stop, .release]).failAttempt := rfl

end State

theorem headerPasses_iff (tag len : Byte) : headerPasses tag len = true ↔ tag = 0xA4#8 ∧ len = 109#8 :=
  decide_eq_true_iff

theorem readBytes_eq_mapIdx (left : Nat) (bytes : List Byte) :
    readBytes left bytes = bytes.mapIdx fun i b => LinkOp.take b (decide (i + 1 ≠ left)) := by
  induction bytes generalizing left with
  | nil => rfl
  | cons b bs ih =>
    rw [readBytes, ih, List.mapIdx_cons]
    congr 1
    · congr 2
      exact propext ⟨fun h => by omega, fun h => by omega⟩
    · congr 1
      funext i x
      congr 2
      exact propext ⟨fun h => by omega, fun h => by omega⟩

theorem stretchedHeader_eq (clocks : Fin 10) (done : Nat) (bytes : List Byte) :
    stretchedHeader clocks done bytes =
      if bytes = [] then (openRead clocks).take done else openRead clocks ++ (bytes.take 1).map (LinkOp.take · true) := by
  cases bytes <;> rfl

open State

/-- Settles O52: both ways from the straps leave what `begun` says; only a halt writes a second record. -/
theorem startSamplesTheStraps : Obligations.StartSamplesTheStraps := by
  intro straps s hphase hdelay
  refine ⟨_, exec_start_of_awaits straps (awaitsStart_of hphase hdelay), ?_⟩
  rw [begin_eq, sampleStraps_eq]
  by_cases hno : straps = 0 ∨ straps = toolAddr
  · rw [if_pos hno]
    have hst : ((s.startBegun.strapped straps).haltLoading .haltedGroup).member.state = .halted := rfl
    have hb := begun_finish (begun_halt s straps .haltedGroup) (live_of_state (.inr hst))
    obtain ⟨hstate, hresult, hflt, hstat, -, hfaults, -, -⟩ :=
      haltLoading_finish_shows (s := s.startBegun.strapped straps) rfl rfl .haltedGroup
    refine ⟨hb.phase, hb.warning, hb.startDelay, hb.addr, hb.link, hb.starts, hb.draws, hb.queue, hb.engine, hb.roster,
      hb.answer, hb.counters, hb.chans, hb.joined, hb.marks, hb.released, ?_, fun h0 h31 => absurd hno (by tauto), fun _ =>
      ⟨hstate, hresult, hflt, hstat, by rw [hfaults]; rfl, by rw [hfaults]; exact configBad_logged _⟩⟩
    rw [hfaults, hb.kind]
    exact ⟨_, rfl, rfl, rfl, rfl⟩
  · rw [if_neg hno]
    have hst : (s.startBegun.strapped straps).beginAttempt.member.state = .loading := rfl
    have hlive := live_of_state (.inl hst)
    have hb := begun_finish (begun_attempt s straps) hlive
    obtain ⟨-, -, -, -, hflt⟩ := finish_held_still hlive
    refine ⟨hb.phase, hb.warning, hb.startDelay, hb.addr, hb.link, hb.starts, hb.draws, hb.queue, hb.engine, hb.roster,
      hb.answer, hb.counters, hb.chans, hb.joined, hb.marks, hb.released, ?_, fun _ _ =>
      ⟨by simpa using hst, by simp; rfl, by simp; rfl, by simp; rfl, by simp; rfl, ?_⟩, fun h => absurd h hno⟩
    · rw [hb.kind]
      exact ⟨_, by simp; rfl, rfl, rfl, rfl⟩
    · rw [hflt]
      show (s.startBegun.strapped straps).beginAttempt.faulted = false
      rw [← Bool.not_eq_true, faulted_iff]
      rintro (h | ⟨c, h⟩)
      · cases h
      · rw [(begun_attempt s straps).chans c] at h
        cases h

/-- Settles O53: every failure drives the lines and then fails the attempt; the header that passes only goes on. -/
theorem imageAttemptsAreCounted : Obligations.ImageAttemptsAreCounted := by
  refine ⟨fun tag len clocks s hl hp => ?_, fun how clocks done bytes s hl hp => ⟨?_, ?_⟩, fun s left hl hp => ?_⟩
  · intro check header
    have hheader : (s.headerRead clocks tag len).loader.link = header := by
      simp [headerRead, drive, openRead, busCheck, deviceByte, header, check]
    refine ⟨_, exec_imageHeaderRead tag len clocks hl hp, fun htag hlen => ?_, fun hbad => ?_⟩
    · rw [readHeader_eq, if_pos ((headerPasses_iff tag len).mpr ⟨htag, hlen⟩)]
      exact ⟨by simp, by simp, by simpa using hheader, by simp; rfl, by simp; rfl⟩
    · rw [readHeader_eq, if_neg fun h => hbad.elim (fun k => k ((headerPasses_iff tag len).mp h).1) fun k =>
        k ((headerPasses_iff tag len).mp h).2]
      obtain ⟨hfail, hlink⟩ := attemptFailed_drive (s := s.headerRead clocks tag len) hl [.stop, .release]
      exact ⟨hfail, hlink.trans (by rw [hheader])⟩
  · exact ⟨_, exec_imageAttemptFails how hl hp, attemptFailed_drive hl _⟩
  · obtain ⟨hfail, hlink⟩ := attemptFailed_drive hl
      ((if s.loader.phase = .rest then readBytes 107 bytes else stretchedHeader clocks done bytes) ++ [.release])
    refine ⟨_, exec_clockStretchTimeout clocks done bytes hl hp, hfail, hlink.trans ?_⟩
    rw [readBytes_eq_mapIdx, stretchedHeader_eq, List.append_assoc]
  · exact ⟨_, exec_attemptRetryWaitElapsed hl hp, by simp; rfl, by simp, by simp; rfl⟩

end Sys2Proof.Machine
end

section
/-! The judgement of the image and the end of loading (R62, R63, R126, R133, R169-R173; O54). -/

namespace Sys2Proof.Machine

open Sys2Proof

namespace State

/-! ## Latched channels join the queue -/

/-- A channel's record after the joins of the latched channels (R62). -/
def joinedChannel (k : Channel) : Channel := if k.latch then { k with state := .queued } else k

/-- A join of a latched channel writes its state and no other field. -/
theorem joinedChannel_keeps (k : Channel) :
    (joinedChannel k).debounced = k.debounced ∧ (joinedChannel k).debounceTimer = k.debounceTimer
      ∧ (joinedChannel k).latch = k.latch ∧ (joinedChannel k).mark = k.mark
      ∧ (joinedChannel k).state = if k.latch then .queued else k.state := by
  unfold joinedChannel
  split <;> exact ⟨rfl, rfl, rfl, rfl, rfl⟩

theorem joinedChannel_idem (k : Channel) : joinedChannel (joinedChannel k) = joinedChannel k := by
  cases h : k.latch <;> simp [joinedChannel, h]

theorem chan_joinLatched (s : State) (c d : Chan) :
    (s.joinLatched c).chan d = if d = c then joinedChannel (s.chan d) else s.chan d := by
  unfold joinLatched joinedChannel
  by_cases hd : d = c
  · subst hd
    rw [if_pos rfl]
    split
    · rw [chan_join, if_pos rfl]
    · rfl
  · rw [if_neg hd]
    split
    · rw [chan_join, if_neg hd]
    · rfl

theorem chan_foldl_joinLatched (l : List Chan) (s : State) (d : Chan) :
    (l.foldl (fun s c => s.joinLatched c) s).chan d = if d ∈ l then joinedChannel (s.chan d) else s.chan d := by
  induction l generalizing s with
  | nil => rfl
  | cons c cs ih =>
    rw [List.foldl_cons, ih, chan_joinLatched]
    by_cases hd : d = c
    · rw [if_pos hd, joinedChannel_idem, ite_self, if_pos (List.mem_cons.mpr (.inl hd))]
    · simp [hd]

theorem chan_latchedJoined (s : State) (c : Chan) : s.latchedJoined.chan c = joinedChannel (s.chan c) :=
  (chan_foldl_joinLatched allChans s c).trans (if_pos (mem_allChans c))

/-- An entry of a channel with a given urgency. -/
def isEntryOf (c : Chan) (u : Urg) (e : QueueEntry) : Prop := e.ch = c ∧ e.eff = u

theorem endStable_isEntryOf (c : Chan) (u : Urg) : EndStable (isEntryOf c u) where
  requeue _ h := h
  offer _ h := h
  claim _ _ h := h

theorem lists_isEntryOf_join (s : State) (c : Chan) : (s.join c).lists (isEntryOf c (s.cfg c).urgency) := by
  obtain ⟨e, he, hch, heff, -⟩ := s.lists_join c
  exact ⟨e, he, hch, heff⟩

/-- A join keeps the entries, whether or not it renumbers them (R48). -/
theorem lists_isEntryOf_join_other {s : State} {c : Chan} {u : Urg} (h : s.lists (isEntryOf c u)) (d : Chan) :
    (s.join d).lists (isEntryOf c u) := by
  obtain ⟨e, he, hch, heff⟩ := h
  have hmem : e ∈ s.queue.entries ++ [joinEntry (s.cfg d) d s.queue.nextStamp] := List.mem_append_left _ he
  have hjoined : ∃ x ∈ (s.queue.joined (s.cfg d) d).entries, isEntryOf c u x := by
    unfold ClaimQueue.joined
    split
    · exact ⟨_, List.mem_map.mpr ⟨e, hmem, rfl⟩, hch, heff⟩
    · exact ⟨e, hmem, hch, heff⟩
  obtain ⟨x, hx, hkeys⟩ := hjoined
  exact ⟨x, (sortBy_perm _ _).mem_iff.mpr hx, hkeys⟩

theorem lists_joinLatched {s : State} {c : Chan} {u : Urg} (h : s.lists (isEntryOf c u)) (d : Chan) :
    (s.joinLatched d).lists (isEntryOf c u) := by
  unfold joinLatched
  split
  · exact lists_isEntryOf_join_other h d
  · exact h

theorem lists_foldl_joinLatched (l : List Chan) {s : State} {c : Chan} {u : Urg} (h : s.lists (isEntryOf c u)) :
    (l.foldl (fun s c => s.joinLatched c) s).lists (isEntryOf c u) := by
  induction l generalizing s with
  | nil => exact h
  | cons d ds ih => exact ih (lists_joinLatched h d)

theorem cfg_of_loader {s t : State} (h : t.loader = s.loader) (c : Chan) : t.cfg c = s.cfg c := by
  simp only [cfg, image, h]

/-- Each latched channel has its entry after the joins. -/
theorem lists_foldl_joinLatched_mem (l : List Chan) {s : State} {c : Chan} (hc : c ∈ l)
    (hlatch : (s.chan c).latch = true) :
    (l.foldl (fun s c => s.joinLatched c) s).lists (isEntryOf c (s.cfg c).urgency) := by
  induction l generalizing s with
  | nil => exact absurd hc List.not_mem_nil
  | cons d ds ih =>
    by_cases hd : c = d
    · subst hd
      refine lists_foldl_joinLatched ds ?_
      have hjoin : s.joinLatched c = s.join c := if_pos hlatch
      show (s.joinLatched c).lists _
      rw [hjoin]
      exact s.lists_isEntryOf_join c
    · have hmem : c ∈ ds := (List.mem_cons.mp hc).resolve_left hd
      have hkeep : (s.joinLatched d).chan c = s.chan c := by rw [chan_joinLatched, if_neg hd]
      have h := ih hmem (s := s.joinLatched d) (by rw [hkeep]; exact hlatch)
      rwa [cfg_of_loader (s := s) (by simp)] at h

theorem lists_latchedJoined {s : State} {c : Chan} (hlatch : (s.chan c).latch = true) :
    s.latchedJoined.lists (isEntryOf c (s.cfg c).urgency) :=
  lists_foldl_joinLatched_mem allChans (mem_allChans c) hlatch

/-! ## The records of invalid channels -/

theorem logInvalid_of {s : State} {c : Chan} {st : Option Nat} (h : s.image.channels.get c = .invalid st) :
    s.logInvalid c = s.log .configBad (some c) st none := by
  unfold logInvalid
  rw [h]

/-- A CONFIG_BAD record of a channel stands among the newest `n` records. -/
def recorded (s : State) (c : Chan) (st : Option Nat) (n : Nat) : Prop :=
  ∃ i < n, ∃ r, s.faults.records[i]? = some r ∧ r.kind = .configBad ∧ r.ch = some c ∧ r.step = st

theorem recorded_logInvalid {s : State} {c : Chan} {st : Option Nat} {n : Nat} (h : s.recorded c st n) (hn : n < 8)
    (d : Chan) : (s.logInvalid d).recorded c st (n + 1) := by
  obtain ⟨i, hi, r, hr, hsays⟩ := h
  unfold logInvalid
  split
  · refine ⟨i + 1, by omega, r, ?_, hsays⟩
    show (List.take 8 (_ :: s.faults.records))[i + 1]? = _
    rw [List.getElem?_take, if_pos (by omega), List.getElem?_cons_succ, hr]
  · exact ⟨i, by omega, r, hr, hsays⟩
  · exact ⟨i, by omega, r, hr, hsays⟩

theorem recorded_foldl_logInvalid (l : List Chan) {s : State} {c : Chan} {st : Option Nat} {n : Nat}
    (h : s.recorded c st n) (hn : n + l.length ≤ 8) :
    (l.foldl (fun s c => s.logInvalid c) s).recorded c st (n + l.length) := by
  induction l generalizing s n with
  | nil => exact h
  | cons d ds ih =>
    rw [List.length_cons] at hn ⊢
    have hnext := ih (recorded_logInvalid h (by omega) d) (by omega)
    rwa [show n + 1 + ds.length = n + (ds.length + 1) by omega] at hnext

theorem recorded_foldl_logInvalid_mem (l : List Chan) {s : State} {c : Chan} {st : Option Nat} (hc : c ∈ l)
    (hv : s.image.channels.get c = .invalid st) (hl : l.length ≤ 8) :
    (l.foldl (fun s c => s.logInvalid c) s).recorded c st l.length := by
  induction l generalizing s with
  | nil => exact absurd hc List.not_mem_nil
  | cons d ds ih =>
    rw [List.length_cons] at hl ⊢
    by_cases hd : c = d
    · subst hd
      have hnew : (s.logInvalid c).recorded c st 1 := by
        rw [logInvalid_of hv]
        exact ⟨0, by omega, _, rfl, rfl, rfl, rfl⟩
      have h := recorded_foldl_logInvalid ds hnew (by omega)
      rwa [Nat.add_comm] at h
    · obtain ⟨i, hi, hr⟩ := ih ((List.mem_cons.mp hc).resolve_left hd) (s := s.logInvalid d)
        (by simpa [image] using hv) (by omega)
      exact ⟨i, by omega, hr⟩

theorem invalidLogged_log {s : State} {c : Chan} {st : Option Nat} (hv : s.image.channels.get c = .invalid st) :
    ∃ r ∈ s.invalidLogged.faults.records, r.kind = .configBad ∧ r.ch = some c ∧ r.step = st := by
  obtain ⟨i, -, r, hr, hsays⟩ := recorded_foldl_logInvalid_mem allChans (mem_allChans c) hv (by decide)
  exact ⟨r, List.mem_of_getElem? hr, hsays⟩

/-! ## The end of loading -/

/-- The image is held and its channel records loaded, before the latched channels join. -/
def imageLoaded (s : State) (bytes : List Byte) : State := (s.imageHeld bytes).invalidLogged.channelsLoaded

theorem endLoading_stages (s : State) (bytes : List Byte) :
    s.endLoading bytes = (s.imageLoaded bytes).latchedJoined.inhLoaded.enterListen := rfl

theorem invalidLogged_keeps (s : State) :
    s.invalidLogged.loader = s.loader ∧ s.invalidLogged.history = s.history ∧ s.invalidLogged.pins = s.pins
      ∧ s.invalidLogged.retention = s.retention ∧ s.invalidLogged.channels = s.channels
      ∧ s.invalidLogged.member = s.member := by
  simp [invalidLogged, allChans]

theorem latchedJoined_keeps (s : State) :
    s.latchedJoined.loader = s.loader ∧ s.latchedJoined.pins = s.pins ∧ s.latchedJoined.member = s.member := by
  simp [latchedJoined, allChans]

theorem imageLoaded_keeps (s : State) (bytes : List Byte) :
    (s.imageLoaded bytes).loader = (s.imageHeld bytes).loader ∧ (s.imageLoaded bytes).pins = s.pins
      ∧ (s.imageLoaded bytes).member = s.member := by
  obtain ⟨hloader, -, hpins, -, -, hmember⟩ := (s.imageHeld bytes).invalidLogged_keeps
  exact ⟨hloader, hpins, hmember⟩

/-- What the end of loading leaves of the station (R133, R171, R173). -/
theorem endLoading_shows (s : State) (bytes : List Byte) :
    (s.endLoading bytes).loader = (s.imageHeld bytes).loader
      ∧ (s.endLoading bytes).inh = { asserted := s.pins.inh, timer := none }
      ∧ (s.endLoading bytes).member =
        { s.member with
          state := .listen
          listenWindow := some (3 * ((groupSection bytes).presence * 50))
          helloDue := true
          presenceTimer := some ((groupSection bytes).presence * 50) } := by
  obtain ⟨hloader, hpins, hmember⟩ := s.imageLoaded_keeps bytes
  obtain ⟨hloader', hpins', hmember'⟩ := (s.imageLoaded bytes).latchedJoined_keeps
  have hload := hloader'.trans hloader
  have hms (u : State) (h : u.loader = (s.imageHeld bytes).loader) : u.presenceMs = (groupSection bytes).presence * 50 := by
    simp only [presenceMs, group, image, h]
    rfl
  rw [endLoading_stages]
  generalize hu : (s.imageLoaded bytes).latchedJoined = u at *
  refine ⟨?_, ?_, ?_⟩
  · show (u.inhLoaded.setMState .listen).loader = _
    rw [← hload]
    simp [inhLoaded]
  · show (u.inhLoaded.setMState .listen).inh = _
    rw [← hpins, ← hpins']
    simp [inhLoaded]
  · show ({ (u.inhLoaded.setMState .listen).member with
        listenWindow := some (3 * u.inhLoaded.presenceMs)
        helloDue := true
        presenceTimer := some u.inhLoaded.presenceMs } : Membership) = _
    rw [hms u.inhLoaded hload, ← hmember, ← hmember']
    simp [inhLoaded]

theorem chan_endLoading (s : State) (bytes : List Byte) (c : Chan) :
    (s.endLoading bytes).chan c = joinedChannel ((s.imageLoaded bytes).chan c) := by
  rw [← chan_latchedJoined, endLoading_stages]
  exact chan_of_channels (by simp [enterListen, inhLoaded]) c

theorem image_imageLoaded (s : State) (bytes : List Byte) : (s.imageLoaded bytes).image = readImage bytes := by
  simp only [image, (s.imageLoaded_keeps bytes).1]
  rfl

theorem chan_imageLoaded {s : State} {c : Chan} (hc : s.chan c = Channel.atStart) (bytes : List Byte) :
    (s.imageLoaded bytes).chan c = (s.imageHeld bytes).loadedChannel c Channel.atStart := by
  obtain ⟨hloader, hhist, hpins, hret, hchan, -⟩ := (s.imageHeld bytes).invalidLogged_keeps
  rw [imageLoaded, chan_channelsLoaded, chan_of_channels (s := s.imageHeld bytes) hchan]
  show (s.imageHeld bytes).invalidLogged.loadedChannel c (s.chan c) = _
  rw [hc]
  unfold loadedChannel image
  rw [hloader, hhist, hpins, hret]

theorem loadedChannel_enabled {s : State} {c : Chan} {k : ChannelConfig} (h : s.image.channels.get c = .enabled k)
    (x : Channel) :
    s.loadedChannel c x =
      { x with
        debounced := s.pins.req.get c
        debounceTimer := none
        latch := startLatch s.history.startKind k (s.pins.req.get c) (s.retention.samples.get c) (s.retention.fill.get c)
        mark :=
          startLatch s.history.startKind k (s.pins.req.get c) (s.retention.samples.get c) (s.retention.fill.get c)
            && decide (s.history.startKind ≠ .cold) } := by
  unfold loadedChannel
  rw [h]

theorem loadedChannel_notEnabled {s : State} {c : Chan} (h : s.image.channels.get c = .notEnabled) (x : Channel) :
    s.loadedChannel c x = { x with state := .disabled } := by
  unfold loadedChannel
  rw [h]

theorem loadedChannel_invalid {s : State} {c : Chan} {st : Option Nat} (h : s.image.channels.get c = .invalid st)
    (x : Channel) : s.loadedChannel c x = { x with state := .disabled } := by
  unfold loadedChannel
  rw [h]

/-- The station that has ended loading is in LISTEN, where no entry is offered (R52, R133). -/
theorem endLoading_barred (s : State) (bytes : List Byte) (c : Chan) : (s.endLoading bytes).barred c :=
  .inl (by rw [endLoading_state]; decide)

theorem chan_endLoading_finish_queued {s : State} {c : Chan} (bytes : List Byte)
    (h : ((s.endLoading bytes).chan c).state = .queued) : (s.endLoading bytes).finish.chan c = (s.endLoading bytes).chan c :=
  chan_finish_barred h (s.endLoading_barred bytes c)

/-- No channel is CLAIMING in LISTEN: the end of the step leaves every record that the end of loading wrote. -/
theorem chan_endLoading_finish {s : State} {c : Chan} (hc : s.chan c = Channel.atStart) (bytes : List Byte) :
    (s.endLoading bytes).finish.chan c = joinedChannel ((s.imageHeld bytes).loadedChannel c Channel.atStart) := by
  have hchan : (s.endLoading bytes).chan c = joinedChannel ((s.imageHeld bytes).loadedChannel c Channel.atStart) := by
    rw [chan_endLoading, chan_imageLoaded hc]
  have hloose := ((ChanState.loose_iff _).mp (loadedChannel_atStart (s.imageHeld bytes) c).1).1
  rw [← hchan]
  unfold joinedChannel at hchan
  split at hchan
  · exact chan_endLoading_finish_queued bytes (by rw [hchan])
  · refine eq_of_sameButOffer (finish_same (s.endLoading bytes) c) ?_
    rwa [hchan]

theorem lists_endLoading_finish {s : State} {c : Chan} {k : ChannelConfig} (bytes : List Byte)
    (hcfg : (readImage bytes).channels.get c = .enabled k) (hlatch : ((s.imageLoaded bytes).chan c).latch = true) :
    (s.endLoading bytes).finish.lists (isEntryOf c k.urgency) := by
  have hread : (s.imageLoaded bytes).cfg c = k := by
    rw [cfg, image_imageLoaded, hcfg]
    rfl
  refine lists_finish (endStable_isEntryOf c k.urgency) (lists_of_entries (s := (s.imageLoaded bytes).latchedJoined) ?_ ?_)
  · rw [← hread]
    exact lists_latchedJoined hlatch
  · rw [endLoading_stages]
    simp [enterListen, inhLoaded]

theorem endLoading_log {s : State} {c : Chan} {st : Option Nat} (bytes : List Byte)
    (hv : (readImage bytes).channels.get c = .invalid st) :
    ∃ r ∈ (s.endLoading bytes).finish.faults.records, r.kind = .configBad ∧ r.ch = some c ∧ r.step = st := by
  have hfaults : (s.endLoading bytes).finish.faults = (s.imageHeld bytes).invalidLogged.faults := by
    have hloaded : (s.imageHeld bytes).invalidLogged.channelsLoaded.latchedJoined.inhLoaded.faults
        = (s.imageHeld bytes).invalidLogged.faults := latchedJoined_faults (s.imageHeld bytes).invalidLogged.channelsLoaded
    rw [endLoading_eq, ← hloaded]
    simp
  rw [hfaults]
  exact invalidLogged_log hv

end State

/-- The latch at start, by start kind, request mode and restore policy (Tables 4.2, 7.4). -/
theorem startLatch_eq (kind : StartKind) (k : ChannelConfig) (pin : Bool) (samples : BitVec 8) (fill : Nat) :
    startLatch kind k pin samples fill =
      if kind = .cold then decide (k.requestMode = .level) && pin
      else if k.restorePolicy = .off then false
      else if k.restorePolicy = .on then true
      else decide (k.lookBack < fill) && samples.getMsbD k.lookBack := by
  cases kind <;> cases hm : k.requestMode <;> cases hp : k.restorePolicy <;> simp [startLatch, restoreValue, hm, hp]

theorem readRest_eq (rest : List Byte) :
    readRest rest = rest.dropLast.map (LinkOp.take · true) ++ (rest.getLast?.map (LinkOp.take · false)).toList := by
  rcases List.eq_nil_or_concat rest with rfl | ⟨bs, b, rfl⟩
  · rfl
  · rw [List.concat_eq_append, readRest_concat]
    simp

namespace State

theorem exec_imageReadComplete {s : State} (rest : List Byte) (hl : s.loading = true) (hp : s.loader.phase = .rest) :
    exec (.imageReadComplete rest) s
      = .next ((s.drive (readRest rest ++ [.stop, .release])).judgeImage (s.loader.bytes ++ rest)).finish := by
  show execImageReadComplete rest s = _
  simp [execImageReadComplete, hl, hp]

theorem judgeImage_rejected {s : State} {bytes : List Byte} (h : imageAccepted bytes = false) :
    s.judgeImage bytes = s.failAttempt := by
  simp [judgeImage, h]

theorem judgeImage_halted {s : State} {bytes : List Byte} (h : imageAccepted bytes = true)
    (hno : (groupPasses (groupSection bytes) && stationPasses (stationSection bytes)) = false) :
    s.judgeImage bytes = s.haltLoading .haltedGroup := by
  rw [judgeImage, if_pos h, if_neg (by simp [hno])]

theorem judgeImage_passed {s : State} {bytes : List Byte} (h : imageAccepted bytes = true)
    (hyes : (groupPasses (groupSection bytes) && stationPasses (stationSection bytes)) = true) :
    s.judgeImage bytes = s.endLoading bytes := by
  rw [judgeImage, if_pos h, if_pos hyes]

/-- However the image is judged, the record of the lines stays (R170). -/
theorem judgeImage_link (s : State) (bytes : List Byte) : (s.judgeImage bytes).loader.link = s.loader.link := by
  unfold judgeImage
  split
  · split
    · rw [(s.endLoading_shows bytes).1]
      rfl
    · rfl
  · rw [failAttempt_eq]
    split <;> rfl

end State

open State

/-- Settles O54: the three judgements are a failed attempt, a halt and the end of loading, whose stages write each channel
record once. -/
theorem imageIsJudged : Obligations.ImageIsJudged := by
  intro rest s hl hp hstart bytes passes
  obtain ⟨hr, hw, hst⟩ := (loading_iff s).mp hl
  have hlink := (s.drive (readRest rest ++ [.stop, .release])).judgeImage_link bytes
  refine ⟨_, exec_imageReadComplete rest hl hp, by simp [judgeImage_keeps], by simp [judgeImage_keeps], by simp [judgeImage_keeps], ?_,
    fun hacc => ?_, fun hacc hno => ?_, fun hacc hyes => ?_⟩
  · simp only [finish_keeps]
    refine hlink.trans ?_
    show s.loader.link ++ (readRest rest ++ [.stop, .release]) = _
    rw [readRest_eq, List.append_assoc, List.append_assoc, List.append_assoc]
  · rw [judgeImage_rejected hacc]
    exact (attemptFailed_drive hl _).1
  · rw [judgeImage_halted hacc hno]
    obtain ⟨hstate, hresult, hflt, -, hchan, hfaults, -⟩ :=
      haltLoading_finish_shows (s := s.drive (readRest rest ++ [.stop, .release])) hr hw .haltedGroup
    refine ⟨hstate, hresult, hflt, fun c => ?_, by rw [hfaults]; exact configBad_logged _⟩
    rw [chan_of_channels hchan, chan_haltLoading]
    show (s.chan c).state = _ ∧ _
    rw [hstart]
    exact ⟨rfl, rfl, rfl⟩
  · rw [judgeImage_passed hacc hyes]
    set u := s.drive (readRest rest ++ [.stop, .release]) with hu
    have hchanu (c : Chan) : u.chan c = Channel.atStart := hstart c
    obtain ⟨hloader, hinh, hmember⟩ := u.endLoading_shows bytes
    have hm : (u.endLoading bytes).finish.member = (u.endLoading bytes).member := by simp
    have hld : (u.endLoading bytes).finish.loader = (u.imageHeld bytes).loader := by simpa using hloader
    rw [hm, hmember, hld]
    refine ⟨rfl, rfl, rfl, rfl, rfl, rfl, rfl, by simp; exact hinh, fun c => ⟨fun k hk => ?_, fun hk => ?_, fun st hk => ?_⟩⟩
    · intro on
      have hload : (u.imageHeld bytes).loadedChannel c Channel.atStart =
          { Channel.atStart with
            debounced := s.pins.req.get c, latch := on, mark := on && decide (s.history.startKind ≠ .cold) } := by
        rw [loadedChannel_enabled (s := u.imageHeld bytes) hk, startLatch_eq]
        rfl
      rw [chan_endLoading_finish (hchanu c), hload]
      obtain ⟨hdeb, htimer, hlatch, hmark, hstate⟩ := joinedChannel_keeps
        { Channel.atStart with
          debounced := s.pins.req.get c, latch := on, mark := on && decide (s.history.startKind ≠ .cold) }
      refine ⟨hdeb, htimer, hlatch, hmark, fun hon => ⟨hstate.trans (if_pos hon), ?_⟩, fun hoff => hstate.trans (if_neg ?_)⟩
      · refine lists_endLoading_finish bytes hk ?_
        rw [chan_imageLoaded (hchanu c), hload]
        exact hon
      · rw [Bool.not_eq_true]
        exact hoff
    · rw [chan_endLoading_finish (hchanu c), loadedChannel_notEnabled (s := u.imageHeld bytes) hk]
      rfl
    · rw [chan_endLoading_finish (hchanu c), loadedChannel_invalid (s := u.imageHeld bytes) hk]
      exact ⟨rfl, endLoading_log bytes hk⟩

end Sys2Proof.Machine
end

section
/-! A frame begins: the free bus and the break (R121, R150, R160, R161; O35, O36, O38). -/

namespace Sys2Proof.Machine

open Sys2Proof

namespace State

/-! ## What a command does to an empty transmit slot before its step ends -/

theorem claimOnBus_of_no_tx {s : State} (h : s.bus.tx = none) (c : Chan) : s.claimOnBus c = false := by
  simp [claimOnBus, h]

theorem debounce_core (s : State) (c : Chan) (b : Bool) : (s.debounce c b).bus.core = s.bus.core := by
  simp

theorem senseWatch_core (s : State) (c : Chan) (b : Bool) : (s.senseWatch c b).bus.core = s.bus.core := by
  simp

theorem senseAwait_core (s : State) (c : Chan) (b : Bool) : (s.senseAwait c b).bus.core = s.bus.core := by
  unfold senseAwait
  repeat' split
  all_goals simp

theorem debounced_core {s : State} (h : s.bus.tx = none) (c : Chan) : (s.debounced c).bus.core = s.bus.core := by
  rcases s.debounced_cases c with ⟨-, heq⟩ | ⟨-, -, heq⟩ | ⟨-, -, heq⟩
  · rw [heq]
    rfl
  · rw [heq]
    simp
    rfl
  · rw [heq]
    exact demandOff_core fun _ => claimOnBus_of_no_tx (s := s.requestTaken c) h c

theorem tx_of_acts {s u : State} {c : Instr} (ha : s.Acts c u) (h : s.bus.tx = none) : u = s.seeBreak ∨ u.bus.tx = none := by
  have hcore (hb : u.bus.core = s.bus.core) : u = s.seeBreak ∨ u.bus.tx = none := .inr (Bus.tx_of_core hb h)
  cases ha with
  | frame hc hv =>
    rcases tx_receives hc hv with ⟨rfl, -⟩ | hnone
    · exact .inr h
    · exact .inr hnone
  | frameBreak => exact .inl rfl
  | voidedAside | incompleteAside => exact .inr h
  | voidedOwn raw t => exact .inr (tx_ownVoided s t)
  | voidedOther raw hpart htx => exact .inr (tx_otherVoided htx raw)
  | arbitrationLost t => exact .inr (tx_loseArbitration s t)
  | addressClash => exact .inr (tx_meetClash s)
  | incomplete => exact .inr (tx_foundIncomplete s)
  | busFree htx => exact .inr htx
  | headerRead a b n => exact .inr (tx_readHeader h n a b)
  | readComplete rest => exact .inr (tx_judgeImage (s := s.drive _) h _)
  | attemptFails how ops => exact .inr (tx_failAttempt (s := s.drive ops) h)
  | clockStretch n m bytes ops => exact .inr (tx_failAttempt (s := s.drive ops) h)
  | retryElapsed => exact .inr h
  | inhLevel | inhReleased | presenceOut | absenceReached | requestOut | sampleOut => exact .inr h
  | reqLevel d b => exact hcore (debounce_core (s.reqTaken d b) d b)
  | senseLevel d b =>
    refine hcore ?_
    rw [senseAwait_core, senseWatch_core]
    rfl
  | debounceOut d => exact hcore (debounced_core h d)
  | _ => exact hcore (by simp)

theorem tx_of_resets {s u : State} {c : Instr} (ha : s.Resets c u) (h : s.bus.tx = none) : u.bus.tx = none := by
  obtain ⟨-, -, -, -, -, -, -, hlost, -⟩ := s.losePower_empty
  cases ha with
  | powerFail => simpa using h
  | vmainLost => exact hlost
  | retentionLost => exact h
  | suppliesLost => exact hlost
  | recover => rfl
  | powerUp => rfl
  | rstnLow => rfl
  | rstnRelease => exact h
  | start straps =>
    rw [begin_eq, sampleStraps_eq]
    split <;> rfl

/-! ## How a frame comes to be begun -/

/-- The selector has begun a frame that a source built of the state `u`. -/
structure BegunBy (w u : State) (src : Source) (f : Frame) : Prop where
  permits : u.member.state.permits src = true
  built : (u.build src).2 = some f
  eq : w = (u.build src).1.beginFrame src f

theorem BegunBy.tx {w u : State} {src : Source} {f : Frame} (h : BegunBy w u src f) :
    w.bus.tx = some { frame := f, urgency := src.urgency, withdrawn := false, shedFor := (u.build src).1.shedCaller src } := by
  rw [h.eq]
  rfl

theorem BegunBy.keeps {w u : State} {src : Source} {f : Frame} (h : BegunBy w u src f) :
    w.starts = u.starts ∧ w.member = u.member ∧ w.loader = u.loader ∧ w.draws = u.draws ∧ w.inh = u.inh
      ∧ w.engine = u.engine := by
  obtain ⟨-, -, -, -, -, hstarts, hdraws, hinh, heng, hmember, hloader, -⟩ := u.build_keeps src
  rw [h.eq]
  exact ⟨hstarts, hmember, hloader, hdraws, hinh, heng⟩

theorem select_begins {s : State} (h : s.bus.tx = none) {x : TxFrame} (hx : s.select.bus.tx = some x) :
    s.live = true ∧ ∃ u src f, BegunBy s.select u src f := by
  unfold select at hx ⊢
  split at hx
  · next hsel =>
    simp only [Bool.and_eq_true] at hsel
    rw [if_pos (by simp [hsel])]
    refine ⟨hsel.1.1.1, ?_⟩
    rcases trySources_cases sourceOrder s with hbus | ⟨u, src, f, -, hperm, -, hmember, hf, heq⟩
    · rw [hbus, h] at hx
      cases hx
    · exact ⟨u, src, f, by rwa [hmember], hf, heq⟩
  · rw [h] at hx
    cases hx

theorem select_live (s : State) : s.select.live = s.live := by simp [live, operating]

theorem refresh_notice (s : State) : s.refresh.notice = s.notice := by simp only [refresh_keeps]

/-- A frame begun at the end of a step (R160). -/
theorem finish_begins {v : State} (h : v.bus.tx = none) {x : TxFrame} (hx : v.finish.bus.tx = some x) :
    ∃ w u src f, BegunBy w u src f ∧ w.live = true ∧ v.finish = w.finish := by
  have hnotice : v.takeNotice.select.notice = false := by rw [← v.finish_notice, finish, refresh_notice]
  have hsel : v.takeNotice.select.bus.tx = some x := by simpa [finish] using hx
  obtain ⟨hlive, u, src, f, hbegun⟩ := select_begins (by simpa using h) hsel
  refine ⟨v.takeNotice.select, u, src, f, hbegun, (select_live _).trans hlive, ?_⟩
  have hend : v.takeNotice.select.finish = v.takeNotice.select.refresh := by
    rw [finish, takeNotice_of_none hnotice, select_of_sending (by rw [hsel]; rfl)]
  exact hend.symm

/-- A break leaves the line busy and not free, and begins a frame only by the selector (R150). -/
theorem seeBreak_line (s : State) : s.seeBreak.bus.lineBusy = true ∧ s.seeBreak.bus.free = false := by
  rw [seeBreak_eq]
  split
  · next hop =>
    simp only [Bool.and_eq_true, Option.isNone_iff_eq_none] at hop
    unfold breakHeard
    split
    · next hsends =>
      unfold breakJoined at hsends ⊢
      split at hsends
      · rw [hop.2] at hsends
        cases hsends
      · next hquiet =>
        obtain ⟨x, hx⟩ := Option.isSome_iff_exists.mp hsends
        obtain ⟨-, u, src, f, hbegun⟩ := select_begins hop.2 hx
        rw [if_neg hquiet, hbegun.eq]
        exact ⟨rfl, rfl⟩
    · exact ⟨rfl, rfl⟩
  · exact ⟨rfl, rfl⟩

/-- A station that operates and was not sending sends at a break only a frame that the selector begins at it. -/
theorem seeBreak_begins {s : State} (h : s.bus.tx = none) {x : TxFrame} (hx : s.seeBreak.bus.tx = some x) :
    s.seeBreak = s.select ∧ s.select.bus.tx = some x := by
  rw [seeBreak_eq] at hx ⊢
  split at hx
  · next hop =>
    rw [if_pos hop]
    unfold breakHeard at hx ⊢
    split at hx
    · next hsends =>
      rw [if_pos hsends]
      unfold breakJoined at hx ⊢
      split at hx
      · rw [h] at hx
        cases hx
      · next hquiet =>
        rw [if_neg hquiet]
        exact ⟨rfl, hx⟩
    · next hno =>
      rw [show s.breakJoined.bus.tx = some x from hx] at hno
      exact absurd rfl hno
  · rw [show s.bus.tx = some x from hx] at h
    cases h

theorem seeBreak_finish_bus (s : State) : s.seeBreak.finish.bus = s.seeBreak.bus := by
  rw [finish_of_not_free s.seeBreak_line.2]
  simp

/-- A station that was not sending and sends after a command: the selector has begun a frame. -/
theorem begins_of_exec {c : Instr} {s t : State} {x : TxFrame} (hx : exec c s = .next t) (h : s.bus.tx = none)
    (ht : t.bus.tx = some x) : ∃ w u src f, BegunBy w u src f ∧ w.live = true ∧ t = w.finish := by
  have hno : ¬s.bus.tx = some x := by
    rw [h]
    exact fun hno => by cases hno
  cases hr : resets c with
  | true =>
    cases resetRuns_of_exec hx hr with
    | nothing => exact absurd ht hno
    | unpowered => exact absurd ht hno
    | acts ha => exact finish_begins (tx_of_resets ha h) ht
  | false =>
    cases runs_of_exec hx hr with
    | nothing => exact absurd ht hno
    | pinTaken => exact absurd ht hno
    | acts ha =>
      rcases tx_of_acts ha h with rfl | hnone
      · rw [seeBreak_finish_bus] at ht
        obtain ⟨heq, hsel⟩ := seeBreak_begins h ht
        obtain ⟨hlive, u, src, f, hbegun⟩ := select_begins h hsel
        exact ⟨s.select, u, src, f, hbegun, (select_live s).trans hlive, by rw [heq]⟩
      · exact finish_begins hnone ht

end State

end Sys2Proof.Machine
end

section
/-! The frame that is begun stands first among the candidates (Table 9.5, R150, R160, R161; O35, O36, O38). -/

namespace Sys2Proof.Machine

open Sys2Proof

namespace State

/-! ## Candidates outlast the sources tried before them -/

theorem buildClaim_isSome {s : State} {eff : Urg} {e : QueueEntry} {rest : List QueueEntry}
    (he : s.queue.entries = e :: rest) (hst : (s.chan e.ch).state = .claiming) (heff : e.eff = eff)
    (hoff : s.offers e = true) : (s.buildClaim eff).2.isSome = true := by
  unfold buildClaim
  rw [he]
  dsimp only
  rw [if_pos ⟨hst, heff⟩, if_pos hoff]
  rfl

theorem buildClaim_isSome_iff (s : State) (eff : Urg) :
    (s.buildClaim eff).2.isSome = true ↔
      ∃ e rest, s.queue.entries = e :: rest ∧ (s.chan e.ch).state = .claiming ∧ e.eff = eff ∧ s.offers e = true := by
  constructor
  · intro h
    obtain ⟨f, hf⟩ := Option.isSome_iff_exists.mp h
    obtain ⟨e, rest, he, hst, heff, hoff, -⟩ := buildClaim_some hf
    exact ⟨e, rest, he, hst, heff, hoff⟩
  · rintro ⟨e, rest, he, hst, heff, hoff⟩
    exact buildClaim_isSome he hst heff hoff

/-- A SHED_CALL is built for a QUEUED head with a shed need, with its shortfall and the outstanding call's seq (R34). -/
theorem buildShedCall_some {s : State} {f : Frame} (h : s.buildShedCall.2 = some f) :
    ∃ e rest q, s.queue.entries = e :: rest ∧ (s.chan e.ch).state = .queued ∧ s.shedNeedOf e = true
      ∧ f = .shedCall
        { callerUrgency := 0, shortfall := Fin.ofNat 2048 (s.shortfall (s.cfg e.ch).draw.val).toNat, callSeq := q }
      ∧ (∃ k, s.buildShedCall.1.queue.shedCall = some k ∧ k.ch = e.ch ∧ k.callSeq = q)
      ∧ s.buildShedCall.1.queue.entries = s.queue.entries ∧ s.buildShedCall.1.channels = s.channels := by
  unfold buildShedCall at h ⊢
  split at h
  · cases h
  · next e rest he =>
    split at h
    · next hneed =>
      simp only [Bool.and_eq_true, decide_eq_true_eq] at hneed
      obtain ⟨⟨hstands, hst⟩, hneed⟩ := hneed
      rw [if_pos (by simp [hstands, hst, hneed])]
      dsimp only at h ⊢
      split at h
      · next k hk =>
        obtain ⟨hcall, hch⟩ := Option.filter_eq_some_iff.mp hk
        cases h
        exact ⟨e, rest, k.callSeq, he, hst, hneed, rfl, ⟨k, hcall, by simpa using hch, rfl⟩, rfl, rfl⟩
      · cases h
        exact ⟨e, rest, _, he, hst, hneed, rfl, ⟨_, rfl, rfl, rfl⟩, rfl, rfl⟩
    · cases h

theorem buildShedCall_isSome_iff (s : State) :
    s.buildShedCall.2.isSome = true ↔
      ∃ e rest, s.queue.entries = e :: rest
        ∧ (s.queue.shedNeed && decide ((s.chan e.ch).state = .queued) && s.shedNeedOf e) = true := by
  unfold buildShedCall
  split
  · next hnil =>
    rw [hnil]
    simp
  · next e rest he =>
    rw [he]
    split
    · next hneed =>
      refine ⟨fun _ => ⟨e, rest, rfl, hneed⟩, fun _ => ?_⟩
      dsimp only
      split <;> rfl
    · next hno =>
      refine ⟨fun h => (by cases h), ?_⟩
      rintro ⟨e', rest', heq, hneed⟩
      obtain ⟨rfl, -⟩ := List.cons_eq_cons.mp heq
      exact absurd hneed hno

theorem buildShedCall_none {s : State} (h : s.buildShedCall.2 = none) : s.buildShedCall.1 = s.endShedNeed := by
  unfold buildShedCall at h ⊢
  split
  · rfl
  · next e rest he =>
    rw [he] at h
    dsimp only at h
    split
    · next hneed =>
      rw [if_pos hneed] at h
      split at h <;> cases h
    · rfl

/-- What a source that has no candidate leaves: the SHED_CALL's ends a call whose need has gone, a CLAIM's withdraws a head
that is offered no longer (R35, R55). -/
theorem build_failed {s : State} {src : Source} (h : (s.build src).2 = none) :
    (s.build src).1 = s ∨ src = .shedCall ∧ (s.build src).1 = s.endShedNeed
      ∨ ∃ e rest, s.queue.entries = e :: rest ∧ (s.chan e.ch).state = .claiming ∧ s.offers e = false
        ∧ (s.build src).1 = s.requeue e.ch := by
  cases src with
  | claim eff =>
    rcases buildClaim_none (s := s) (eff := eff) h with heq | hreq
    · exact .inl heq
    · exact .inr (.inr hreq)
  | shedCall => exact .inr (.inl ⟨rfl, buildShedCall_none h⟩)
  | release | expire | absent | renewal | recount | syncReq | hello | presence | answer => exact .inl rfl

theorem releaseFrame_congr {s t : State} {c : Chan} (hr : (t.chan c).release = (s.chan c).release)
    (hq : (t.chan c).seq = (s.chan c).seq) : t.releaseFrame c = s.releaseFrame c := by
  unfold releaseFrame
  rw [hr, hq]

theorem requeue_fields (s : State) (d c : Chan) :
    ((s.requeue d).chan c).release = (s.chan c).release ∧ ((s.requeue d).chan c).seq = (s.chan c).seq
      ∧ ((s.requeue d).chan c).renewals = (s.chan c).renewals := by
  rw [chan_requeue]
  split
  · next h => rw [h]; exact ⟨rfl, rfl, rfl⟩
  · exact ⟨rfl, rfl, rfl⟩

theorem renewalDue_congr {s t : State} {c : Chan} (he : t.engine = s.engine) (hs : t.starts = s.starts)
    (ho : t.own = s.own) (hq : (t.chan c).seq = (s.chan c).seq) (hr : (t.chan c).renewals = (s.chan c).renewals) :
    t.renewalDue c = s.renewalDue c := by
  unfold renewalDue trackedEntry tracked namedEntry
  rw [he, hs, ho, hq, hr]

/-- A withdrawn head leaves the candidates of the sources that do not look at it. -/
theorem build_requeue_isSome {s : State} {d : Chan} {src : Source} (hsrc : ∀ eff, src ≠ .claim eff)
    (hshed : src ≠ .shedCall) (h : (s.build src).2.isSome = true) : ((s.requeue d).build src).2.isSome = true := by
  cases src with
  | claim eff => exact absurd rfl (hsrc eff)
  | shedCall => exact absurd rfl hshed
  | release =>
    have hsame : (s.requeue d).releaseFrame = s.releaseFrame := by
      funext c
      obtain ⟨hr, hq, -⟩ := s.requeue_fields d c
      exact releaseFrame_congr hr hq
    show (allChans.findSome? (s.requeue d).releaseFrame).isSome = true
    rw [hsame]
    exact h
  | renewal =>
    have hsame : (s.requeue d).renewalDue = s.renewalDue := by
      funext c
      obtain ⟨-, hq, hr⟩ := s.requeue_fields d c
      exact renewalDue_congr rfl rfl rfl hq hr
    have hfirst : (firstChan s.renewalDue).isSome = true := by simpa [build] using h
    simpa [build, hsame] using hfirst
  | recount =>
    have hactive : s.member.round.active = true := by
      by_contra hno
      simp [build, hno] at h
    simp [build, hactive]
  | answer =>
    have hanswer : s.answer.isSome = true := by simpa [build] using h
    simpa [build] using hanswer
  | expire | absent | syncReq | hello | presence => exact h

theorem build_endShedNeed_isSome {s : State} {src : Source} (hshed : src ≠ .shedCall)
    (h : (s.build src).2.isSome = true) : (s.endShedNeed.build src).2.isSome = true := by
  cases src with
  | shedCall => exact absurd rfl hshed
  | claim eff => exact (buildClaim_isSome_iff s.endShedNeed eff).mpr ((buildClaim_isSome_iff s eff).mp h)
  | renewal =>
    have hfirst : (firstChan s.renewalDue).isSome = true := by simpa [build] using h
    have hsame : s.endShedNeed.renewalDue = s.renewalDue := rfl
    simpa [build, hsame] using hfirst
  | release | expire | absent | recount | syncReq | hello | presence | answer => exact h

/-- A source keeps its candidate where another had none. -/
theorem build_isSome_of_failed {s : State} {src tried : Source} (hfail : (s.build tried).2 = none)
    (h : (s.build src).2.isSome = true) : ((s.build tried).1.build src).2.isSome = true := by
  rcases build_failed hfail with heq | ⟨rfl, heq⟩ | ⟨e, rest, he, hst, hoff, heq⟩
  · rw [heq]
    exact h
  · rw [heq]
    refine build_endShedNeed_isSome ?_ h
    rintro rfl
    rw [hfail] at h
    cases h
  · rw [heq]
    refine build_requeue_isSome (fun eff => ?_) ?_ h
    · rintro rfl
      obtain ⟨e', rest', he', -, -, hoff'⟩ := (buildClaim_isSome_iff s eff).mp h
      rw [he] at he'
      obtain ⟨rfl, -⟩ := List.cons_eq_cons.mp he'
      rw [hoff] at hoff'
      cases hoff'
    · rintro rfl
      obtain ⟨f, hf⟩ := Option.isSome_iff_exists.mp h
      obtain ⟨e', rest', -, he', hst', -⟩ := buildShedCall_some hf
      rw [he] at he'
      obtain ⟨rfl, -⟩ := List.cons_eq_cons.mp he'
      rw [hst] at hst'
      cases hst'

end State

/-- One source stands no later than another: by frame urgency, then by place (R161). -/
def noLater (a b : Source) : Prop := a.urgency < b.urgency ∨ a.urgency = b.urgency ∧ sourcePlace a ≤ sourcePlace b

theorem noLater_refl (a : Source) : noLater a a := .inr ⟨rfl, le_rfl⟩

theorem sourceOrder_noLater : sourceOrder.Pairwise noLater := by
  unfold noLater
  decide

theorem mem_sourceOrder (src : Source) : src ∈ sourceOrder := by
  cases src with
  | claim eff =>
    revert eff
    decide
  | _ => decide

namespace State

/-- Of all the sources that hold a candidate the one whose frame is begun stands first (R160, R161). -/
theorem trySources_first {l : List Source} (hl : l.Pairwise noLater) {s : State} {src : Source} (hsrc : src ∈ l)
    (hperm : s.member.state.permits src = true) (hsome : (s.build src).2.isSome = true) :
    ∃ u first f, noLater first src ∧ BegunBy (s.trySources l) u first f := by
  induction l generalizing s with
  | nil => exact absurd hsrc List.not_mem_nil
  | cons a rest ih =>
    obtain ⟨ha, hrest⟩ := List.pairwise_cons.mp hl
    have hle : noLater a src := (List.mem_cons.mp hsrc).elim (fun h => h ▸ noLater_refl a) (ha src)
    unfold trySources
    split
    · next hpa =>
      split
      · next s' f heq => exact ⟨s, a, f, hle, hpa, by rw [heq], by rw [heq]⟩
      · next s' heq =>
        have hs' : s' = (s.build a).1 := by rw [heq]
        have hfail : (s.build a).2 = none := by rw [heq]
        have hin : src ∈ rest := by
          rcases List.mem_cons.mp hsrc with rfl | h
          · rw [hfail] at hsome
            cases hsome
          · exact h
        rw [hs']
        refine ih hrest hin ?_ (build_isSome_of_failed hfail hsome)
        obtain ⟨-, -, -, -, -, -, -, -, -, hmember, -⟩ := s.build_keeps a
        rw [hmember]
        exact hperm
    · next hno =>
      refine ih hrest ((List.mem_cons.mp hsrc).resolve_left ?_) hperm hsome
      rintro rfl
      exact hno hperm

/-- On a free, quiet bus of a station whose channels act a candidate's source lets a frame begin that stands no later. -/
theorem select_first {s : State} (hl : s.live = true) (hfree : s.bus.free = true) (hquiet : s.bus.lineBusy = false)
    (htx : s.bus.tx = none) {src : Source} (hperm : s.member.state.permits src = true)
    (hsome : (s.build src).2.isSome = true) :
    ∃ x, s.select.bus.tx = some x
      ∧ (x.urgency < src.urgency ∨ x.urgency = src.urgency ∧ framePlace x.frame ≤ sourcePlace src) := by
  have hsel : s.select = s.trySources sourceOrder := if_pos (by simp [hl, hfree, hquiet, htx])
  obtain ⟨u, first, f, hle, hbegun⟩ := trySources_first sourceOrder_noLater (mem_sourceOrder src) hperm hsome
  rw [hsel]
  refine ⟨_, hbegun.tx, ?_⟩
  rw [build_place hbegun.built]
  exact hle

/-! ## The kinds of frames of a source -/

theorem source_of_expire {u : State} {src : Source} {p : ExpirePayload} (h : (u.build src).2 = some (.expire p)) :
    src = .expire := by
  have hplace := build_place h
  cases src with
  | expire => rfl
  | _ => simp [framePlace, sourcePlace] at hplace

theorem source_of_syncReq {u : State} {src : Source} {a : Addr} (h : (u.build src).2 = some (.syncReq a)) :
    src = .syncReq := by
  have hplace := build_place h
  cases src with
  | syncReq => rfl
  | _ => simp [framePlace, sourcePlace] at hplace

/-- An owed SYNC_REQ: the own request first, then the first peer's (R136, R143, R161). -/
theorem syncReqFrame_says {u : State} {a : Addr} (h : u.syncReqFrame = some (.syncReq a)) :
    (u.member.ownRequest = some .all → a = 0) ∧ (u.member.ownRequest = some .self → a = u.own)
      ∧ (u.member.ownRequest = none → ∃ kv, u.member.roster.find? (·.2.requestOwed) = some kv
        ∧ a = Fin.ofNat 32 kv.1) := by
  unfold syncReqFrame at h
  split at h
  · next hreq =>
    cases h
    rw [hreq]
    simp
  · next hreq =>
    cases h
    rw [hreq]
    simp
  · next hreq =>
    obtain ⟨kv, hkv, hf⟩ := Option.map_eq_some_iff.mp h
    cases hf
    rw [hreq]
    refine ⟨fun hall => ?_, fun hself => ?_, fun _ => ⟨kv, hkv, rfl⟩⟩
    · cases hall
    · cases hself

theorem firstRelease {s : State} {c : Chan} {f : Frame} (h : s.releaseFrame c = some f)
    (hlow : ∀ d : Chan, d < c → (s.chan d).release = .none) : allChans.findSome? s.releaseFrame = some f := by
  have hnone (d : Chan) (hd : d < c) : s.releaseFrame d = none := by
    unfold releaseFrame
    rw [hlow d hd]
  have hall : allChans = [0, 1, 2, 3] := rfl
  rw [hall]
  match c with
  | 0 => simp [List.findSome?, h]
  | 1 => simp [List.findSome?, h, hnone 0 (by decide)]
  | 2 => simp [List.findSome?, h, hnone 0 (by decide), hnone 1 (by decide)]
  | 3 => simp [List.findSome?, h, hnone 0 (by decide), hnone 1 (by decide), hnone 2 (by decide)]

theorem takeNotice_same (s : State) (c : Chan) : sameButOffer (s.takeNotice.chan c) (s.chan c) := by
  unfold takeNotice
  split
  · split
    · exact evaluate_same ({ s with notice := false } : State) c
    · exact sameButOffer_refl _
  · exact sameButOffer_refl _

/-- A released channel's frame is the first of all candidates (R161). -/
theorem trySources_release {s : State} (hl : s.live = true) {f : Frame} (h : (s.build .release).2 = some f) :
    s.trySources sourceOrder = s.beginFrame .release f := by
  have hperm : s.member.state.permits .release = true := by
    have hop := (live_operating hl)
    simp only [operating, Bool.and_eq_true] at hop
    obtain ⟨-, happlies⟩ := hop
    revert happlies
    cases s.member.state <;> decide
  unfold sourceOrder trySources
  rw [if_pos hperm]
  have heq : s.build .release = (s, some f) := Prod.ext rfl h
  rw [heq]

theorem refresh_bus (s : State) : s.refresh.bus = s.bus := by simp only [refresh_keeps]

/-- The bus after the line has stood high, the selector not yet run. -/
theorem freed_says (s : State) (htx : s.bus.tx = none) :
    s.freed.bus.tx = none ∧ s.freed.bus.free = s.operating ∧ s.freed.bus.lineBusy = false ∧ s.freed.live = s.live :=
  ⟨htx, rfl, rfl, rfl⟩

theorem exec_busFree {s : State} (htx : s.bus.tx = none) : exec .busFree s = .next s.freed.finish := by
  show execBusFree s = _
  unfold execBusFree freed
  rw [htx]

theorem exec_frameBreak (s : State) : exec .frameBreak s = .next s.seeBreak.finish := rfl

/-- A station that operates and begins no frame at a break receives (R150). -/
theorem seeBreak_receives {s : State} (hop : s.operating = true) (htx : s.bus.tx = none)
    (hno : s.seeBreak.bus.tx = none) : s.seeBreak.bus.receiving = true := by
  rw [seeBreak_eq, if_pos (by simp [hop, htx])] at hno ⊢
  unfold breakHeard at hno ⊢
  split at hno
  · next h =>
    rw [hno] at h
    cases h
  · next h =>
    rw [if_neg h]

/-- Whether a source has a candidate does not depend on the bus. -/
theorem build_isSome_of_bus {s : State} (b : Bus) {src : Source} (h : (s.build src).2.isSome = true) :
    (({ s with bus := b } : State).build src).2.isSome = true := by
  cases src with
  | claim eff => exact (buildClaim_isSome_iff ({ s with bus := b } : State) eff).mpr ((buildClaim_isSome_iff s eff).mp h)
  | shedCall => exact (buildShedCall_isSome_iff ({ s with bus := b } : State)).mpr (s.buildShedCall_isSome_iff.mp h)
  | answer =>
    have hanswer : s.answer.isSome = true := by simpa [build] using h
    simpa [build] using hanswer
  | release | expire | absent | renewal | recount | syncReq | hello | presence => exact h

/-- The selector that begins nothing leaves the bus. -/
theorem select_bus_of_none {s : State} (hno : s.select.bus.tx = none) : s.select.bus = s.bus := by
  unfold select at hno ⊢
  split
  · next hsel =>
    rw [if_pos hsel] at hno
    rcases trySources_cases sourceOrder s with hbus | ⟨u, src, f, -, -, -, -, -, heq⟩
    · exact hbus
    · rw [heq] at hno
      cases hno
  · rfl

/-- The frame that stands on the bus after a free-bus instant, and the state its source built it of. -/
theorem freed_begins {s : State} (htx : s.bus.tx = none) {x : TxFrame} (hx : s.freed.finish.bus.tx = some x) :
    ∃ (u : State) (src : Source), (u.build src).2 = some x.frame ∧ u.starts = s.starts ∧ u.member = s.member ∧ u.own = s.own := by
  obtain ⟨w, u, src, f, hbegun, -, heq⟩ := finish_begins (v := s.freed) htx hx
  obtain ⟨hstarts, hmember, hloader, -⟩ := hbegun.keeps
  have hbus : w.finish.bus = w.bus := finish_bus_of_sending (by rw [hbegun.tx]; rfl)
  have hkeep : s.freed.finish.starts = w.finish.starts ∧ s.freed.finish.member = w.finish.member
      ∧ s.freed.finish.loader = w.finish.loader := by rw [heq]; exact ⟨rfl, rfl, rfl⟩
  simp only [finish_keeps] at hkeep
  obtain ⟨hs, hm, hlo⟩ := hkeep
  rw [heq, hbus, hbegun.tx] at hx
  cases hx
  refine ⟨u, src, hbegun.built, hstarts.symm.trans hs.symm, hmember.symm.trans hm.symm, ?_⟩
  have hown : u.loader = s.loader := hloader.symm.trans hlo.symm
  simp only [own, hown]

end State

theorem mayBegin_listen (f : Frame) :
    mayBegin .listen f = true ↔ framePlace f = 1 ∨ framePlace f = 8 ∨ framePlace f = 9 ∨ framePlace f = 10 := by
  cases f <;> simp [mayBegin, framePlace]

theorem mayBegin_syncing (f : Frame) :
    mayBegin .syncing f = true ↔ framePlace f ≠ 4 ∧ framePlace f ≠ 11 ∧ framePlace f ≠ 12 := by
  cases f <;> simp [mayBegin, framePlace]

theorem mayBegin_joined (f : Frame) :
    (mayBegin .inStep f = true ↔ framePlace f ≠ 12) ∧ (mayBegin .isolated f = true ↔ framePlace f ≠ 12) := by
  cases f <;> simp [mayBegin, framePlace]

/-- A frame that a source builds is of a kind that its membership state sends (Table 8.4). -/
theorem mayBegin_of_build {u : State} {src : Source} {f : Frame} (m : MState) (hperm : m.permits src = true)
    (h : (u.build src).2 = some f) : mayBegin m f = true := by
  have hplace := State.build_place h
  have hjoined : framePlace f ≠ 12 := by
    rw [hplace]
    cases src <;> simp [sourcePlace]
  cases m with
  | loading => cases hperm
  | halted => cases hperm
  | listen =>
    rw [mayBegin_listen, hplace]
    cases src with
    | hello | presence | answer | release => decide
    | _ => cases hperm
  | syncing =>
    rw [mayBegin_syncing, hplace]
    cases src with
    | claim | shedCall => cases hperm
    | _ => decide
  | inStep => exact (mayBegin_joined f).1.mpr hjoined
  | isolated => exact (mayBegin_joined f).2.mpr hjoined

open State

/-- Settles O38: the frame is the selector's, of a permitted source, at a station whose channels act. -/
theorem frameBeginsOnlyWherePermitted : Obligations.FrameBeginsOnlyWherePermitted := by
  intro c s t x hx h ht
  obtain ⟨w, u, src, f, hbegun, hlive, rfl⟩ := begins_of_exec hx h ht
  have htx : w.finish.bus = w.bus := finish_bus_of_sending (by rw [hbegun.tx]; rfl)
  rw [htx, hbegun.tx] at ht
  cases ht
  obtain ⟨hphase, -⟩ := live_of_running hlive
  obtain ⟨-, hmember, -⟩ := hbegun.keeps
  refine ⟨by simpa using hphase, by simpa using live_warning hlive, ?_⟩
  rw [show w.finish.member = u.member by simpa using hmember]
  exact mayBegin_of_build _ hbegun.permits hbegun.built

/-- Settles O35: a station that may send joins the break by the selector, any other receives. -/
theorem breakBeginsAFrame : Obligations.BreakBeginsAFrame := by
  refine ⟨fun s hop htx => ?_, fun s hno => ?_⟩
  · obtain ⟨hbusy, hfree⟩ := s.seeBreak_line
    refine ⟨_, s.exec_frameBreak, ?_⟩
    rw [seeBreak_finish_bus]
    refine ⟨hbusy, hfree, ?_, fun hl hf hq src hperm hsome => ?_, fun hor => ?_, by simp, by simp, by simp⟩
    · cases hsends : s.seeBreak.bus.tx with
      | none => exact seeBreak_receives hop htx hsends
      | some x =>
        obtain ⟨heq, hsel⟩ := seeBreak_begins htx hsends
        obtain ⟨-, u, src, f, hbegun⟩ := select_begins htx hsel
        rw [heq, hbegun.eq]
        rfl
    · obtain ⟨x, hx, hfirst⟩ := select_first hl hf hq htx hperm hsome
      refine ⟨x, ?_, hfirst⟩
      rw [seeBreak_eq, if_pos (by simp [hop, htx]), breakJoined, if_neg (by simp [hq]), breakHeard, if_pos (by rw [hx]; rfl)]
      exact hx
    · have hidle : s.breakJoined = s := by
        unfold breakJoined select
        rcases hor with h | h | h <;> simp [h]
      rw [seeBreak_eq, if_pos (by simp [hop, htx]), hidle, breakHeard, if_neg (by simp [htx])]
      exact htx
  · have hsee : s.seeBreak = { s with bus := { s.bus with lineBusy := true, free := false } } := by
      rw [seeBreak_eq, if_neg]
      rintro h
      simp only [Bool.and_eq_true, Option.isNone_iff_eq_none] at h
      rcases hno with hno | hno
      · rw [h.1] at hno
        cases hno
      · rw [h.2] at hno
        cases hno
    refine ⟨_, s.exec_frameBreak, ?_⟩
    rw [seeBreak_finish_bus, hsee]
    exact ⟨rfl, rfl, rfl, rfl, by simp, by simp, by simp⟩

/-- Settles O36: at a free-bus instant the selector runs on the state after the evaluation. -/
theorem freeBusSendsTheReleaseFirst : Obligations.FreeBusSendsTheReleaseFirst := by
  intro s htx
  obtain ⟨hnone, hfree, hquiet, hlive⟩ := s.freed_says htx
  refine ⟨_, exec_busFree htx, by simp; rfl, by simp; rfl, by simp; rfl, fun c f hl hf hlow => ?_, fun hl hn src hperm hsome => ?_,
    fun x p hx hf => ?_, fun x a hx hf => ?_, fun hl => ?_, fun hno => ?_⟩
  · have hfirst : (s.freed.takeNotice.build .release).2 = some f := by
      have hsame (d : Chan) : (s.freed.takeNotice.chan d).release = (s.chan d).release
          ∧ (s.freed.takeNotice.chan d).seq = (s.chan d).seq := by
        obtain ⟨-, -, hrel, -, hseq, -⟩ := fields_of_sameButOffer (takeNotice_same s.freed d)
        exact ⟨hrel, hseq⟩
      refine firstRelease (c := c) ((releaseFrame_congr (hsame c).1 (hsame c).2).trans hf) fun d hd => ?_
      rw [(hsame d).1, hlow d hd]
    have hlv : s.freed.takeNotice.live = true := by rw [takeNotice_live, hlive, hl]
    have hsel : s.freed.takeNotice.select = s.freed.takeNotice.beginFrame .release f := by
      rw [← trySources_release hlv hfirst]
      exact if_pos (by simp [hl, hlive, hnone, hfree, hquiet, live_operating hl])
    rw [finish, hsel, refresh_bus]
    rfl
  · have hv : s.freed.takeNotice = s.freed := takeNotice_of_none hn
    have hop : s.freed.bus.free = true := hfree.trans (live_operating hl)
    have hbuilt : (s.freed.build src).2.isSome = true := build_isSome_of_bus _ hsome
    obtain ⟨x, hx, hle⟩ := select_first (hlive.trans hl) hop hquiet hnone hperm hbuilt
    refine ⟨x, ?_, hle⟩
    rw [finish, hv, refresh_bus]
    exact hx
  · obtain ⟨u, src, hbuilt, hstarts, -⟩ := freed_begins htx hx
    rw [hf] at hbuilt
    obtain rfl := source_of_expire hbuilt
    obtain ⟨e, he, hp⟩ := Option.map_eq_some_iff.mp hbuilt
    cases hp
    exact ⟨e, hstarts ▸ he, rfl⟩
  · obtain ⟨u, src, hbuilt, -, hmember, hown⟩ := freed_begins htx hx
    rw [hf] at hbuilt
    obtain rfl := source_of_syncReq hbuilt
    rw [← hmember, ← hown]
    exact syncReqFrame_says hbuilt
  · rw [finish_of_not_live (hlive.trans hl)]
    simpa using hnone
  · rw [finish, refresh_bus] at hno ⊢
    rw [select_bus_of_none hno]
    simpa using hfree

end Sys2Proof.Machine
end

section
/-! A CLAIM, RENEW or SHED_CALL is begun only where it may be (R34, R52-R55, R98; O37). -/

namespace Sys2Proof.Machine

open Sys2Proof

namespace State

theorem refresh_eq (s : State) : s.refresh = { s with indicators := s.refresh.indicators } := by
  unfold refresh judgeStat
  split <;> rfl

/-! ## An offered head whose CLAIM is on the bus -/

/-- The CLAIM on the bus is the head's, which every condition of an offer still holds for. -/
def claimsHead (s : State) (p : ClaimPayload) (u : Urg) : Prop :=
  s.claimOnBus p.ch = true
    ∧ ∃ e rest, s.queue.entries = e :: rest ∧ e.ch = p.ch ∧ e.eff = u ∧ e.offered = some p.seq
      ∧ (s.chan p.ch).state = .claiming ∧ s.offers e = true

theorem withdrawBehind_offers (l : List QueueEntry) (s : State) (e : QueueEntry) :
    (s.withdrawBehind l).offers e = s.offers e := by
  induction l generalizing s with
  | nil => rfl
  | cons d ds ih =>
    rw [withdrawBehind, ih]
    split
    · exact offers_requeue s d.ch e
    · rfl

/-- The entries behind the head of a CLAIM on the bus are withdrawn; the head stays. -/
theorem withdrawBehind_head_onBus (l : List QueueEntry) {s : State} {e : QueueEntry} {rest : List QueueEntry}
    (he : s.queue.entries = e :: rest) (hbus : s.claimOnBus e.ch = true) :
    ∃ rest', (s.withdrawBehind l).queue.entries = e :: rest' := by
  induction l generalizing s rest with
  | nil => exact ⟨rest, he⟩
  | cons d ds ih =>
    rw [withdrawBehind]
    split
    · next hcl =>
      have hne : e.ch ≠ d.ch := fun h => by rw [← h, hbus] at hcl; cases hcl.2
      refine ih (s := s.requeue d.ch)
        (rest := rest.map fun x => if x.ch = d.ch then { x with voids := 0, offered := none } else x) ?_ hbus
      show s.queue.entries.map _ = _
      rw [he, List.map_cons, if_neg hne]
    · exact ih he hbus

theorem claimsHead_evaluate {s : State} {p : ClaimPayload} {u : Urg} (h : s.claimsHead p u) : s.evaluate.claimsHead p u := by
  obtain ⟨hbus, e, rest, he, hch, heff, hoffered, hst, hoff⟩ := h
  obtain ⟨rest', hrest⟩ := withdrawBehind_head_onBus s.queue.entries.tail he (by rwa [hch])
  have hsame := withdrawBehind_offers s.queue.entries.tail s e
  have hchan := chan_withdrawBehind_onBus s.queue.entries.tail hbus
  have hbus' : (s.withdrawBehind s.queue.entries.tail).claimOnBus p.ch = true := by
    rwa [claimOnBus_of_tx (s := s) (by simp)]
  generalize hw : s.withdrawBehind s.queue.entries.tail = w at hrest hsame hchan hbus'
  have hjudge : w.judgeHead = w.endShedNeed := by
    unfold judgeHead
    rw [hrest]
    dsimp only
    rw [hch, hchan, hst]
    dsimp only
    rw [if_pos (by rw [hbus']; rfl)]
  rw [evaluate, hw, hjudge]
  exact ⟨hbus', e, rest', hrest, hch, heff, hoffered, (congrArg Channel.state hchan).trans hst, hsame.trans hoff⟩

theorem claimsHead_takeNotice {s : State} {p : ClaimPayload} {u : Urg} (h : s.claimsHead p u) :
    s.takeNotice.claimsHead p u := by
  unfold takeNotice
  split
  · split
    · exact claimsHead_evaluate (s := { s with notice := false }) h
    · exact h
  · exact h

theorem claimsHead_finish {s : State} {p : ClaimPayload} {u : Urg} (h : s.claimsHead p u) : s.finish.claimsHead p u := by
  rw [finish, select_of_sending (by simpa using tx_of_claimOnBus h.1), refresh_eq]
  exact claimsHead_takeNotice h

/-! ## A QUEUED head whose SHED_CALL is outstanding -/

/-- The outstanding call is the QUEUED head's, for which the shed need stands (R33, R34). -/
def callsHead (s : State) (c : Chan) (short : Fin 2048) (q : Seq) : Prop :=
  ∃ e rest, s.queue.entries = e :: rest ∧ e.ch = c ∧ (s.chan c).state = .queued ∧ s.shedNeedOf e = true
    ∧ short = Fin.ofNat 2048 (s.shortfall (s.cfg c).draw.val).toNat
    ∧ ∃ k, s.queue.shedCall = some k ∧ k.ch = c ∧ k.callSeq = q

theorem shedNeedOf_requeue (s : State) (d : Chan) (e : QueueEntry) : (s.requeue d).shedNeedOf e = s.shedNeedOf e := by
  have hoff : (s.requeue d).offerable e = s.offerable e := offerable_enter _ d .queued e
  unfold shedNeedOf
  rw [hoff]
  rfl

theorem withdrawBehind_shedNeed (l : List QueueEntry) (s : State) :
    (∀ e, (s.withdrawBehind l).shedNeedOf e = s.shedNeedOf e)
      ∧ (s.withdrawBehind l).queue.shedCall = s.queue.shedCall
      ∧ ∀ c, (s.withdrawBehind l).shortfall ((s.withdrawBehind l).cfg c).draw.val = s.shortfall (s.cfg c).draw.val := by
  induction l generalizing s with
  | nil => exact ⟨fun _ => rfl, rfl, fun _ => rfl⟩
  | cons d ds ih =>
    rw [withdrawBehind]
    split
    · obtain ⟨hneed, hcall, hshort⟩ := ih (s.requeue d.ch)
      exact ⟨fun e => (hneed e).trans (shedNeedOf_requeue s d.ch e), hcall, hshort⟩
    · exact ih s

theorem shedNeedOf_iff (s : State) (e : QueueEntry) :
    s.shedNeedOf e = true ↔ (s.cfg e.ch).urgency = 0 ∧ e.shedCalled = false ∧ s.offerable e = true
      ∧ s.precheck e.ch = .draw ∧ 1 ≤ s.shortfall (s.cfg e.ch).draw.val ∧ s.shortfall (s.cfg e.ch).draw.val ≤ 2047
      ∧ shedSet s.draws 0 (s.shortfall (s.cfg e.ch).draw.val).toNat ≠ [] := by
  simp [shedNeedOf, and_assoc]

theorem callsHead_evaluate {s : State} {c : Chan} {n : Fin 2048} {q : Seq} (h : s.callsHead c n q) :
    s.evaluate.callsHead c n q := by
  obtain ⟨e, rest, he, rfl, hst, hneed, hshort, k, hk, hkc, hkq⟩ := h
  obtain ⟨⟨rest', hrest⟩, hoffers⟩ := withdrawBehind_head s.queue.entries.tail he hst
  obtain ⟨hneeds, hcall, hshorts⟩ := withdrawBehind_shedNeed s.queue.entries.tail s
  have hchan := chan_withdrawBehind_queued s.queue.entries.tail hst
  have hno : s.offers e = false := by
    obtain ⟨-, -, -, hpre, -⟩ := (shedNeedOf_iff s e).mp hneed
    simp [offers, hpre]
  have hneed' := (hneeds e).trans hneed
  have hno' := (hoffers e).trans hno
  have hshort' := hshort.trans (congrArg (fun n : Int => Fin.ofNat 2048 n.toNat) (hshorts e.ch).symm)
  have hcall' := hcall.trans hk
  have hst' := (congrArg Channel.state hchan).trans hst
  rw [evaluate]
  generalize s.withdrawBehind s.queue.entries.tail = w at hrest hneed' hno' hshort' hcall' hst'
  have hjudge : w.judgeHead =
      { w with queue.shedNeed := true, queue.shedCall := w.queue.shedCall.filter fun k => decide (k.ch = e.ch) } := by
    unfold judgeHead
    rw [hrest]
    dsimp only
    rw [hst']
    dsimp only
    rw [if_neg (by simp [hno'])]
    exact if_pos hneed'
  rw [hjudge]
  refine ⟨e, rest', hrest, rfl, hst', hneed', hshort', k, ?_, hkc, hkq⟩
  show w.queue.shedCall.filter _ = some k
  rw [hcall']
  simp [hkc]

theorem callsHead_finish {s : State} {c : Chan} {n : Fin 2048} {q : Seq} (htx : s.bus.tx.isSome = true)
    (h : s.callsHead c n q) : s.finish.callsHead c n q := by
  have hnotice : s.takeNotice.callsHead c n q := by
    unfold takeNotice
    split
    · split
      · exact callsHead_evaluate (s := { s with notice := false }) h
      · exact h
    · exact h
  rw [finish, select_of_sending (by simpa using htx), refresh_eq]
  exact hnotice

/-! ## The renewal need -/

theorem firstChan_some {p : Chan → Bool} {c : Chan} (h : firstChan p = some c) : p c = true ∧ ∀ d, d < c → p d = false := by
  obtain ⟨hc, before, after, hall, hno⟩ := List.find?_eq_some_iff_append.mp h
  refine ⟨hc, fun d hd => ?_⟩
  have hsorted : allChans.Pairwise (· < ·) := by decide
  have hmem := mem_allChans d
  rw [hall] at hsorted hmem
  obtain ⟨-, hrest, -⟩ := List.pairwise_append.mp hsorted
  rcases List.mem_append.mp hmem with hin | hin
  · simpa using hno d hin
  · rcases List.mem_cons.mp hin with rfl | hin
    · exact absurd hd (lt_irrefl _)
    · exact absurd hd (lt_asymm ((List.pairwise_cons.mp hrest).1 d hin))

theorem renewalDue_iff (s : State) (c : Chan) :
    s.renewalDue c = true ↔ s.tracked c = true ∧ (s.chan c).renewals.val < 3 ∧ s.engine.exhausted.get c = false
      ∧ ∃ q e, (s.chan c).seq = some q ∧ s.namedEntry s.own c q = some e ∧ 0 < e.remaining
        ∧ 4 * e.remaining < e.holdLimit.val * 20 := by
  cases hq : (s.chan c).seq with
  | none => simp [renewalDue, trackedEntry, hq]
  | some q =>
    cases he : s.namedEntry s.own c q with
    | none => simp [renewalDue, trackedEntry, hq, he]
    | some e =>
      have hdue : s.renewalDue c = (s.tracked c && decide ((s.chan c).renewals < 3) && !s.engine.exhausted.get c
          && decide (0 < e.remaining ∧ 4 * e.remaining < e.limitMs)) := by
        unfold renewalDue trackedEntry
        rw [hq]
        dsimp only
        rw [he]
      rw [hdue]
      simp only [he, Bool.and_eq_true, Bool.not_eq_true', and_assoc, Option.some.injEq, exists_eq_left', exists_and_left]
      rw [decide_eq_true_iff, decide_eq_true_iff]
      exact Iff.rfl

theorem buildShedCall_queue (s : State) : s.buildShedCall.1 = { s with queue := s.buildShedCall.1.queue } := by
  unfold buildShedCall
  repeat' split
  all_goals rfl

theorem source_of_renew {u : State} {src : Source} {p : RenewPayload} (h : (u.build src).2 = some (.renew p)) :
    src = .renewal := by
  have hplace := build_place h
  cases src with
  | renewal => rfl
  | _ => simp [framePlace, sourcePlace] at hplace

theorem source_of_shedCall {u : State} {src : Source} {p : ShedCallPayload} (h : (u.build src).2 = some (.shedCall p)) :
    src = .shedCall := by
  have hplace := build_place h
  cases src with
  | shedCall => rfl
  | _ => simp [framePlace, sourcePlace] at hplace

theorem offers_iff (s : State) (e : QueueEntry) :
    s.offers e = true ↔ (s.member.state = .inStep ∨ s.member.state = .isolated) ∧ s.inh.asserted = false
      ∧ (e.eff = 0 ∨ s.member.discord = false ∧ s.group.quorum ≤ s.presentPeers + 1) ∧ s.engineOpen e.ch = true
      ∧ s.engine.waiting = none ∧ (s.chan e.ch).release = .none ∧ s.precheck e.ch = .admitted := by
  simp [offers, offerable, and_assoc]

theorem engineOpen_iff (s : State) (c : Chan) :
    s.engineOpen c = true ↔ ∀ r, s.engine.running = some r → (s.cfg c).urgency < (s.cfg r.ch).urgency := by
  unfold engineOpen
  split
  · next h => simp [h]
  · next r h => simp [h]

end State

open State

/-- Settles O37: what a source built its frame on still holds at the end of the step, which only a break's evaluation can
follow. -/
theorem claimRenewAndShedCallBeginOnlyWhereTheyMay : Obligations.ClaimRenewAndShedCallBeginOnlyWhereTheyMay := by
  refine ⟨fun c s t x p hx h ht hf => ?_, fun c s t x p hx h ht hf => ?_, fun c s t x p hx h ht hf => ?_⟩
  all_goals
    obtain ⟨w, u, src, f, hbegun, -, rfl⟩ := begins_of_exec hx h ht
    have hsends : w.bus.tx.isSome = true := by rw [hbegun.tx]; rfl
    have hbuilt := hbegun.built
    rw [finish_bus_of_sending hsends, hbegun.tx] at ht
    cases ht
    dsimp only at hf
    subst hf
  · obtain ⟨eff, rfl⟩ := source_of_claim hbuilt
    obtain ⟨e, rest, he, hst, heff, hoff, hp, hu⟩ := buildClaim_some hbuilt
    cases hp
    have hw : w.claimsHead (u.claimFor e) eff := by
      rw [hbegun.eq]
      show ((u.buildClaim eff).1.beginFrame _ _).claimsHead _ _
      rw [hu]
      refine ⟨decide_eq_true rfl, { e with offered := some (u.claimSeqOf e) },
        rest.map fun x => if x.ch = e.ch then { x with offered := some (u.claimSeqOf e) } else x, ?_, rfl, heff, rfl, hst,
        (offers_congr rfl rfl).trans hoff⟩
      show u.queue.entries.map _ = _
      rw [he, List.map_cons, if_pos rfl]
    obtain ⟨-, e', rest', he', hch', heff', hoffered, hst', hoff'⟩ := claimsHead_finish hw
    obtain ⟨hstate, hinh, hquorum, hopen, hwait, hrel, hpre⟩ := (offers_iff _ _).mp hoff'
    rw [hch'] at hopen hrel hpre
    rw [heff'] at hquorum
    obtain ⟨-, -, hloader, -⟩ := hbegun.keeps
    have hcfg : w.finish.cfg e.ch = u.cfg e.ch := cfg_of_loader (by simpa using hloader) e.ch
    refine ⟨hstate, hinh, hquorum, (engineOpen_iff _ _).mp hopen, hwait, hrel, ?_, ?_, e', rest', he', hch', heff',
      hoffered, hst'⟩
    · unfold precheck at hpre
      rwa [show w.finish.cfg (u.claimFor e).ch = u.cfg e.ch from hcfg] at hpre
    · rw [show w.finish.cfg (u.claimFor e).ch = u.cfg e.ch from hcfg]
      exact ⟨rfl, rfl, rfl, rfl, rfl⟩
  · obtain rfl := source_of_renew hbuilt
    obtain ⟨d, hd, hp⟩ := Option.map_eq_some_iff.mp hbuilt
    cases hp
    obtain ⟨hstarts, hmember, hloader, -, -, heng⟩ := hbegun.keeps
    have hsame (a : Chan) : w.finish.renewalDue a = u.renewalDue a ∧ (w.finish.chan a).seq = (u.chan a).seq
        ∧ (w.finish.chan a).renewals = (u.chan a).renewals := by
      have hchan : w.chan a = u.chan a := by rw [hbegun.eq]; rfl
      obtain ⟨-, -, -, -, hseq, hren, -⟩ := fields_of_sameButOffer (finish_same w a)
      rw [hchan] at hseq hren
      exact ⟨renewalDue_congr (by simpa using heng) (by simpa using hstarts) (by simp [own, hloader]) hseq hren, hseq, hren⟩
    obtain ⟨hdue, hfirst⟩ := firstChan_some hd
    obtain ⟨hdued, hseqd, hrend⟩ := hsame d
    obtain ⟨htracked, hlt, hex, q, e, hq, he, hrem⟩ := (renewalDue_iff _ _).mp (hdued.trans hdue)
    have hseq : (u.chan d).seq.getD 0 = q := by rw [← hseqd, hq]; rfl
    refine ⟨rfl, htracked, by rw [hq, ← hseq], hlt, ?_, hex, ⟨e, by rw [← he, ← hseq], hrem⟩, fun a ha => ?_⟩
    · rw [hrend] at hlt ⊢
      show (Fin.ofNat 16 _).val = _
      exact Nat.mod_eq_of_lt (by omega)
    · rw [(hsame a).1]
      exact hfirst a ha
  · obtain rfl := source_of_shedCall hbuilt
    obtain ⟨e, rest, q, he, hst, hneed, hp, ⟨k, hk, hkc, hkq⟩, hentries, hchans⟩ := buildShedCall_some hbuilt
    cases hp
    have hcaller : (u.build .shedCall).1.shedCaller .shedCall = some e.ch := by
      show (u.buildShedCall.1.queue.entries.head?).map _ = _
      rw [hentries, he]
      rfl
    have hw : w.callsHead e.ch (Fin.ofNat 2048 (u.shortfall (u.cfg e.ch).draw.val).toNat) q := by
      rw [hbegun.eq]
      show (u.buildShedCall.1.beginFrame _ _).callsHead _ _ _
      have hqueue := u.buildShedCall_queue
      generalize u.buildShedCall.1.queue = queue at hqueue hk hentries
      rw [hqueue]
      exact ⟨e, rest, hentries.trans he, rfl, hst, hneed, rfl, k, hk, hkc, hkq⟩
    obtain ⟨e', rest', he', hch', hst', hneed', hshort, k', hk', hkc', hkq'⟩ := callsHead_finish hsends hw
    obtain ⟨hurg, hcalled, hoffable, hpre, hlow, hhigh, hset⟩ := (shedNeedOf_iff _ _).mp hneed'
    rw [hch'] at hurg hpre hlow hhigh hset
    have hval : ((Fin.ofNat 2048 (w.finish.shortfall (w.finish.cfg e.ch).draw.val).toNat).val : Int)
        = w.finish.shortfall (w.finish.cfg e.ch).draw.val := by
      show (((w.finish.shortfall (w.finish.cfg e.ch).draw.val).toNat % 2048 : Nat) : Int) = _
      omega
    rw [← hshort] at hval
    rw [hcaller]
    dsimp only
    rw [← hch'] at hst'
    refine ⟨rfl, rfl, ?_, e', rest', he', by rw [hch'], hst', by rw [hch']; exact hurg, hcalled, hoffable,
      by rw [hch']; exact hpre, ?_, ?_, k', hk', by rw [hch']; exact hkc', hkq'⟩
    · omega
    · rw [hval, hch']
      rfl
    · rwa [show (Fin.ofNat 2048 (u.shortfall (u.cfg e.ch).draw.val).toNat).val
        = (w.finish.shortfall (w.finish.cfg e.ch).draw.val).toNat by omega]

end Sys2Proof.Machine
end

section
/-! The formats of Chapter 12 (R148-R151, R154, R181, R182; O4, O5). -/

namespace Sys2Proof.Machine

open Sys2Proof

/-! ## Fields of bytes -/

theorem field_byteOf (n lo w : Nat) : field (byteOf n) lo w = n % 256 / 2 ^ lo % 2 ^ w := by
  simp [field, byteOf]

theorem toNat_byteOf (n : Nat) : (byteOf n).toNat = n % 256 := by
  simp [byteOf]

theorem ofNat_eq_of_val {n : Nat} [NeZero n] {x : Fin n} {m : Nat} (h : m = x.val) : Fin.ofNat n m = x := by
  subst h
  exact Fin.ofNat_val_eq_self x

theorem bit_lt (b : Bool) : bit b < 2 := by
  cases b <;> decide

theorem flag_eq_of_field {b : Byte} {i : Nat} {x : Bool} (h : field b i 1 = bit x) : flag b i = x := by
  unfold flag
  rw [h]
  cases x <;> decide

theorem wordOf_wordBytes (w : BitVec 16) : wordOf (byteOf (w.toNat / 256)) (byteOf (w.toNat % 256)) = w := by
  apply BitVec.eq_of_toNat_eq
  have := w.isLt
  simp only [wordOf, toNat_byteOf, BitVec.toNat_ofNat]
  omega

theorem claim_readsBack (p : ClaimPayload) : readPayload 1 (framePayload (.claim p)) = some (.claim p) := by
  obtain ⟨ch, seq, urgency, sheddable, inrush, draw, hold⟩ := p
  have hch := ch.isLt
  have hurg := urgency.isLt
  have hshed := bit_lt sheddable
  have hinrush := inrush.isLt
  have hdraw := draw.isLt
  have hhold := hold.isLt
  simp only [framePayload, readPayload, Option.some.injEq, Frame.claim.injEq, ClaimPayload.mk.injEq, true_and]
  refine ⟨ofNat_eq_of_val ?_, ofNat_eq_of_val ?_, flag_eq_of_field ?_, ofNat_eq_of_val ?_, ofNat_eq_of_val ?_,
    ofNat_eq_of_val ?_⟩
  all_goals
    simp only [field_byteOf, toNat_byteOf]
    omega

theorem renew_readsBack (p : RenewPayload) : readPayload 2 (framePayload (.renew p)) = some (.renew p) := by
  obtain ⟨ch, seq, count⟩ := p
  have hch := ch.isLt
  have hcount := count.isLt
  simp only [framePayload, readPayload, Option.some.injEq, Frame.renew.injEq, RenewPayload.mk.injEq, true_and]
  refine ⟨ofNat_eq_of_val ?_, ofNat_eq_of_val ?_⟩
  all_goals
    simp only [field_byteOf]
    omega

theorem settled_readsBack (p : SettledPayload) : readPayload 3 (framePayload (.settled p)) = some (.settled p) := by
  obtain ⟨ch, seq⟩ := p
  have hch := ch.isLt
  simp only [framePayload, readPayload, Option.some.injEq, Frame.settled.injEq, SettledPayload.mk.injEq, and_true]
  refine ofNat_eq_of_val ?_
  all_goals
    simp only [field_byteOf]
    omega

theorem abandoned_readsBack (p : AbandonedPayload) : readPayload 4 (framePayload (.abandoned p)) = some (.abandoned p) := by
  obtain ⟨ch, seq, reason⟩ := p
  have hch := ch.isLt
  have hreason := reason.isLt
  simp only [framePayload, readPayload, Option.some.injEq, Frame.abandoned.injEq, AbandonedPayload.mk.injEq, true_and]
  refine ⟨ofNat_eq_of_val ?_, ofNat_eq_of_val ?_⟩
  all_goals
    simp only [field_byteOf]
    omega

theorem stopped_readsBack (p : StoppedPayload) : readPayload 5 (framePayload (.stopped p)) = some (.stopped p) := by
  obtain ⟨ch, reason⟩ := p
  have hch := ch.isLt
  have hreason := reason.isLt
  simp only [framePayload, readPayload, Option.some.injEq, Frame.stopped.injEq, StoppedPayload.mk.injEq]
  refine ⟨ofNat_eq_of_val ?_, ofNat_eq_of_val ?_⟩
  all_goals
    simp only [field_byteOf]
    omega

theorem expire_readsBack (p : ExpirePayload) : readPayload 6 (framePayload (.expire p)) = some (.expire p) := by
  obtain ⟨owner, ch, seq⟩ := p
  have howner := owner.isLt
  have hch := ch.isLt
  simp only [framePayload, readPayload, Option.some.injEq, Frame.expire.injEq, ExpirePayload.mk.injEq, and_true]
  refine ⟨ofNat_eq_of_val ?_, ofNat_eq_of_val ?_⟩
  all_goals
    simp only [field_byteOf]
    omega

theorem shedCall_readsBack (p : ShedCallPayload) : readPayload 7 (framePayload (.shedCall p)) = some (.shedCall p) := by
  obtain ⟨callerUrgency, shortfall, callSeq⟩ := p
  have hcallerUrgency := callerUrgency.isLt
  have hshortfall := shortfall.isLt
  simp only [framePayload, readPayload, Option.some.injEq, Frame.shedCall.injEq, ShedCallPayload.mk.injEq, and_true]
  refine ⟨ofNat_eq_of_val ?_, ofNat_eq_of_val ?_⟩
  all_goals
    simp only [field_byteOf, toNat_byteOf]
    omega

theorem hello_readsBack (p : HelloPayload) : readPayload 8 (framePayload (.hello p)) = some (.hello p) := by
  obtain ⟨digest, startKind, outages⟩ := p
  have hstart := startKind.isLt
  have houtages := outages.isLt
  simp only [framePayload, wordBytes, List.cons_append, List.nil_append, readPayload, wordOf_wordBytes, Option.some.injEq,
    Frame.hello.injEq, HelloPayload.mk.injEq, true_and]
  refine ⟨ofNat_eq_of_val ?_, ofNat_eq_of_val ?_⟩
  all_goals
    simp only [field_byteOf, toNat_byteOf]
    omega

theorem presence_readsBack (p : PresencePayload) : readPayload 9 (framePayload (.presence p)) = some (.presence p) := by
  obtain ⟨mstate, draws, starts, digest⟩ := p
  have hmstate := mstate.isLt
  have hdraws := draws.isLt
  have hstarts := starts.isLt
  simp only [framePayload, wordBytes, List.cons_append, List.nil_append, readPayload, wordOf_wordBytes, Option.some.injEq,
    Frame.presence.injEq, PresencePayload.mk.injEq, and_true]
  refine ⟨ofNat_eq_of_val ?_, ofNat_eq_of_val ?_, ofNat_eq_of_val ?_⟩
  all_goals
    simp only [field_byteOf]
    omega

theorem recount_readsBack (p : RecountPayload) : readPayload 11 (framePayload (.recount p)) = some (.recount p) := by
  obtain ⟨isDraw, ch, urgency, sheddable, inrush, draw, renewals, hold, seq⟩ := p
  have hdrawn := bit_lt isDraw
  have hch := ch.isLt
  have hurg := urgency.isLt
  have hshed := bit_lt sheddable
  have hinrush := inrush.isLt
  have hdraw := draw.isLt
  have hrenewals := renewals.isLt
  have hhold := hold.isLt
  simp only [framePayload, readPayload, Option.some.injEq, Frame.recount.injEq, RecountPayload.mk.injEq, and_true]
  refine ⟨flag_eq_of_field ?_, ofNat_eq_of_val ?_, ofNat_eq_of_val ?_, flag_eq_of_field ?_, ofNat_eq_of_val ?_,
    ofNat_eq_of_val ?_, ofNat_eq_of_val ?_, ofNat_eq_of_val ?_⟩
  all_goals
    simp only [field_byteOf, toNat_byteOf]
    omega

theorem inquire_readsBack (p : InquirePayload) : readPayload 14 (framePayload (.inquire p)) = some (.inquire p) := by
  obtain ⟨target, selector, index⟩ := p
  have htarget := target.isLt
  have hselector := selector.isLt
  have hindex := index.isLt
  simp only [framePayload, readPayload, Option.some.injEq, Frame.inquire.injEq, InquirePayload.mk.injEq]
  refine ⟨ofNat_eq_of_val ?_, ofNat_eq_of_val ?_, ofNat_eq_of_val ?_⟩
  all_goals
    simp only [field_byteOf, toNat_byteOf]
    omega

theorem answer_readsBack (p : AnswerPayload) (h : p.record.length ≤ 7) :
    readPayload 15 (framePayload (.answer p)) = some (.answer p) := by
  obtain ⟨selector, status, index, record⟩ := p
  have hselector := selector.isLt
  have hstatus := status.isLt
  have hindex := index.isLt
  simp only [framePayload, readPayload, if_pos h, Option.some.injEq, Frame.answer.injEq, AnswerPayload.mk.injEq, and_true]
  refine ⟨ofNat_eq_of_val ?_, ofNat_eq_of_val ?_, ofNat_eq_of_val ?_⟩
  all_goals
    simp only [field_byteOf, toNat_byteOf]
    omega

/-- A payload of one byte that holds one number in its low bits. -/
theorem lowField_readsBack {n : Nat} [NeZero n] (x : Fin n) (w : Nat) (hn : n = 2 ^ w) (hw : n ≤ 256) :
    Fin.ofNat n (field (byteOf x.val) 0 w) = x := by
  have hx := x.isLt
  refine ofNat_eq_of_val ?_
  rw [field_byteOf, pow_zero, Nat.div_one, Nat.mod_eq_of_lt (by omega), Nat.mod_eq_of_lt (by omega)]

/-- Settles O4, kind by kind. -/
theorem payloadReadsBack : Obligations.PayloadReadsBack := by
  intro f hwf
  cases f with
  | claim p => exact claim_readsBack p
  | renew p => exact renew_readsBack p
  | settled p => exact settled_readsBack p
  | abandoned p => exact abandoned_readsBack p
  | stopped p => exact stopped_readsBack p
  | expire p => exact expire_readsBack p
  | shedCall p => exact shedCall_readsBack p
  | hello p => exact hello_readsBack p
  | presence p => exact presence_readsBack p
  | syncReq a => exact congrArg (fun x => some (Frame.syncReq x)) (lowField_readsBack a 5 rfl (by decide))
  | recount p => exact recount_readsBack p
  | recountEnd n => exact congrArg (fun x => some (Frame.recountEnd x)) (lowField_readsBack n 3 rfl (by decide))
  | absent a => exact congrArg (fun x => some (Frame.absent x)) (lowField_readsBack a 5 rfl (by decide))
  | inquire p => exact inquire_readsBack p
  | answer p => exact answer_readsBack p (by simpa [Frame.wf] using hwf)

/-! ## Bits and slots -/

theorem length_bitsOf (w n : Nat) : (bitsOf w n).length = w := by
  induction w with
  | zero => rfl
  | succ w ih => rw [bitsOf, List.length_cons, ih]

theorem foldl_bits (bits : List Bool) (m : Nat) :
    bits.foldl (fun n b => 2 * n + cond b 1 0) m = m * 2 ^ bits.length + natOfBits bits := by
  induction bits generalizing m with
  | nil => simp [natOfBits]
  | cons b bs ih =>
    have hb : natOfBits (b :: bs) = (2 * 0 + cond b 1 0) * 2 ^ bs.length + natOfBits bs := ih _
    rw [List.foldl_cons, ih, hb, List.length_cons, pow_succ]
    ring

theorem natOfBits_cons (b : Bool) (bits : List Bool) :
    natOfBits (b :: bits) = cond b 1 0 * 2 ^ bits.length + natOfBits bits := by
  rw [natOfBits, List.foldl_cons, foldl_bits]
  simp

/-- A number's bits spell the number again. -/
theorem natOfBits_bitsOf (w n : Nat) : natOfBits (bitsOf w n) = n % 2 ^ w := by
  induction w with
  | zero => simp [bitsOf, natOfBits, Nat.mod_one]
  | succ w ih =>
    rw [bitsOf, natOfBits_cons, length_bitsOf, ih, pow_succ, Nat.mod_mul]
    rcases Nat.mod_two_eq_zero_or_one (n / 2 ^ w) with h | h
    · simp [h]
    · simp [h, Nat.add_comm]

/-- The bytes' bits, with more bits behind, spell the bytes again. -/
theorem bytesOfBits_flatMap (bytes : List Byte) (rest : List Bool) :
    bytesOfBits bytes.length ((bytes.flatMap fun b => bitsOf 8 b.toNat) ++ rest) = bytes := by
  induction bytes with
  | nil => rfl
  | cons b bs ih =>
    have hlen : (bitsOf 8 b.toNat).length = 8 := length_bitsOf 8 _
    rw [List.length_cons, bytesOfBits, List.flatMap_cons, List.append_assoc, List.take_left' hlen, List.drop_left' hlen, ih,
      natOfBits_bitsOf]
    congr 1
    apply BitVec.eq_of_toNat_eq
    have := b.isLt
    rw [toNat_byteOf]
    omega

theorem slotTime_cases (code : Nat) :
    slotTime code = 100000 ∨ slotTime code = 50000 ∨ slotTime code = 20000 ∨ slotTime code = 10000 := by
  unfold slotTime
  split_ifs <;> simp

theorem readSlot_driveSlot (code : Nat) (b : Bool) : readSlot (slotTime code) (driveSlot (slotTime code) b) = some b := by
  have ht := slotTime_cases code
  generalize slotTime code = t at ht
  unfold readSlot driveSlot
  dsimp only
  rw [if_pos (by omega)]
  cases b with
  | true => exact if_pos (by simp only [if_true]; omega)
  | false =>
    simp only [Bool.false_eq_true, if_false]
    rw [if_neg (by omega), if_pos (by omega)]

theorem readSlots_driveSlot (code : Nat) (bits : List Bool) :
    readSlots (slotTime code) (bits.map (driveSlot (slotTime code))) = some bits := by
  induction bits with
  | nil => rfl
  | cons b bs ih =>
    rw [List.map_cons, readSlots, readSlot_driveSlot, ih]

theorem length_framePayload (f : Frame) (h : f.wf = true) : (framePayload f).length ≤ 10 := by
  cases f with
  | answer p =>
    have hlen : p.record.length ≤ 7 := by simpa [Frame.wf] using h
    simp only [framePayload, List.length_cons]
    omega
  | _ => simp [framePayload, wordBytes]

theorem frameKind_lt (f : Frame) : frameKind f < 16 := by
  cases f <;> simp [frameKind]

theorem length_flatMap_bits (bytes : List Byte) : (bytes.flatMap fun b => bitsOf 8 b.toNat).length = 8 * bytes.length := by
  induction bytes with
  | nil => rfl
  | cons b bs ih =>
    rw [List.flatMap_cons, List.length_append, length_bitsOf, ih, List.length_cons]
    omega

theorem length_coveredBits (u : Urg) (a : Addr) (f : Frame) :
    (coveredBits u a f).length = 16 + 8 * (framePayload f).length := by
  simp only [coveredBits, List.length_append, length_bitsOf, length_flatMap_bits]

/-- The fields before the payload of a frame's slots, by their places (R151). -/
theorem slots_split {l x y z w r : List Bool} (h : l = x ++ (y ++ (z ++ (w ++ r)))) (hx : x.length = 3)
    (hy : y.length = 5) (hz : z.length = 4) (hw : w.length = 4) :
    (l.drop 3).take 5 = y ∧ (l.drop 8).take 4 = z ∧ (l.drop 12).take 4 = w ∧ l.drop 16 = r := by
  have h3 : l.drop 3 = y ++ (z ++ (w ++ r)) := by rw [h, List.drop_left' hx]
  have h8 : l.drop 8 = z ++ (w ++ r) := by rw [← List.drop_drop (i := 5) (j := 3), h3, List.drop_left' hy]
  have h12 : l.drop 12 = w ++ r := by rw [← List.drop_drop (i := 4) (j := 8), h8, List.drop_left' hz]
  refine ⟨?_, ?_, ?_, ?_⟩
  · rw [h3, List.take_left' hy]
  · rw [h8, List.take_left' hz]
  · rw [h12, List.take_left' hw]
  · rw [← List.drop_drop (i := 4) (j := 12), h12, List.drop_left' hw]

/-- The slots of a good frame read back (R151, R154, R181). -/
theorem readBits_frameBits (u : Urg) {a : Addr} (ha : a ≠ 0) {f : Frame} (hwf : f.wf = true) :
    readBits (frameBits u a f) = some (a, f) := by
  have hlen := length_framePayload f hwf
  have hcov := length_coveredBits u a f
  have hbytes := bytesOfBits_flatMap (framePayload f) (bitsOf 8 (crc8 (coveredBits u a f)).toNat)
  have hcheck : (frameBits u a f).drop (16 + 8 * (framePayload f).length) = bitsOf 8 (crc8 (coveredBits u a f)).toNat :=
    List.drop_left' hcov
  have htake : (frameBits u a f).take (16 + 8 * (framePayload f).length) = coveredBits u a f := List.take_left' hcov
  have hall : (frameBits u a f).length = 24 + 8 * (framePayload f).length := by
    rw [frameBits, List.length_append, hcov, length_bitsOf]
    omega
  have heq : frameBits u a f = bitsOf 3 u.val ++ (bitsOf 5 a.val ++ (bitsOf 4 (frameKind f)
      ++ (bitsOf 4 (framePayload f).length ++ (((framePayload f).flatMap fun b => bitsOf 8 b.toNat)
        ++ bitsOf 8 (crc8 (coveredBits u a f)).toNat)))) := by
    simp [frameBits, coveredBits]
  obtain ⟨h3, h8, h12, h16⟩ := slots_split heq (length_bitsOf 3 _) (length_bitsOf 5 _) (length_bitsOf 4 _) (length_bitsOf 4 _)
  have hkind := frameKind_lt f
  have hsender : Fin.ofNat 32 (natOfBits (((frameBits u a f).drop 3).take 5)) = a := by
    rw [h3, natOfBits_bitsOf]
    exact ofNat_eq_of_val (Nat.mod_eq_of_lt a.isLt)
  have hk : natOfBits (((frameBits u a f).drop 8).take 4) = frameKind f := by
    rw [h8, natOfBits_bitsOf]
    omega
  have hn : natOfBits (((frameBits u a f).drop 12).take 4) = (framePayload f).length := by
    rw [h12, natOfBits_bitsOf]
    omega
  have hcrc : (crc8 (coveredBits u a f)).toNat
      = natOfBits ((bitsOf 8 (crc8 (coveredBits u a f)).toNat).take 8) := by
    rw [List.take_of_length_le (by rw [length_bitsOf]), natOfBits_bitsOf]
    exact (Nat.mod_eq_of_lt (BitVec.isLt _)).symm
  unfold readBits
  simp only [hsender, hk, hn, htake, hcheck]
  rw [if_pos ⟨hall, hlen, ha, hcrc⟩, h16, hbytes, payloadReadsBack f hwf]

/-- Settles O5: every slot reads as it was driven, and the slots spell the frame. -/
theorem drivenFrameReadsBack : Obligations.DrivenFrameReadsBack := by
  intro code u a f hwf ha
  have hbreak : breakLegal (slotTime code) (driveFrame (slotTime code) u a f) = true := by
    refine decide_eq_true ?_
    show 5 * slotTime code ≤ 6 * slotTime code ∧ 6 * slotTime code ≤ 7 * slotTime code
      ∧ slotTime code ≤ 2 * slotTime code ∧ slotTime code ≤ 2 * slotTime code
    omega
  unfold readFrame
  rw [if_pos hbreak]
  show (match readSlots (slotTime code) ((frameBits u a f).map (driveSlot (slotTime code))) with
    | some bits => readBits bits
    | none => none) = _
  rw [readSlots_driveSlot]
  exact readBits_frameBits u ha hwf

end Sys2Proof.Machine
end

section
/-! The records that ANSWER carries (R176, R177, R184, Table 12.5; O29). -/

namespace Sys2Proof.Machine

open Sys2Proof

/-! ## Bytes of a record -/

@[simp] theorem byteAt_zero (b : Byte) (bs : List Byte) : byteAt (b :: bs) 0 = b := rfl

@[simp] theorem byteAt_succ (b : Byte) (bs : List Byte) (i : Nat) : byteAt (b :: bs) (i + 1) = byteAt bs i := rfl

theorem recordField_byteOf {r : List Byte} {i n : Nat} (h : byteAt r i = byteOf n) (lo w : Nat) :
    recordField r i lo w = n % 256 / 2 ^ lo % 2 ^ w := by
  rw [recordField, h, field_byteOf]

theorem recordWord_of_bytes {r : List Byte} {i : Nat} {w : BitVec 16} (hhi : byteAt r i = byteOf (w.toNat / 256))
    (hlo : byteAt r (i + 1) = byteOf (w.toNat % 256)) : recordWord r i = w := by
  rw [recordWord, hhi, hlo, wordOf_wordBytes]

namespace State

theorem stationRecord_says (s : State) : stationSays s (stationRecord s) := by
  have hm := s.member.state.code.isLt
  have hd := bit_lt s.member.discord
  have hk := s.history.startKind.code.isLt
  have hout := s.retention.outages.isLt
  have h0 := recordField_byteOf (r := stationRecord s) (i := 0) rfl
  have h1 := recordField_byteOf (r := stationRecord s) (i := 1) rfl
  have h2 := recordField_byteOf (r := stationRecord s) (i := 2) rfl
  have h3 := recordField_byteOf (r := stationRecord s) (i := 3) rfl
  have h4 := recordField_byteOf (r := stationRecord s) (i := 4) rfl
  have hkind : s.history.startKind.code.val ≤ 2 := by cases s.history.startKind <;> decide
  simp only [stationSays, h0, h1, h2, h3, h4]
  omega

end State

theorem startRecord_says (e : StartEntry) : startSays e (startRecord e) := by
  have howner := e.owner.isLt
  have hch := e.ch.isLt
  have hurg := e.urgency.isLt
  have hshed := bit_lt e.sheddable
  have hexp := bit_lt e.expirePending
  have hunc := bit_lt e.unconfirmed
  have hren := e.renewals.isLt
  have hinrush := e.inrush.isLt
  have hdraw := e.draw.isLt
  have hhold := e.holdLimit.isLt
  have h0 := recordField_byteOf (r := startRecord e) (i := 0) rfl
  have h2 := recordField_byteOf (r := startRecord e) (i := 2) rfl
  have h3 := recordField_byteOf (r := startRecord e) (i := 3) rfl
  have h4 := recordField_byteOf (r := startRecord e) (i := 4) rfl
  have h5 := recordField_byteOf (r := startRecord e) (i := 5) rfl
  have h6 := recordField_byteOf (r := startRecord e) (i := 6) rfl
  have hseq : byteAt (startRecord e) 1 = e.seq := rfl
  simp only [startSays, h0, h2, h3, h4, h5, h6, hseq, StartEntry.limitMs, eq_self, true_and]
  omega

theorem drawRecord_says (slot : Option DrawSlot) : drawSays slot (drawRecord slot) := by
  refine ⟨fun h => by rw [h]; rfl, ?_⟩
  rintro d rfl
  have hmarked := bit_lt d.shed.isSome
  have hunc := bit_lt d.unconfirmed
  have hshed := bit_lt d.sheddable
  have hurg := d.urgency.isLt
  have hdraw := d.draw.isLt
  have h0 := recordField_byteOf (r := drawRecord (some d)) (i := 0) rfl
  have h1 := recordField_byteOf (r := drawRecord (some d)) (i := 1) rfl
  have h2 := recordField_byteOf (r := drawRecord (some d)) (i := 2) rfl
  simp only [h0, h1, h2]
  refine ⟨by omega, by omega, by omega, by omega, by omega, by omega, by omega, by omega, ?_, fun m hm => ?_, fun hm => ?_⟩
  · cases hm : d.shed with
    | none => rfl
    | some m => have := m.caller.isLt; dsimp only; omega
  · have hcaller := m.caller.isLt
    rw [hm]
    refine ⟨by dsimp only; omega, ?_⟩
    show (match d.shed with | some m => m.callSeq | none => 0) = _
    rw [hm]
  · rw [hm]
    refine ⟨by rfl, ?_⟩
    show (match d.shed with | some m => m.callSeq | none => 0) = _
    rw [hm]

theorem faultRecord_says (f : FaultRecord) : faultSays f (faultRecord f) := by
  have hkind : f.kind.code < 16 := by cases f.kind <;> decide
  have hc := bit_lt f.ch.isSome
  have hs := bit_lt f.step.isSome
  have hch := (f.ch.getD 0).isLt
  have hpeer := (f.peer.getD 0).isLt
  have h0 := recordField_byteOf (r := faultRecord f) (i := 0) rfl
  have h1 := recordField_byteOf (r := faultRecord f) (i := 1) rfl
  have h2 := recordField_byteOf (r := faultRecord f) (i := 2) rfl
  have hnumber : recordWord (faultRecord f) 3 = f.number := recordWord_of_bytes rfl rfl
  simp only [faultSays, h0, h1, h2, hnumber]
  refine ⟨by omega, by omega, by omega, by omega, fun hstep => ?_, ?_, fun k hk => ?_, trivial⟩
  · have hlt : f.step.getD 0 ≤ 7 := by
      cases hf : f.step with
      | none => decide
      | some j => exact hstep j hf
    omega
  · cases f.startKind with
    | none => rfl
    | some k => have := k.code.isLt; dsimp only; omega
  · have := k.code.isLt
    rw [hk]
    dsimp only
    omega

/-- The start kind field of a ROSTER record; 3 where it is unknown. -/
def startKindField (x : RosterSlot) : Nat := (x.startKind.map (·.code.val)).getD 3

/-- The reported membership state field of a ROSTER record; 7 where it is unknown. -/
def reportedField (x : RosterSlot) : Nat := (x.reported.map (·.code.val)).getD 7

theorem rosterRecord_byte0 (x : RosterSlot) :
    byteAt (rosterRecord x) 0 = byteOf (x.state.code * 64 + bit x.suspect * 32 + bit x.owed * 16 + bit x.absentPending * 8
      + bit x.digest.isSome * 4 + startKindField x) := by
  obtain ⟨state, lastHeard, digest, startKind, rest⟩ := x
  cases startKind <;> rfl

theorem rosterRecord_byte4 (x : RosterSlot) :
    byteAt (rosterRecord x) 4
      = byteOf (reportedField x * 32 + bit x.repStarts.isSome * 16 + (x.repDraws.getD 0).val) := by
  obtain ⟨state, lastHeard, digest, startKind, outages, reported, rest⟩ := x
  cases reported <;> rfl

theorem rosterRecord_byte5 (x : RosterSlot) :
    byteAt (rosterRecord x) 5 = byteOf ((x.repStarts.map (·.val)).getD 255) := by
  obtain ⟨state, lastHeard, digest, startKind, outages, reported, repStarts, rest⟩ := x
  cases repStarts <;> rfl

theorem startKindField_lt (x : RosterSlot) : startKindField x < 4 := by
  unfold startKindField
  cases x.startKind with
  | none => decide
  | some k => exact k.code.isLt

theorem reportedField_lt (x : RosterSlot) : reportedField x < 8 := by
  unfold reportedField
  cases x.reported with
  | none => decide
  | some m => exact m.code.isLt

theorem rosterRecord_says (x : RosterSlot) : rosterSays x (rosterRecord x) := by
  have hstate : x.state.code < 4 := by cases x.state <;> decide
  have hsus := bit_lt x.suspect
  have howed := bit_lt x.owed
  have habs := bit_lt x.absentPending
  have hdig := bit_lt x.digest.isSome
  have hreps := bit_lt x.repStarts.isSome
  have hdraws := (x.repDraws.getD 0).isLt
  have hout := (x.outages.getD 0).isLt
  have hkind := startKindField_lt x
  have hrep := reportedField_lt x
  have h0 := recordField_byteOf (rosterRecord_byte0 x)
  have h3 := recordField_byteOf (r := rosterRecord x) (i := 3) rfl
  have h4 := recordField_byteOf (rosterRecord_byte4 x)
  have h5 := recordField_byteOf (rosterRecord_byte5 x)
  have hdigest : recordWord (rosterRecord x) 1 = x.digest.getD 0 := recordWord_of_bytes rfl rfl
  simp only [rosterSays, h0, h3, h4, h5, hdigest]
  refine ⟨by omega, by omega, by omega, by omega, by omega, fun k hk => ?_, fun hk => ?_, trivial, fun m hm => ?_,
    fun hm => ?_, by omega, by omega, by omega, fun n hn => ?_, fun hn => ?_⟩
  · have hfield : startKindField x = k.code.val := by rw [startKindField, hk]; rfl
    have hsome : x.startKind.isSome = true := by rw [hk]; rfl
    rw [if_pos hsome]
    omega
  · have hfield : startKindField x = 3 := by rw [startKindField, hk]; rfl
    have hnone : ¬x.startKind.isSome = true := by rw [hk]; decide
    rw [if_neg hnone]
    omega
  · have hfield : reportedField x = m.code.val := by rw [reportedField, hm]; rfl
    omega
  · have hfield : reportedField x = 7 := by rw [reportedField, hm]; rfl
    omega
  · have hlt := n.isLt
    rw [hn, Option.map_some, Option.getD_some]
    omega
  · rw [hn]
    rfl

/-- A counter is read from its place (R163). -/
theorem counterBytes_word (n : Nat) : recordWord (counterBytes n) 0 = BitVec.ofNat 16 n :=
  recordWord_of_bytes rfl rfl

theorem linkRecord_says (b : Bus) (i : Nat) : linkSays b i (linkRecord b i) := by
  refine ⟨fun n hn => ?_, ?_⟩
  · have hlt : i < 10 := by
      by_contra hge
      rw [List.getElem?_eq_none (by simpa using hge)] at hn
      cases hn
    have hrecord : linkRecord b i = counterBytes n := by
      interval_cases i
      all_goals
        cases hn
        rfl
    rw [hrecord, counterBytes_word]
  · rintro rfl
    have hdeg := bit_lt b.degraded
    have h0 := recordField_byteOf (r := linkRecord b 10) (i := 0) rfl
    have h1 := recordField_byteOf (r := linkRecord b 10) (i := 1) rfl
    simp only [h0, h1]
    omega

theorem flag_eq_getLsbD (x : BitVec 8) (i : Nat) : flag x i = x.getLsbD i := by
  rw [flag, field, BitVec.getLsbD, Nat.testBit_eq_decide_div_mod_eq, pow_one]

theorem historyRecord_says (s : State) (c : Chan) : historySays s c (historyRecord s c) := by
  have h1 := recordField_byteOf (r := historyRecord s c) (i := 1) rfl
  refine ⟨fun i hi => ?_, fun hfill => ?_⟩
  · have hlt : i < 8 := List.mem_range.mp hi
    show flag (s.retention.samples.get c) (7 - i) = _
    rw [flag_eq_getLsbD, BitVec.getMsbD_eq_getLsbD]
    simp [hlt]
  · rw [h1]
    omega

theorem reportedStep_of_placed {s : State} {c : Chan} (h : (s.chan c).state = .starting ∨ (s.chan c).state = .suspended) :
    reportedStep s c = s.startStep c := by
  unfold reportedStep
  rcases h with h | h <;> rw [h]

theorem reportedStep_of_not_placed {s : State} {c : Chan}
    (h : ¬((s.chan c).state = .starting ∨ (s.chan c).state = .suspended)) : reportedStep s c = none := by
  unfold reportedStep
  split
  · next hst => exact absurd (.inl hst) h
  · next hst => exact absurd (.inr hst) h
  all_goals rfl

theorem kindCode_lt (r : Release) : r.kindCode < 4 := by
  cases r <;> simp [Release.kindCode]

theorem reasonCode_lt (r : Release) : r.reasonCode < 16 := by
  cases r with
  | none | settled => decide
  | abandoned w | stopped w => exact w.code.isLt

/-- The present bit and the effective urgency of a CHANNEL record's queue fields; 0 without an entry. -/
def queuedField (s : State) (c : Chan) : Nat := ((reportedEntry s c).map fun e => 128 + e.eff.val).getD 0

/-- The enqueue stamp of a CHANNEL record; 0 without an entry. -/
def queuedStamp (s : State) (c : Chan) : Nat := ((reportedEntry s c).map (·.stamp)).getD 0

theorem channelRecord_entry (s : State) (c : Chan) : byteAt (channelRecord s c) 4 = byteOf (queuedField s c) := by
  unfold channelRecord queuedField
  cases reportedEntry s c <;> rfl

theorem channelRecord_stamp (s : State) (c : Chan) :
    byteAt (channelRecord s c) 5 = byteOf ((BitVec.ofNat 16 (queuedStamp s c)).toNat / 256)
      ∧ byteAt (channelRecord s c) 6 = byteOf ((BitVec.ofNat 16 (queuedStamp s c)).toNat % 256) := by
  unfold channelRecord queuedStamp
  cases reportedEntry s c <;> exact ⟨rfl, rfl⟩

theorem channelRecord_says (s : State) (c : Chan) : channelSays s c (channelRecord s c) := by
  have hstate : (s.chan c).state.code < 16 := by cases (s.chan c).state <;> decide
  have hlatch := bit_lt (s.chan c).latch
  have hmark := bit_lt (s.chan c).mark
  have hsw := bit_lt (s.chan c).settleWithdrawn
  have hdeb := bit_lt (s.chan c).debounced
  have hkind := kindCode_lt (s.chan c).release
  have hreason := reasonCode_lt (s.chan c).release
  have hpre := bit_lt (s.chan c).pre
  have hmain := bit_lt (s.chan c).main
  have hseq := bit_lt (s.chan c).seq.isSome
  have hren := (s.chan c).renewals.isLt
  have hstep := bit_lt (reportedStep s c).isSome
  have h0 := recordField_byteOf (r := channelRecord s c) (i := 0) rfl
  have h1 := recordField_byteOf (r := channelRecord s c) (i := 1) rfl
  have h3 := recordField_byteOf (r := channelRecord s c) (i := 3) rfl
  have hword : recordWord (channelRecord s c) 5 = BitVec.ofNat 16 (queuedStamp s c) :=
    recordWord_of_bytes (channelRecord_stamp s c).1 (channelRecord_stamp s c).2
  refine ⟨by rw [h0]; omega, by rw [h0]; omega, by rw [h0]; omega, by rw [h0]; omega, by rw [h0]; omega,
    by rw [h1]; omega, by rw [h1]; omega, by rw [h1]; omega, by rw [h1]; omega, rfl, fun hj => ?_, fun e hw he => ?_,
    fun hno => ?_⟩
  · rw [h3, h3, h3, h3, h3]
    by_cases hp : (s.chan c).state = .starting ∨ (s.chan c).state = .suspended
    · have hlt : (s.startStep c).getD 0 ≤ 7 := by
        cases hst : s.startStep c with
        | none => decide
        | some j => exact hj j hst
      rw [reportedStep_of_placed hp] at hstep ⊢
      rw [decide_eq_true hp, Bool.true_and, if_pos rfl]
      omega
    · rw [reportedStep_of_not_placed hp] at hstep ⊢
      rw [decide_eq_false hp, Bool.false_and, if_neg (by decide)]
      have hclear : bit false = 0 := rfl
      simp only [Option.isSome_none, Option.getD_none, hclear]
      omega
  · have hentry : reportedEntry s c = some e := by
      rw [reportedEntry, if_pos (by simpa using hw), he]
    have heff := e.eff.isLt
    have h4 := recordField_byteOf (channelRecord_entry s c)
    rw [hword, h4, h4, h4, queuedField, queuedStamp, hentry]
    simp only [Option.map_some, Option.getD_some]
    exact ⟨by omega, by omega, by omega, trivial⟩
  · have hentry : reportedEntry s c = none := by
      unfold reportedEntry
      split
      · next hw =>
        rcases hno with hno | hno
        · exact absurd hw (by simpa using hno)
        · exact hno
      · rfl
    rw [hword, channelRecord_entry, queuedField, queuedStamp, hentry]
    exact ⟨rfl, rfl⟩

theorem recordCodes_hold : recordCodes :=
  ⟨rfl, rfl, rfl, rfl, fun _ => ⟨rfl, rfl⟩, rfl, rfl⟩

/-! ## Which records there are -/

/-- What a record of the selector holds, where the index names one (R177). -/
def named (s : State) (selector : Fin 16) (index : Fin 256) : Prop :=
  selector = 1 ∧ index.val = 0
    ∨ selector = 2 ∧ 1 ≤ index.val ∧ index.val ≤ 30 ∧ index.val ≠ s.own.val
    ∨ selector = 3 ∧ index.val < s.starts.length
    ∨ selector = 4 ∧ 4 ≤ index.val ∧ index.val ≤ 123
    ∨ selector = 5 ∧ index.val ≤ 3
    ∨ selector = 6 ∧ index.val ≤ 3
    ∨ selector = 7 ∧ index.val < s.faults.records.length
    ∨ selector = 8 ∧ index.val ≤ 10

/-- The number of bytes of a selector's record (Table 11.2). -/
def recordLength (selector : Fin 16) : Nat :=
  if selector = 1 then 5 else if selector = 2 then 6 else if selector = 3 then 7 else if selector = 4 then 4
  else if selector = 5 then 7 else if selector = 6 then 2 else if selector = 7 then 5 else 2

theorem length_drawRecord (slot : Option DrawSlot) : (drawRecord slot).length = 4 := by
  cases slot <;> rfl

theorem length_linkRecord (b : Bus) {i : Nat} (h : i ≤ 10) : (linkRecord b i).length = 2 := by
  interval_cases i <;> rfl

/-- The record of each selector, where its index names one. -/
theorem recordOf_named {s : State} {selector : Fin 16} {index : Fin 256} (h : named s selector index) :
    ∃ r, recordOf s selector index = some r ∧ recordSays s selector.val index.val r ∧ r.length = recordLength selector := by
  rcases h with ⟨rfl, h⟩ | ⟨rfl, h⟩ | ⟨rfl, h⟩ | ⟨rfl, h⟩ | ⟨rfl, h⟩ | ⟨rfl, h⟩ | ⟨rfl, h⟩ | ⟨rfl, h⟩
  · exact ⟨stationRecord s, if_pos (Fin.ext h), by simp [recordSays, State.stationRecord_says], rfl⟩
  · exact ⟨_, if_pos h, by simp [recordSays, rosterRecord_says], rfl⟩
  · have hget : s.starts[index.val]? = some s.starts[index.val] := List.getElem?_eq_getElem h
    exact ⟨_, congrArg (Option.map startRecord) hget, by simp [recordSays, hget, startRecord_says], rfl⟩
  · exact ⟨_, if_pos h, by simp [recordSays, drawRecord_says], length_drawRecord _⟩
  · exact ⟨_, if_pos h, by simp [recordSays, channelRecord_says], rfl⟩
  · exact ⟨_, if_pos h, by simp [recordSays, historyRecord_says], rfl⟩
  · have hget : s.faults.records[index.val]? = some s.faults.records[index.val] := List.getElem?_eq_getElem h
    exact ⟨_, congrArg (Option.map faultRecord) hget, by simp [recordSays, hget, faultRecord_says], rfl⟩
  · exact ⟨_, if_pos h, by simp [recordSays, linkRecord_says], length_linkRecord _ h⟩

theorem recordOf_not_named {s : State} {selector : Fin 16} {index : Fin 256} (h : ¬named s selector index) :
    recordOf s selector index = none := by
  have hsel (n : Nat) (hn : selector.val = n) (hlt : n < 16) : selector = ⟨n, hlt⟩ := Fin.ext hn
  unfold recordOf
  split
  · next hv => exact if_neg fun hi => h (.inl ⟨hsel 1 hv (by decide), by rw [hi]; rfl⟩)
  · next hv => exact if_neg fun hi => h (.inr (.inl ⟨hsel 2 hv (by decide), hi⟩))
  · next hv =>
    have hout : s.starts.length ≤ index.val := by
      by_contra hlt
      exact h (.inr (.inr (.inl ⟨hsel 3 hv (by decide), by omega⟩)))
    rw [List.getElem?_eq_none hout]
    rfl
  · next hv => exact if_neg fun hi => h (.inr (.inr (.inr (.inl ⟨hsel 4 hv (by decide), hi⟩))))
  · next hv => exact if_neg fun hi => h (.inr (.inr (.inr (.inr (.inl ⟨hsel 5 hv (by decide), hi⟩)))))
  · next hv => exact if_neg fun hi => h (.inr (.inr (.inr (.inr (.inr (.inl ⟨hsel 6 hv (by decide), hi⟩))))))
  · next hv =>
    have hout : s.faults.records.length ≤ index.val := by
      by_contra hlt
      exact h (.inr (.inr (.inr (.inr (.inr (.inr (.inl ⟨hsel 7 hv (by decide), by omega⟩)))))))
    rw [List.getElem?_eq_none hout]
    rfl
  · next hv => exact if_neg fun hi => h (.inr (.inr (.inr (.inr (.inr (.inr (.inr ⟨hsel 8 hv (by decide), hi⟩)))))))
  · rfl

/-- Settles O29: each selector's record by its layout, and none elsewhere. -/
theorem answerNamesARecordOrNone : Obligations.AnswerNamesARecordOrNone := by
  refine ⟨recordCodes_hold, fun s p => ?_⟩
  intro a i names
  by_cases hn : named s p.selector p.index
  · obtain ⟨r, hr, hsays, hlen⟩ := recordOf_named hn
    have ha : a = { selector := p.selector, status := 0, index := p.index, record := r } := by
      show answerFrame s p = _
      unfold answerFrame
      rw [hr]
    rw [ha]
    exact ⟨rfl, rfl, fun _ => ⟨rfl, hsays, hlen⟩, fun hno => absurd hn hno⟩
  · have ha : a = { selector := p.selector, status := 1, index := p.index, record := [] } := by
      show answerFrame s p = _
      unfold answerFrame
      rw [recordOf_not_named hn]
    rw [ha]
    exact ⟨rfl, rfl, fun hyes => absurd hyes hn, fun _ => ⟨rfl, rfl⟩⟩

end Sys2Proof.Machine
end

section
/-!
The law of sampling (R123-R128): what an operation must leave for it, and that the operations of channels, queue, engine
and membership keep it.
-/

namespace Sys2Proof.Machine

open Sys2Proof

namespace State

/-! ## The law, with what a release leaves -/

/-- The marks are counted, sampling is released where it may be, and its timer runs; where sampling was held before the
step, the timer has a whole period. -/
structure MarksCounted (held : Bool) (s : State) : Prop where
  marks : s.history.marks = s.countMarks
  released : s.history.released = true ↔ s.history.joined = true ∧ s.history.marks = 0
  timer : s.history.released = true → s.history.sampleTimer.isSome = true
  period : held = true → s.history.released = true →
    s.history.sampleTimer = some (s.image.station.samplePeriod * 100)

/-- The law of sampling holds where the channels act, and sampling is held in HALTED. -/
structure Sampled (held : Bool) (s : State) : Prop where
  counted : s.live = true → MarksCounted held s
  halted : s.member.state = .halted → s.history.released = false

/-- What the law of sampling speaks of. -/
def samplingOf (s : State) : History × Power × Image × MState × (Chan → Bool) :=
  (s.history, s.power, s.image, s.member.state, s.markOf)

theorem countMarks_of_marks {s t : State} (h : t.markOf = s.markOf) : t.countMarks = s.countMarks := by
  have hlen (u : State) : u.countMarks = (allChans.filter u.markOf).length := rfl
  rw [hlen, hlen, h]

/-- An operation that changes nothing the law speaks of keeps it. -/
theorem Sampled.of_same {b : Bool} {s t : State} (h : s.Sampled b) (k : t.samplingOf = s.samplingOf) : t.Sampled b := by
  simp only [samplingOf, Prod.mk.injEq] at k
  obtain ⟨hh, hp, hi, hm, hmark⟩ := k
  refine ⟨fun hlive => ?_, by rw [hh, hm]; exact h.halted⟩
  obtain ⟨hmarks, hrel, htimer, hperiod⟩ := h.counted (by rwa [live_of_keeps hp hm] at hlive)
  have hcount := countMarks_of_marks hmark
  constructor <;> rw [hh]
  · rw [hcount]; exact hmarks
  · exact hrel
  · exact htimer
  · rw [hi]; exact hperiod

/-- Where the channels do not act the law only holds sampling in HALTED. -/
theorem Sampled.of_not_live {b : Bool} {s : State} (h : s.live = false)
    (k : s.member.state = .halted → s.history.released = false) : s.Sampled b :=
  ⟨fun hl => absurd (h.symm.trans hl) Bool.false_ne_true, k⟩

theorem markOf_of_channels {s t : State} (h : t.channels = s.channels) : t.markOf = s.markOf :=
  funext fun c => by rw [markOf, markOf, chan_of_channels h]

theorem markOf_modChan (s : State) (c : Chan) {f : Channel → Channel} (hf : ∀ k, (f k).mark = k.mark) :
    (s.modChan c f).markOf = s.markOf := by
  funext d
  rw [markOf, chan_modChan]
  split
  · next h => rw [hf, h]; rfl
  · rfl

theorem samplingOf_modChan (s : State) (c : Chan) {f : Channel → Channel} (hf : ∀ k, (f k).mark = k.mark) :
    (s.modChan c f).samplingOf = s.samplingOf := by
  have hmark := markOf_modChan s c hf
  simp [samplingOf, image, hmark]

/-- An operation that leaves the channels. -/
theorem samplingOf_of_channels {s t : State} (hc : t.channels = s.channels) (hh : t.history = s.history)
    (hp : t.power = s.power) (hl : t.loader = s.loader) (hm : t.member = s.member) : t.samplingOf = s.samplingOf := by
  simp [samplingOf, image, hh, hp, hl, hm, markOf_of_channels hc]

@[simp] theorem samplingOf_notify (s : State) : s.notify.samplingOf = s.samplingOf := rfl

@[simp] theorem samplingOf_log (s : State) (k : FaultKind) (c : Option Chan) (i : Option Nat) (a : Option Addr) :
    (s.log k c i a).samplingOf = s.samplingOf := rfl

@[simp] theorem samplingOf_enter (s : State) (c : Chan) (st : ChanState) : (s.enter c st).samplingOf = s.samplingOf :=
  samplingOf_modChan s c fun _ => rfl

@[simp] theorem samplingOf_outsOff (s : State) (c : Chan) : (s.outsOff c).samplingOf = s.samplingOf :=
  samplingOf_modChan s c fun _ => rfl

@[simp] theorem samplingOf_setRelease (s : State) (c : Chan) (r : Release) :
    (s.setRelease c r).samplingOf = s.samplingOf :=
  samplingOf_modChan s c (f := fun k => { k with release := r }) fun _ => rfl

@[simp] theorem samplingOf_clearRelease (s : State) (c : Chan) : (s.clearRelease c).samplingOf = s.samplingOf :=
  samplingOf_setRelease s c .none

@[simp] theorem samplingOf_writeSeq (s : State) (c : Chan) (q : Seq) : (s.writeSeq c q).samplingOf = s.samplingOf :=
  samplingOf_modChan s c fun _ => rfl

@[simp] theorem samplingOf_replaceSettled (s : State) (c : Chan) (r : Release) :
    (s.replaceSettled c r).samplingOf = s.samplingOf :=
  calc (s.replaceSettled c r).samplingOf
      = ((s.setRelease c r).modChan c fun k => { k with settleWithdrawn := false }).samplingOf := rfl
    _ = (s.setRelease c r).samplingOf := samplingOf_modChan _ c fun _ => rfl
    _ = s.samplingOf := samplingOf_setRelease s c r

@[simp] theorem samplingOf_settleEnded (s : State) (c : Chan) : (s.settleEnded c).samplingOf = s.samplingOf := by
  unfold settleEnded
  split <;> simp

@[simp] theorem samplingOf_join (s : State) (c : Chan) : (s.join c).samplingOf = s.samplingOf := by
  rw [join_eq]
  exact samplingOf_enter s c .queued

@[simp] theorem samplingOf_joinAll (l : List Chan) (s : State) : (s.joinAll l).samplingOf = s.samplingOf := by
  induction l generalizing s with
  | nil => rfl
  | cons c cs ih => rw [joinAll, ih, samplingOf_join]

@[simp] theorem samplingOf_leave (s : State) (c : Chan) : (s.leave c).samplingOf = s.samplingOf := rfl

@[simp] theorem samplingOf_requeue (s : State) (c : Chan) : (s.requeue c).samplingOf = s.samplingOf :=
  samplingOf_enter s c .queued

@[simp] theorem samplingOf_modEntry (s : State) (c : Chan) (f : QueueEntry → QueueEntry) :
    (s.modEntry c f).samplingOf = s.samplingOf := rfl

@[simp] theorem samplingOf_deferredJoin (s : State) (c : Chan) : (s.deferredJoin c).samplingOf = s.samplingOf := by
  unfold deferredJoin
  split <;> simp

@[simp] theorem samplingOf_abortAll (s : State) (rel : Option Release) : (s.abortAll rel).samplingOf = s.samplingOf := by
  have hchan (u : State) (c : Chan) : (u.abortChan rel c).samplingOf = u.samplingOf := by
    unfold abortChan
    repeat' split
    all_goals simp
  have hfold (l : List Chan) (u : State) : (l.foldl (fun s c => s.abortChan rel c) u).samplingOf = u.samplingOf := by
    induction l generalizing u with
    | nil => rfl
    | cons c cs ih => rw [List.foldl_cons, ih, hchan]
  rw [abortAll_eq, samplingOf_notify, samplingOf_joinAll]
  exact hfold allChans s

/-! ## The release of sampling -/

/-- Sampling is judged where the marks are counted and a release before is in order. -/
theorem Sampled.judge {b : Bool} {s : State} (k : s.member.state = .halted → s.history.released = false)
    (h : s.live = true → s.history.marks = s.countMarks
      ∧ (s.history.released = true → s.history.joined = true ∧ s.history.marks = 0)
      ∧ (s.history.released = true → s.history.sampleTimer.isSome = true)
      ∧ (b = true → s.history.released = true →
        s.history.sampleTimer = some (s.image.station.samplePeriod * 100))) : s.judgeSampling.Sampled b := by
  unfold judgeSampling
  split
  · next hc =>
    simp only [Bool.and_eq_true, decide_eq_true_eq] at hc
    obtain ⟨⟨⟨hlive, hjoined⟩, hzero⟩, -⟩ := hc
    obtain ⟨hmarks, -, -, -⟩ := h hlive
    refine ⟨fun _ => ⟨hmarks, iff_of_true rfl ⟨hjoined, hzero⟩, fun _ => rfl, fun _ _ => rfl⟩, fun hm => ?_⟩
    exact absurd ((live_of_state (.inr hm)).symm.trans hlive) Bool.false_ne_true
  · next hc =>
    refine ⟨fun hlive => ?_, k⟩
    obtain ⟨hmarks, hrel, htimer, hperiod⟩ := h hlive
    simp only [hlive, Bool.true_and, Bool.and_eq_true, decide_eq_true_eq, Bool.not_eq_true', not_and,
      Bool.not_eq_false] at hc
    exact ⟨hmarks, ⟨hrel, fun hj => hc hj⟩, htimer, hperiod⟩

/-- One mark less is set where a mark is cleared. -/
theorem countMarks_clear {s : State} {c : Chan} (h : (s.chan c).mark = true) :
    s.countMarks = (s.modChan c fun k => { k with mark := false }).countMarks + 1 := by
  have hmem : c ∈ allChans.filter s.markOf := List.mem_filter.mpr ⟨mem_allChans c, h⟩
  have hcleared : allChans.filter (s.modChan c fun k => { k with mark := false }).markOf
      = (allChans.filter s.markOf).erase c := by
    rw [List.Nodup.erase_eq_filter (allChans_nodup.filter _), List.filter_filter]
    refine List.filter_congr fun d _ => ?_
    rw [markOf, chan_modChan]
    split
    · next hd => simp [hd]
    · next hd => simp [hd, markOf]
  have hlen (u : State) : u.countMarks = (allChans.filter u.markOf).length := rfl
  rw [hlen, hlen, hcleared, List.length_erase_of_mem hmem]
  have hpos := List.length_pos_of_mem hmem
  omega

theorem Sampled.clearMark {b : Bool} {s : State} (h : s.Sampled b) (c : Chan) : (s.clearMark c).Sampled b := by
  unfold State.clearMark
  split
  · next hm =>
    refine Sampled.judge h.halted fun hlive => ?_
    obtain ⟨hmarks, hrel, htimer, hperiod⟩ := h.counted hlive
    have hcount := countMarks_clear hm
    have hheld : s.history.released = false := by
      by_contra hr
      rw [Bool.not_eq_false] at hr
      have hzero := (hrel.mp hr).2
      omega
    refine ⟨?_, fun hr => ?_, fun hr => ?_, fun _ hr => ?_⟩
    · show s.history.marks - 1 = (s.modChan c fun k => { k with mark := false }).countMarks
      omega
    all_goals exact absurd (hheld.symm.trans hr) Bool.false_ne_true
  · exact h

/-! ## Engine -/

theorem Sampled.ended {b : Bool} {s : State} (h : s.Sampled b) (c : Chan) (e : StepsEnd) : (s.ended c e).Sampled b := by
  cases e with
  | waits => exact h.of_same rfl
  | completes =>
    refine h.of_same ?_
    show ((s.enter c .settling).setRelease c .settled).samplingOf = s.samplingOf
    simp
  | fails =>
    refine Sampled.of_same (s := (((s.outsOff c).setRelease c (.abandoned .recipeFailed)).enter c .faulted).clearMark c) ?_ rfl
    exact (h.of_same (by simp)).clearMark c

theorem Sampled.takeSteps {b : Bool} {s : State} (h : s.Sampled b) (c : Chan) (i : Nat) :
    (s.takeSteps c i).Sampled b := by
  rw [takeSteps_eq]
  refine Sampled.ended (h.of_same ?_) c _
  exact samplingOf_modChan s c fun _ => rfl

theorem Sampled.beginStart {b : Bool} {s : State} (h : s.Sampled b) (c : Chan) : (s.beginStart c).Sampled b :=
  Sampled.takeSteps (h.of_same (samplingOf_enter s c _)) c 0

theorem Sampled.resume {b : Bool} {s : State} (h : s.Sampled b) (r : Context) : (s.resume r).Sampled b := by
  have hrest : ((restored s r).enter r.ch .starting).Sampled b := by
    refine h.of_same ?_
    rw [samplingOf_enter]
    unfold restored
    split
    · exact samplingOf_modChan s r.ch fun _ => rfl
    · rfl
  have hcases := s.resume_cases r
  generalize s.resume r = t at hcases ⊢
  cases hcases with
  | waits left => exact hrest.of_same rfl
  | steps i => exact hrest.takeSteps r.ch i
  | fails => exact hrest.ended r.ch (.fails r.next)

theorem Sampled.freeLoop {b : Bool} (n : Nat) {s : State} (h : s.Sampled b) : (freeLoop n s).Sampled b := by
  induction n generalizing s with
  | zero => exact h
  | succ n ih =>
    unfold State.freeLoop
    split
    · exact h
    · split
      · next c _ => exact ih (Sampled.beginStart (s := { s with engine.waiting := none }) (h.of_same rfl) c)
      · split
        · next r rest _ => exact ih (Sampled.resume (s := { s with engine.stack := rest }) (h.of_same rfl) r)
        · exact h

theorem Sampled.freeEngine {b : Bool} {s : State} (h : s.Sampled b) : s.freeEngine.Sampled b := by
  unfold State.freeEngine
  split
  · exact h
  · exact (h.freeLoop 5).of_same rfl

theorem Sampled.suspend {b : Bool} {s : State} (h : s.Sampled b) (c : Chan) (i : Nat) (l : Option Nat) :
    (s.suspend c i l).Sampled b := by
  refine h.of_same ?_
  rw [suspend_eq]
  dsimp only
  split
  · exact (samplingOf_enter (s.outsOff c) c _).trans (samplingOf_outsOff s c)
  · exact samplingOf_enter s c _

theorem Sampled.stepCompletes {b : Bool} {s : State} (h : s.Sampled b) (r : RunSlot) : (s.stepCompletes r).Sampled b := by
  unfold State.stepCompletes
  split
  · split
    · exact (h.suspend _ _ _).freeEngine
    · exact (h.takeSteps _ _).freeEngine
  · exact (h.ended r.ch .completes).freeEngine

theorem Sampled.stepFails {b : Bool} {s : State} (h : s.Sampled b) (r : RunSlot) : (s.stepFails r).Sampled b :=
  (h.ended r.ch (.fails r.step)).freeEngine

theorem Sampled.placeStart {b : Bool} {s : State} (h : s.Sampled b) (c : Chan) : (s.placeStart c).Sampled b := by
  have hcleared : (s.renewalsCleared c).Sampled b := h.of_same rfl
  have hwait : ({ (s.renewalsCleared c).enter c .pending with engine.waiting := some c } : State).notify.Sampled b :=
    Sampled.of_same (s := (s.renewalsCleared c).enter c .pending) (hcleared.of_same (samplingOf_enter _ c _)) rfl
  unfold State.placeStart
  dsimp only
  split
  · exact (hcleared.beginStart c).freeEngine.of_same rfl
  · split
    · split
      · exact ((hcleared.suspend _ _ _).beginStart c).freeEngine.of_same rfl
      · exact hwait
    · exact hwait

theorem Sampled.removeStart {b : Bool} {s : State} (h : s.Sampled b) (c : Chan) : (s.removeStart c).Sampled b := by
  have hcleared : (s.renewalsCleared c).Sampled b := h.of_same rfl
  unfold State.removeStart
  dsimp only
  split
  · split
    · exact hcleared.of_same rfl
    · split
      · split
        · exact Sampled.freeEngine (s := (s.renewalsCleared c).idled) (hcleared.of_same rfl)
        · exact hcleared.of_same rfl
      · exact hcleared.of_same rfl
  · exact h

/-! ## Channels -/

theorem Sampled.cutStart {b : Bool} {s : State} (h : s.Sampled b) (c : Chan) (r : Release) :
    (((s.outsOff c).removeStart c).setRelease c r).Sampled b :=
  Sampled.of_same ((h.of_same (samplingOf_outsOff s c)).removeStart c) (samplingOf_setRelease _ c r)

theorem Sampled.abortStart {b : Bool} {s : State} (h : s.Sampled b) (c : Chan) (r : Release) (k : FaultKind)
    (a : Option Addr) : (s.abortStart c r k a).Sampled b :=
  (h.cutStart c r).of_same (by simp [State.abortStart])

theorem Sampled.ownHoldOut {b : Bool} {s : State} (h : s.Sampled b) (c : Chan) (q : Seq) :
    (s.ownHoldOut c q).Sampled b := by
  unfold State.ownHoldOut
  split
  · exact h.abortStart _ _ _ _
  · exact h

theorem Sampled.latchOff {b : Bool} {s : State} (h : s.Sampled b) (c : Chan) : (s.latchOff c).Sampled b :=
  Sampled.clearMark (h.of_same (samplingOf_modChan s c (f := fun k => { k with latch := false }) fun _ => rfl)) c

theorem samplingOf_claimTakenBack (s : State) (c : Chan) : (s.claimTakenBack c).samplingOf = s.samplingOf := by
  unfold claimTakenBack
  split <;> rfl

theorem Sampled.demandOff {b : Bool} {s : State} (h : s.Sampled b) (c : Chan) : (s.demandOff c).Sampled b := by
  have hoff := h.latchOff c
  have hmod (u : State) (f : Channel → Channel) (hf : ∀ k, (f k).mark = k.mark) := samplingOf_modChan u c hf
  rw [demandOff_eq]
  generalize s.latchOff c = u at hoff ⊢
  split
  · exact hoff.of_same (by simp)
  · exact hoff.of_same (by simp [samplingOf_claimTakenBack])
  iterate 3 exact (hoff.cutStart c _).of_same (samplingOf_enter _ c _)
  · split
    · exact hoff.of_same (by rw [hmod]; simp; exact fun _ => rfl)
    · exact hoff.of_same (by simp)
  · exact hoff.of_same (by rw [hmod]; simp; exact fun _ => rfl)
  · exact hoff.of_same (by rw [hmod]; simp; exact fun _ => rfl)
  · exact hoff.of_same (by simp)
  · exact hoff
  · exact hoff

theorem Sampled.demandOn {b : Bool} {s : State} (h : s.Sampled b) (c : Chan) : (s.demandOn c).Sampled b := by
  have hl : (s.modChan c fun k => { k with latch := true }).Sampled b := h.of_same (samplingOf_modChan s c fun _ => rfl)
  unfold State.demandOn
  dsimp only
  split
  · exact hl.of_same (samplingOf_join _ c)
  · exact hl

theorem Sampled.debounced {b : Bool} {s : State} (h : s.Sampled b) (c : Chan) : (s.debounced c).Sampled b := by
  have hm : (s.modChan c fun k => { k with debounceTimer := none, debounced := s.pins.req.get c }).Sampled b :=
    h.of_same (samplingOf_modChan s c fun _ => rfl)
  unfold State.debounced
  dsimp only
  split
  · exact hm
  · rw [writeLatch_eq]
    split
    · exact hm
    · split
      · exact hm.demandOn c
      · exact hm.demandOff c

theorem Sampled.startAdmitted {b : Bool} {s : State} (h : s.Sampled b) (c : Chan) (q : Seq) :
    (s.startAdmitted c q).Sampled b := by
  have hw : ((s.writeSeq c q).leave c).Sampled b := h.of_same (by simp)
  unfold State.startAdmitted
  dsimp only
  split
  · exact ((hw.placeStart c).cutStart c _).of_same (samplingOf_join _ c)
  · exact hw.placeStart c

theorem samplingOf_verdictCounted (s : State) (v : Judgement) : (s.verdictCounted v).samplingOf = s.samplingOf := by
  unfold verdictCounted
  dsimp only
  split <;> rfl

theorem Sampled.claimVerdict {b : Bool} {s : State} (h : s.Sampled b) (t : TxFrame) (p : ClaimPayload) (v : Judgement) :
    (s.claimVerdict t p v).Sampled b := by
  have hc : (s.verdictCounted v).Sampled b := h.of_same (samplingOf_verdictCounted s v)
  rw [claimVerdict_eq]
  split
  · unfold verdictTaken
    split
    · split
      · exact hc.of_same (by simp)
      · exact hc.of_same (by simp)
    · split
      · exact hc.startAdmitted _ _
      · split
        · exact hc.of_same (by simp)
        · exact hc.of_same (by simp)
  · exact hc

theorem Sampled.enterOn {b : Bool} {s : State} (h : s.Sampled b) (c : Chan) : (s.enterOn c).Sampled b := by
  have hon : (((s.clearRelease c).enter c .on).clearMark c).Sampled b := Sampled.clearMark (h.of_same (by simp)) c
  unfold State.enterOn
  dsimp only
  split
  · exact hon.of_same (samplingOf_modChan _ c fun _ => rfl)
  · exact hon

theorem Sampled.ownSettled {b : Bool} {s : State} (h : s.Sampled b) (c : Chan) : (s.ownSettled c).Sampled b := by
  unfold State.ownSettled
  split
  · exact h.of_same (by simp)
  · split
    · exact h.enterOn c
    · exact h.of_same (by simp)

theorem Sampled.ownEntryExpired {b : Bool} {s : State} (h : s.Sampled b) (c : Chan) (q : Seq) (a : Addr) :
    (s.ownEntryExpired c q a).Sampled b := by
  unfold State.ownEntryExpired
  split
  · split
    iterate 3 exact h.abortStart _ _ _ _
    · exact h.of_same (by simp [settleExpired])
    all_goals
      split
      · exact h.of_same (by simp)
      all_goals exact h
  · exact h

theorem samplingOf_shedChannel (s : State) (c : Chan) : (s.shedChannel c).samplingOf = s.samplingOf := by
  unfold shedChannel
  dsimp only
  split
  · rw [samplingOf_modChan]
    · simp
    · exact fun _ => rfl
  · rfl

theorem samplingOf_ownShed (s : State) (l : List Nat) : (s.ownShed l).samplingOf = s.samplingOf := by
  have hfold (l : List Chan) (u : State) : (l.foldl (fun s c => s.shedChannel c) u).samplingOf = u.samplingOf := by
    induction l generalizing u with
    | nil => rfl
    | cons c cs ih => rw [List.foldl_cons, ih, samplingOf_shedChannel]
  unfold ownShed
  split
  · exact hfold _ s
  · rfl

theorem Sampled.senseLost {b : Bool} {s : State} (h : s.Sampled b) (c : Chan) : (s.senseLost c).Sampled b := by
  unfold State.senseLost
  dsimp only
  refine Sampled.of_same (Sampled.clearMark (h.of_same ?_) c) (samplingOf_log _ _ _ _ _)
  rw [samplingOf_modChan]
  · simp
  · exact fun _ => rfl

theorem samplingOf_inhibit (s : State) : s.inhibit.samplingOf = s.samplingOf := by
  have hfold (l : List Chan) (u : State) : (l.foldl (fun s c => s.withdrawIdleClaim c) u).samplingOf = u.samplingOf := by
    induction l generalizing u with
    | nil => rfl
    | cons c cs ih =>
      rw [List.foldl_cons, ih]
      unfold withdrawIdleClaim
      split <;> simp
  have hw : s.claimsWithdrawn.samplingOf = s.samplingOf := hfold allChans _
  rw [inhibit_eq]
  split
  · exact hw
  · rw [samplingOf_abortAll, hw]

theorem Sampled.senseAwait {b : Bool} {s : State} (h : s.Sampled b) (c : Chan) (level : Bool) :
    (s.senseAwait c level).Sampled b := by
  unfold State.senseAwait
  split
  · repeat' split
    · exact h.stepCompletes _
    all_goals exact h
  · exact h

end State

end Sys2Proof.Machine
end

section
/-! Every command keeps the law of sampling (R123-R128): frames, membership, loading, supplies. -/

namespace Sys2Proof.Machine

open Sys2Proof

namespace State

/-! ## Membership -/

/-- An operation that leaves the channels, and the membership state. -/
theorem samplingOf_of_state {s t : State} (hc : t.channels = s.channels) (hh : t.history = s.history)
    (hp : t.power = s.power) (hl : t.loader = s.loader) (hm : t.member.state = s.member.state) :
    t.samplingOf = s.samplingOf := by
  simp [samplingOf, image, hh, hp, hl, hm, markOf_of_channels hc]

/-- An operation that changes the membership state of a station that applies frames keeps the law. -/
theorem Sampled.of_applies {b : Bool} {s t : State} (h : s.Sampled b) (ha : s.member.state.applies = true)
    (hn : t.member.state ≠ .halted) (hc : t.channels = s.channels) (hh : t.history = s.history)
    (hp : t.power = s.power) (hl : t.loader = s.loader) : t.Sampled b := by
  refine ⟨fun hlive => ?_, fun hm => absurd hm hn⟩
  have hs : s.live = true := by
    simp only [live, operating, hp, Bool.and_eq_true] at hlive ⊢
    exact ⟨⟨hlive.1.1, ha⟩, hlive.2⟩
  obtain ⟨hmarks, hrel, htimer, hperiod⟩ := h.counted hs
  have hcount : t.countMarks = s.countMarks := countMarks_of_marks (markOf_of_channels hc)
  have himage : t.image = s.image := by simp [image, hl]
  constructor <;> rw [hh]
  · rw [hcount]; exact hmarks
  · exact hrel
  · exact htimer
  · rw [himage]; exact hperiod

theorem Sampled.judgeIsolated {b : Bool} {s : State} (h : s.Sampled b) : s.judgeIsolated.Sampled b := by
  unfold State.judgeIsolated
  split
  · next hc => exact h.of_applies (by rw [hc.1]; rfl) (by simp) (by simp) (by simp) (by simp) (by simp)
  · exact h

/-- A station that applies frames and joins: its sampling is judged. -/
theorem Sampled.enterInStep {b : Bool} {s : State} (h : s.Sampled b) (ha : s.member.state.applies = true) :
    s.enterInStep.Sampled b := by
  have hjudged : s.steppedIn.judgeSampling.Sampled b := by
    have hset : (s.setMState .inStep).Sampled b :=
      h.of_applies ha (by simp) (by simp) (by simp) (by simp) (by simp)
    refine Sampled.judge hset.halted fun hlive => ?_
    obtain ⟨hmarks, hrel, htimer, hperiod⟩ := hset.counted hlive
    exact ⟨hmarks, fun hr => ⟨rfl, (hrel.mp hr).2⟩, htimer, hperiod⟩
  rw [enterInStep_eq]
  refine Sampled.judgeIsolated ?_
  exact hjudged.of_same rfl

theorem Sampled.enterSyncing {b : Bool} {s : State} (h : s.Sampled b) (ha : s.member.state.applies = true)
    (r : OwnRequest) : (s.enterSyncing r).Sampled b := by
  refine h.of_applies ha (by rw [enterSyncing_state]; decide) ?_ ?_ ?_ ?_ <;> simp [enterSyncing_eq, syncEntered]

theorem applies_of_mayLeave {s : State} (h : s.mayLeaveSyncing = true) : s.member.state.applies = true := by
  unfold mayLeaveSyncing at h
  simp only [Bool.and_eq_true, decide_eq_true_eq] at h
  obtain ⟨⟨⟨hst, -⟩, -⟩, -⟩ := h
  rw [hst]
  rfl

theorem Sampled.judgeExit {b : Bool} {s : State} (h : s.Sampled b) : s.judgeExit.Sampled b := by
  unfold State.judgeExit
  split
  · next hm => exact h.enterInStep (applies_of_mayLeave hm)
  · exact h

theorem applies_of_joinedUp {x : MState} (h : x.joinedUp = true) : x.applies = true := by
  cases x <;> first | rfl | cases h

@[simp] theorem samplingOf_judgeDiscord (s : State) (a : Addr) : (s.judgeDiscord a).samplingOf = s.samplingOf :=
  samplingOf_of_state (by simp) (by simp) (by simp) (by simp) (judgeDiscord_state s a)

@[simp] theorem samplingOf_modPeer (s : State) (a : Addr) (f : RosterSlot → RosterSlot) :
    (s.modPeer a f).samplingOf = s.samplingOf := rfl

@[simp] theorem samplingOf_dropOwner (s : State) (a : Addr) (u : Bool) : (s.dropOwner a u).samplingOf = s.samplingOf :=
  samplingOf_of_channels (by simp) (by simp) (by simp) (by simp) (by simp)

theorem Sampled.hearPeer {b : Bool} {s : State} (h : s.Sampled b) (a : Addr) (hello : Bool) :
    (s.hearPeer a hello).Sampled b := by
  have hheard : (s.heardFrom a hello).Sampled b := by
    refine h.of_same ?_
    unfold heardFrom
    split
    · rfl
    · unfold peerJoins
      simp
      rfl
  rw [hearPeer_heardFrom]
  split
  · next hst => exact hheard.enterSyncing (by rw [hst]; rfl) .all
  · exact hheard

theorem Sampled.ownAccepted {b : Bool} {s : State} (h : s.Sampled b) (acked : Bool) : (s.ownAccepted acked).Sampled b := by
  unfold State.ownAccepted
  dsimp only
  split
  · exact h.of_same rfl
  · refine Sampled.judgeIsolated ?_
    exact h.of_same rfl

theorem Sampled.selfAbsent {b : Bool} {s : State} (h : s.Sampled b) (a : Addr) : (s.selfAbsent a).Sampled b := by
  have hclear : s.selfCleared.Sampled b := by
    refine h.of_same ?_
    unfold selfCleared
    dsimp only
    split <;> simp
  have hlog : (s.selfCleared.log .absentSelf none none (some a)).Sampled b := hclear.of_same (samplingOf_log _ _ _ _ _)
  rw [selfAbsent_eq]
  dsimp only
  split
  · next hj => exact hlog.enterSyncing (applies_of_joinedUp hj) _
  · exact hlog

theorem Sampled.peerAbsent {b : Bool} {s : State} (h : s.Sampled b) (a : Addr) : (s.peerAbsent a).Sampled b := by
  unfold State.peerAbsent
  dsimp only
  have hgone : (((s.dropOwner a false).modPeer a absentSlot).judgeDiscord a).judgeExit.Sampled b :=
    Sampled.judgeExit (h.of_same (by simp))
  split
  · exact h
  · split
    · exact hgone.of_same rfl
    · exact hgone

/-! ## Frames -/

theorem Sampled.atOwner {b : Bool} {s : State} (h : s.Sampled b) (own : Option TxFrame) {f : State → State}
    (hf : ∀ u : State, u.Sampled b → (f u).Sampled b) : (s.atOwner own f).Sampled b := by
  cases own with
  | none => exact h
  | some t =>
    unfold State.atOwner
    dsimp only
    split
    · exact hf s h
    · exact h

theorem Sampled.ownRenewed {b : Bool} {s : State} (h : s.Sampled b) (c : Chan) (n : Fin 16) (applied : Bool) :
    (s.ownRenewed c n applied).Sampled b := by
  have hvoids : ({ s with engine.renewVoids := s.engine.renewVoids.set c 0 } : State).Sampled b := h.of_same rfl
  unfold State.ownRenewed
  dsimp only
  split
  · have hcount := hvoids.of_same (samplingOf_modChan _ c (f := fun k => { k with renewals := Fin.ofNat 4 n.val }) fun _ => rfl)
    exact hcount.of_same rfl
  · exact hvoids

theorem samplingOf_claimVoided (s : State) (t : TxFrame) (c : Chan) : (s.claimVoided t c).samplingOf = s.samplingOf := by
  have hcount : (s.countClaimVoid c).samplingOf = s.samplingOf := by
    unfold countClaimVoid
    repeat' split
    all_goals simp
  unfold claimVoided claimEnded
  repeat' split
  all_goals simp [hcount]

theorem samplingOf_claimEnded (s : State) (t : TxFrame) (c : Chan) : (s.claimEnded t c).samplingOf = s.samplingOf := by
  unfold claimEnded
  repeat' split
  all_goals simp

theorem Sampled.recountStart {b : Bool} {s : State} (h : s.Sampled b) (a : Addr) (p : RecountPayload) :
    (s.recountStart a p).Sampled b := by
  have hrun (u : State) (hu : u.Sampled b) : (u.holdRecounted a p).Sampled b := by
    unfold holdRecounted
    split
    · unfold runOut
      split
      · refine Sampled.ownHoldOut ?_ _ _
        exact hu.of_same rfl
      · exact hu.of_same rfl
    · exact hu
  rw [recountStart_eq]
  split
  · exact h
  · split
    · refine hrun _ (h.of_same ?_)
      unfold recountReplaced
      split <;> rfl
    · split
      · exact hrun _ (h.of_same rfl)
      · exact h.of_same rfl

theorem Sampled.applyShedCall {b : Bool} {s : State} (h : s.Sampled b) (a : Addr) (p : ShedCallPayload)
    (own : Option TxFrame) : (Machine.applyShedCall a p own s).Sampled b := by
  have hend : (s.callEnded p own).Sampled b := by
    unfold callEnded
    split
    · exact h.of_same rfl
    · exact h
  rw [applyShedCall_eq]
  split
  · exact hend
  · have hmark : ((s.callEnded p own).slotsMarked a p).Sampled b := hend.of_same rfl
    have hshed : (((s.callEnded p own).slotsMarked a p).ownShed ((s.callEnded p own).shedNumbers p)).Sampled b :=
      hmark.of_same (samplingOf_ownShed _ _)
    have hnote : ((((s.callEnded p own).slotsMarked a p).ownShed ((s.callEnded p own).shedNumbers p)).marksNoticed
        ((s.callEnded p own).shedNumbers p)).Sampled b :=
      hshed.of_same (samplingOf_of_channels (by simp) (by simp) (by simp) (by simp) (by simp))
    unfold shedCalled
    cases own with
    | none => exact hnote
    | some t =>
      unfold callerTold callAnswered
      dsimp only
      split
      · exact hnote.of_same rfl
      · exact hnote.of_same rfl

theorem Sampled.applyHello {b : Bool} {s : State} (h : s.Sampled b) (a : Addr) (p : HelloPayload) (own : Option TxFrame) :
    (Machine.applyHello a p own s).Sampled b := by
  unfold Machine.applyHello
  dsimp only
  cases own with
  | some t => exact h.of_same (samplingOf_dropOwner s _ _)
  | none =>
    dsimp only
    refine Sampled.judgeExit (h.of_same ?_)
    split <;> simp

theorem Sampled.applySyncReq {b : Bool} {s : State} (h : s.Sampled b) (a : Addr) (own : Option TxFrame) :
    (Machine.applySyncReq a own s).Sampled b := by
  unfold Machine.applySyncReq
  dsimp only
  split
  · exact h
  · refine Sampled.judgeExit (h.of_same ?_)
    repeat' split
    all_goals exact samplingOf_of_state (by simp) (by simp) (by simp) (by simp) (by simp)

theorem Sampled.frameBody {b : Bool} {c : Instr} {rx : Rx} {f : Frame} {body : Option TxFrame → State → State}
    (hc : Machine.frameBody c = some (rx, f, body)) (own : Option TxFrame) {s : State} (h : s.Sampled b) :
    (body own s).Sampled b := by
  have hsame {t : State} (hch : t.channels = s.channels) (hh : t.history = s.history) (hp : t.power = s.power)
      (hl : t.loader = s.loader) (hm : t.member = s.member) : t.Sampled b :=
    h.of_same (samplingOf_of_channels hch hh hp hl hm)
  cases c with
  | claim rx p =>
    cases hc
    have htab : (s.claimTabled rx.sender p).Sampled b := hsame (by simp) (by simp) (by simp) (by simp) (by simp)
    rw [applyClaim_eq]
    cases own with
    | none => dsimp only; split <;> assumption
    | some t =>
      dsimp only
      split
      · split
        · exact h.of_same (samplingOf_claimVoided _ _ _)
        · exact h
      · exact htab.claimVerdict _ _ _
  | renew rx p =>
    cases hc
    rw [applyRenew_atOwner]
    refine Sampled.atOwner (s := s.modStarts _ _) (hsame rfl rfl rfl rfl rfl) own fun u hu => hu.ownRenewed _ _ _
  | settled rx p =>
    cases hc
    rw [applySettled_atOwner]
    exact Sampled.atOwner (s := s.settledMoved _ _) (hsame (by simp) (by simp) (by simp) (by simp) (by simp)) own
      fun u hu => hu.ownSettled _
  | abandoned rx p =>
    cases hc
    rw [applyAbandoned_atOwner]
    exact Sampled.atOwner (s := s.dropNamed _ _ _) (hsame (by simp) (by simp) (by simp) (by simp) (by simp)) own
      fun u hu => hu.of_same (samplingOf_clearRelease u _)
  | expire rx p =>
    cases hc
    have hd : (s.dropNamed p.owner p.ch p.seq).Sampled b := hsame (by simp) (by simp) (by simp) (by simp) (by simp)
    rw [applyExpire_eq]
    split
    · exact hd.ownEntryExpired _ _ _
    · exact hd
  | stopped rx p =>
    cases hc
    rw [applyStopped_atOwner]
    exact Sampled.atOwner (s := s.slotStopped _ _) (hsame (by simp) (by simp) (by simp) (by simp) (by simp)) own
      fun u hu => hu.of_same (samplingOf_clearRelease u _)
  | shedCall rx p => cases hc; exact h.applyShedCall _ _ _
  | recount rx p =>
    cases hc
    have hcount : (s.recountCounted rx.sender p.ch own).Sampled b :=
      h.of_same (samplingOf_of_state (by simp) (by simp) (by simp) (by simp) (by simp))
    rw [applyRecount_eq]
    split
    · refine hcount.of_same ?_
      rcases recountDraw_cases (s.recountCounted rx.sender p.ch own) rx.sender p with heq | heq <;> rw [heq] <;> rfl
    · exact hcount.recountStart _ _
  | absent rx a =>
    cases hc
    unfold applyAbsent
    split
    · exact h
    · split
      · exact h.selfAbsent _
      · exact h.peerAbsent _
  | hello rx p => cases hc; exact h.applyHello _ _ _
  | presence rx p =>
    cases hc
    unfold applyPresence
    cases own with
    | some => exact h.of_same rfl
    | none =>
      dsimp only
      refine h.of_same ?_
      split <;> simp
  | syncReq rx a => cases hc; exact h.applySyncReq _ _
  | recountEnd rx n =>
    cases hc
    unfold applyRecountEnd
    refine Sampled.judgeExit (h.of_same ?_)
    cases own <;> exact samplingOf_of_state (by simp) (by simp) (by simp) (by simp) (by simp)
  | inquire rx p =>
    cases hc
    unfold applyInquire
    dsimp only
    repeat' split
    all_goals exact h.of_same rfl
  | answer => cases hc; cases own <;> exact h.of_same rfl
  | toolFrameReject => cases hc; exact h
  | _ => cases hc

theorem samplingOf_ownLost (s : State) (t : TxFrame) : (s.ownLost t).samplingOf = s.samplingOf := by
  have hcut : ({ s.clearTx with bus.receiving := true } : State).samplingOf = s.samplingOf := rfl
  unfold ownLost
  dsimp only
  split
  · exact hcut
  · split
    · rw [samplingOf_claimEnded]; exact hcut
    · rw [samplingOf_settleEnded]; exact hcut
    all_goals exact hcut

theorem samplingOf_listens {s u : State} (h : s.listens u) : u.samplingOf = s.samplingOf := by
  rcases h with ⟨-, rfl⟩ | ⟨t, -, rfl⟩
  · rfl
  · exact samplingOf_ownLost (s.tally _) t

theorem samplingOf_yieldsLine (s : State) : s.yieldsLine.samplingOf = s.samplingOf := by
  unfold yieldsLine
  split
  · exact samplingOf_ownLost s _
  · rfl

theorem enterHalted_not_live (s : State) : s.enterHalted.live = false := live_of_state (.inr rfl)

theorem Sampled.meetClash {b : Bool} {s : State} (h : s.Sampled b) : s.meetClash.Sampled b := by
  rw [meetClash_eq]
  dsimp only
  split
  · exact .of_not_live (enterHalted_not_live _) fun _ => rfl
  · exact (h.of_same (samplingOf_yieldsLine s)).of_same rfl

theorem Sampled.receives {b : Bool} {c : Instr} {s v : State} {rx : Rx} {f : Frame}
    {body : Option TxFrame → State → State} (hc : Machine.frameBody c = some (rx, f, body))
    (hv : s.Receives rx f body v) (h : s.Sampled b) : v.Sampled b := by
  cases hv with
  | aside => exact h
  | own t =>
    have hclear : s.clearTx.Sampled b := h.of_same rfl
    exact (hclear.ownAccepted _).frameBody hc _
  | clash => exact h.meetClash
  | ignored _ _ hu => exact h.of_same (samplingOf_listens hu)
  | tool u _ hu => exact (h.of_same (samplingOf_listens hu)).of_same rfl
  | inquiry u _ hu => exact (h.of_same (samplingOf_listens hu)).frameBody hc _
  | peer u _ hu => exact ((h.of_same (samplingOf_listens hu)).hearPeer _ _).frameBody hc _

theorem samplingOf_ownVoided (s : State) (t : TxFrame) : (s.ownVoided t).samplingOf = s.samplingOf := by
  have hrel (c : Chan) : (s.sentVoided.releaseVoided c).samplingOf = s.samplingOf := rfl
  cases hf : t.frame with
  | claim p =>
    unfold ownVoided
    rw [hf]
    dsimp only
    split
    · exact samplingOf_claimVoided _ _ _
    · rfl
  | settled p =>
    rw [ownVoided_settled hf]
    split
    · rw [samplingOf_settleEnded, hrel]
    · exact hrel _
  | abandoned p => rw [ownVoided_abandoned hf]; rfl
  | stopped p => rw [ownVoided_stopped hf]; rfl
  | _ =>
    refine samplingOf_of_state ?_ ?_ ?_ ?_ (ownVoided_state s t)
    all_goals
      unfold ownVoided
      rw [hf]
      dsimp only
      try split
      all_goals simp

theorem Sampled.foundIncomplete {b : Bool} {s : State} (h : s.Sampled b) : s.foundIncomplete.Sampled b := by
  have hy : s.yieldsLine.countObjection.Sampled b := (h.of_same (samplingOf_yieldsLine s)).of_same rfl
  rw [foundIncomplete_eq]
  split
  · next hj => exact hy.enterSyncing (applies_of_joinedUp hj) _
  · exact hy

theorem Sampled.otherVoided {b : Bool} {s : State} (h : s.Sampled b) (raw : RawFrame) : (s.otherVoided raw).Sampled b := by
  unfold State.otherVoided
  split
  · exact h.foundIncomplete
  · split
    · exact h
    · exact h.of_same rfl

end State

end Sys2Proof.Machine
end

section
/-! Sampling: every command keeps its law, and what a sample writes (R123-R128; O49). -/

namespace Sys2Proof.Machine

open Sys2Proof

namespace State

/-! ## The law of sampling over every command -/

/-- Sampling is not released while LOADING (R128). -/
def loadingHeld (s : State) : Prop :=
  s.member.state = .loading → s.history.joined = false ∧ s.history.released = false

theorem history_of_sampled {b : Bool} {s : State} (hl : s.loadingHeld) (h : s.Sampled b) : HistoryLaw s :=
  ⟨hl, fun hlive => ⟨(h.counted hlive).marks, (h.counted hlive).released, (h.counted hlive).timer⟩⟩

/-- A part whose channels do not act, with sampling held while it loads. -/
theorem history_of_not_live {s : State} (hl : s.live = false) (h : s.loadingHeld) : HistoryLaw s :=
  ⟨h, fun hlive => absurd (hl.symm.trans hlive) Bool.false_ne_true⟩

/-- What the law says, where a release in the step is still to come. -/
theorem sampled_of_history {s : State} (h : HistoryLaw s) (hlive : s.live = true) : s.Sampled (!s.history.released) := by
  obtain ⟨hmarks, hrel, htimer⟩ := h.2 hlive
  refine ⟨fun _ => ⟨hmarks, hrel, htimer, fun hb hr => ?_⟩, fun hm => ?_⟩
  · rw [hr] at hb
    cases hb
  · rw [live_of_state (.inr hm)] at hlive
    cases hlive

theorem history_of_same {s t : State} (h : HistoryLaw s) (k : t.samplingOf = s.samplingOf) : HistoryLaw t := by
  simp only [samplingOf, Prod.mk.injEq] at k
  obtain ⟨hh, hp, hi, hm, hmark⟩ := k
  unfold HistoryLaw
  rw [hh, hm, live_of_keeps hp hm]
  refine ⟨h.1, fun hlive => ?_⟩
  obtain ⟨hmarks, hrest⟩ := h.2 hlive
  exact ⟨hmarks.trans (countMarks_of_marks hmark).symm, hrest⟩

theorem Sampled.takeSamples {b : Bool} {s : State} (h : s.Sampled b) : s.takeSamples.Sampled b := by
  refine ⟨fun hlive => ?_, h.halted⟩
  obtain ⟨hmarks, hrel, -, -⟩ := h.counted hlive
  exact ⟨hmarks, hrel, fun _ => rfl, fun _ _ => rfl⟩

theorem Sampled.seeBreak {b : Bool} {s : State} (h : s.Sampled b) : s.seeBreak.Sampled b := by
  have hselect : s.select.samplingOf = s.samplingOf := by
    have hmark : s.select.markOf = s.markOf := funext fun c => by
      have hsame : sameButOffer (s.select.chan c) (s.chan c) := by
        unfold select
        split
        · exact trySources_same _ s c
        · exact .inl rfl
      obtain ⟨-, hm, -⟩ := fields_of_sameButOffer hsame
      exact hm
    simp [samplingOf, image, hmark]
  have hjoin : s.breakJoined.Sampled b := by
    unfold breakJoined
    split
    · exact h
    · exact h.of_same hselect
  rw [seeBreak_eq]
  split
  · unfold breakHeard
    split
    · exact hjoin
    · exact hjoin.of_same rfl
  · exact h.of_same rfl

/-- A command that acts in a station whose channels act keeps the law. -/
theorem Sampled.of_acts {b : Bool} {s u : State} {c : Instr} (h : s.Sampled b) (hlive : s.live = true)
    (ha : s.Acts c u) : u.Sampled b := by
  have hload : ¬s.loading = true := fun hl => by
    have := loading_not_operating hl
    rw [live_operating hlive] at this
    cases this
  have hsame {t : State} (hch : t.channels = s.channels) (hh : t.history = s.history) (hp : t.power = s.power)
      (hl : t.loader = s.loader) (hm : t.member.state = s.member.state) : t.Sampled b :=
    h.of_same (samplingOf_of_state hch hh hp hl hm)
  cases ha with
  | frame hc hv => exact (h.receives hc hv).of_same rfl
  | voidedOwn raw t => exact (h.of_same (samplingOf_ownVoided s t)).of_same rfl
  | voidedOther raw => exact (h.otherVoided raw).of_same rfl
  | arbitrationLost t => exact h.of_same (samplingOf_ownLost (s.tally _) t)
  | addressClash => exact h.meetClash
  | incomplete => exact h.foundIncomplete.of_same rfl
  | frameBreak => exact h.seeBreak
  | holdAtOwner d e => exact Sampled.ownHoldOut (s := s.holdEnds s.own d false) (h.of_same rfl) d e.seq
  | reqLevel d level =>
    refine Sampled.of_same (s := s.reqTaken d level) (h.of_same rfl) ?_
    unfold debounce
    split
    · rfl
    · exact samplingOf_modChan _ d fun _ => rfl
  | debounceOut d => exact h.debounced d
  | senseLevel d level =>
    refine Sampled.senseAwait (s := (s.senseTaken d level).senseWatch d level) ?_ d level
    refine Sampled.of_same (s := s.senseTaken d level) (h.of_same rfl) ?_
    unfold senseWatch
    split
    · exact samplingOf_modChan _ d fun _ => rfl
    · rfl
  | senseGraceOut d => exact h.senseLost d
  | shedRestOut d =>
    exact (h.of_same (samplingOf_modChan s d (f := fun k => { k with shedRest := none }) fun _ => rfl)).of_same
      (samplingOf_join _ d)
  | inhAsserted => exact h.of_same (samplingOf_inhibit s)
  | dwellOut d i r => exact h.stepCompletes r
  | awaitOut d i r => exact h.stepFails r
  | windowOut hop hst =>
    unfold windowEnds
    split
    · exact h.enterSyncing (operating_applies hop) _
    · exact h.enterInStep (operating_applies hop)
  | syncOut hop hst =>
    unfold syncEnds
    split
    · exact Sampled.enterInStep (s := s.suspectAwaited) (h.of_same rfl) (operating_applies hop)
    · exact Sampled.enterInStep (s := { s.suspectPresent with member.ownRequest := none }) (h.of_same rfl)
        (operating_applies hop)
  | sampleOut => exact h.takeSamples
  | patienceOut | shedWaitOut | renewalNeed => exact hsame (by simp) (by simp) (by simp) (by simp) (by simp)
  | headerRead _ _ _ hl | readComplete _ hl | attemptFails _ _ hl | clockStretch _ _ _ _ hl | retryElapsed hl =>
    exact absurd hl hload
  | voidedAside | incompleteAside | busFree | holdAtPeer | inhLevel | inhReleased | presenceOut | absenceReached
  | requestOut => exact h.of_same rfl

theorem loadingHeld_failAttempt {s : State} (h : s.loadingHeld) : s.failAttempt.loadingHeld := by
  unfold failAttempt
  dsimp only
  split
  · exact fun hl => by cases hl
  · exact h

/-- A part that loads, or does not operate, keeps sampling held while it loads. -/
theorem loadingHeld_of_acts {s u : State} {c : Instr} (ha : s.Acts c u) (h : s.loadingHeld) : u.loadingHeld := by
  intro hl
  have hs : s.member.state = .loading := by
    by_contra hno
    exact not_loading_of_acts ha hno hl
  have hop : s.operating = false := by simp [operating, hs, MState.applies]
  by_cases hload : s.loading = true
  · revert hl
    change u.loadingHeld
    have hpart : ¬s.takesPart = true := fun hp => by simp [takesPart_operating hp] at hop
    have hlive : ¬s.live = true := fun hl => by simp [live_operating hl] at hop
    cases ha with
    | frame hc hv =>
      cases hv with
      | aside => exact h
      | own _ hp | clash _ hp | ignored _ hp | tool _ hp | inquiry _ hp | peer _ hp => exact absurd hp hpart
    | voidedAside | incompleteAside | busFree | retryElapsed => exact h
    | frameBreak =>
      rw [seeBreak_eq, hop]
      exact h
    | headerRead n a b =>
      unfold readHeader
      dsimp only
      split
      · exact h
      · exact loadingHeld_failAttempt (s := (s.drive _).drive _) h
    | readComplete rest =>
      unfold judgeImage
      split
      · split
        · intro hl
          rw [endLoading_state] at hl
          cases hl
        · intro hl
          cases hl
      · exact loadingHeld_failAttempt (s := s.drive _) h
    | attemptFails how ops => exact loadingHeld_failAttempt (s := s.drive ops) h
    | clockStretch n m bytes ops => exact loadingHeld_failAttempt (s := s.drive ops) h
    | voidedOwn _ _ hp | voidedOther _ hp | addressClash hp | incomplete hp => exact absurd hp hpart
    | arbitrationLost _ ho | holdAtPeer _ _ ho | holdAtOwner _ _ ho | patienceOut _ _ ho | shedWaitOut _ _ ho | presenceOut ho
    | windowOut ho | syncOut ho | absenceReached _ ho | requestOut _ ho => simp [hop] at ho
    | renewalNeed _ hl | reqLevel _ _ hl | debounceOut _ hl | senseLevel _ _ hl | senseGraceOut _ hl | shedRestOut _ hl
    | inhLevel _ hl | inhAsserted hl | inhReleased hl | dwellOut _ _ _ _ _ hl | awaitOut _ _ _ _ _ _ hl | sampleOut hl =>
      exact absurd hl hlive
  · obtain ⟨a, b, d, rfl⟩ := lineSeen_of_acts hop (by simpa using hload) ha
    exact h hs

/-- The marks are counted at the end of loading, sampling held. -/
theorem Sampled.endLoading {s : State} (h : s.loadingHeld) (hload : s.member.state = .loading) (bytes : List Byte) :
    (s.endLoading bytes).Sampled true := by
  refine ⟨fun _ => ?_, fun hm => by rw [endLoading_state] at hm; cases hm⟩
  obtain ⟨hjoined, hreleased⟩ := h hload
  have hhist : (s.endLoading bytes).history = { s.history with marks := (s.imageLoaded bytes).countMarks } := by
    have hjoin : (s.imageLoaded bytes).latchedJoined.history = (s.imageLoaded bytes).history := by
      simp only [latchedJoined, foldl_joinLatched_keeps]
    have hlog : (s.imageHeld bytes).invalidLogged.history = s.history := (invalidLogged_keeps _).2.1
    calc (s.endLoading bytes).history = (s.imageLoaded bytes).latchedJoined.history := by
          rw [endLoading_stages]
          simp [enterListen, inhLoaded]
      _ = (s.imageLoaded bytes).history := hjoin
      _ = { (s.imageHeld bytes).invalidLogged.history with marks := (s.imageLoaded bytes).countMarks } := rfl
      _ = { s.history with marks := (s.imageLoaded bytes).countMarks } := by rw [hlog]
  have hmark : (s.endLoading bytes).countMarks = (s.imageLoaded bytes).countMarks := by
    refine countMarks_of_marks (funext fun c => ?_)
    obtain ⟨-, -, -, hm, -⟩ := joinedChannel_keeps ((s.imageLoaded bytes).chan c)
    rw [markOf, chan_endLoading]
    exact hm
  have hheld : (s.endLoading bytes).history.released = false := by rw [hhist]; exact hreleased
  refine ⟨?_, iff_of_false (by rw [hheld]; decide) ?_, fun hr => ?_, fun _ hr => ?_⟩
  · rw [hmark, hhist]
  · rw [hhist]
    rintro ⟨hj, -⟩
    exact absurd (hjoined.symm.trans hj) Bool.false_ne_true
  · exact absurd (hheld.symm.trans hr) Bool.false_ne_true
  · exact absurd (hheld.symm.trans hr) Bool.false_ne_true

theorem failAttempt_not_live {s : State} (h : s.loading = true) : s.failAttempt.live = false := by
  simp only [loading, Bool.and_eq_true, decide_eq_true_eq] at h
  refine live_of_state ?_
  rcases failAttempt_state s with hst | hst
  · exact .inl (hst.trans h.2)
  · exact .inr hst

theorem state_of_loading {s : State} (h : s.loading = true) : s.member.state = .loading := by
  simp only [loading, Bool.and_eq_true, decide_eq_true_eq] at h
  exact h.2

/-- Only a whole image read lets the channels of a part that loads act. -/
theorem not_live_of_loading {s u : State} {c : Instr} (ha : s.Acts c u) (hload : s.loading = true)
    (hc : ∀ rest, c ≠ .imageReadComplete rest) : u.live = false := by
  have hop := loading_not_operating hload
  have hstate := state_of_loading hload
  have hpart : ¬s.takesPart = true := fun hp => by simp [takesPart_operating hp] at hop
  have hlive : ¬s.live = true := fun hl => by simp [live_operating hl] at hop
  have hfail (ops : List LinkOp) : (s.drive ops).failAttempt.live = false := failAttempt_not_live (s := s.drive ops) hload
  cases ha with
  | frame hc hv =>
    cases hv with
    | aside => exact live_of_state (.inl hstate)
    | own _ hp | clash _ hp | ignored _ hp | tool _ hp | inquiry _ hp | peer _ hp => exact absurd hp hpart
  | voidedAside | incompleteAside | busFree | retryElapsed => exact live_of_state (.inl hstate)
  | frameBreak =>
    rw [seeBreak_eq, hop]
    exact live_of_state (.inl hstate)
  | headerRead n a b =>
    unfold readHeader
    dsimp only
    split
    · exact live_of_state (.inl hstate)
    · exact failAttempt_not_live (s := (s.drive _).drive _) hload
  | readComplete rest => exact absurd rfl (hc rest)
  | attemptFails how ops => exact hfail ops
  | clockStretch n m bytes ops => exact hfail ops
  | voidedOwn _ _ hp | voidedOther _ hp | addressClash hp | incomplete hp => exact absurd hp hpart
  | arbitrationLost _ ho | holdAtPeer _ _ ho | holdAtOwner _ _ ho | patienceOut _ _ ho | shedWaitOut _ _ ho | presenceOut ho
  | windowOut ho | syncOut ho | absenceReached _ ho | requestOut _ ho => simp [hop] at ho
  | renewalNeed _ hl | reqLevel _ _ hl | debounceOut _ hl | senseLevel _ _ hl | senseGraceOut _ hl | shedRestOut _ hl
  | inhLevel _ hl | inhAsserted hl | inhReleased hl | dwellOut _ _ _ _ _ hl | awaitOut _ _ _ _ _ _ hl | sampleOut hl =>
    exact absurd hl hlive

theorem failAttempt_history (s : State) :
    s.failAttempt.history = s.history ∨ s.failAttempt.history.released = false := by
  unfold failAttempt
  dsimp only
  split
  · exact .inr rfl
  · exact .inl rfl

theorem Sampled.judgeImage {s : State} (h : s.loadingHeld) (hload : s.loading = true) (bytes : List Byte) :
    (s.judgeImage bytes).Sampled true := by
  unfold State.judgeImage
  split
  · split
    · exact .endLoading h (state_of_loading hload) bytes
    · exact .of_not_live (enterHalted_not_live _) fun _ => rfl
  · refine .of_not_live (failAttempt_not_live hload) fun _ => ?_
    rcases failAttempt_history s with hh | hh
    · rw [hh]
      exact (h (state_of_loading hload)).2
    · exact hh

/-- Every command that acts keeps the law of sampling. -/
theorem history_of_acts {s u : State} {c : Instr} (ha : s.Acts c u) (h : HistoryLaw s) :
    HistoryLaw u ∧ (s.live = true → u.Sampled (!s.history.released)) := by
  have hheld := loadingHeld_of_acts ha h.1
  by_cases hlive : s.live = true
  · have hu := (sampled_of_history h hlive).of_acts hlive ha
    exact ⟨history_of_sampled hheld hu, fun _ => hu⟩
  · refine ⟨?_, fun hl => absurd hl hlive⟩
    by_cases hu : u.live = true
    · have hload := (live_of_acts ha hu).resolve_left hlive
      by_cases hc : ∃ rest, c = .imageReadComplete rest
      · obtain ⟨rest, rfl⟩ := hc
        cases ha with
        | frame hc => cases hc
        | readComplete => exact history_of_sampled hheld (Sampled.judgeImage (s := s.drive _) h.1 hload _)
      · rw [not_live_of_loading ha hload (not_exists.mp hc)] at hu
        cases hu
    · exact history_of_not_live (by simpa using hu) hheld

theorem samplingOf_finish (s : State) : s.finish.samplingOf = s.samplingOf := by
  simp [samplingOf, image, markOf_finish]

/-! ## Supplies, reset and starts -/

theorem history_of_resets {s u : State} {c : Instr} (ha : s.Resets c u) (h : HistoryLaw s) : HistoryLaw u := by
  have hwarn (v : State) (hv : v.loadingHeld) : HistoryLaw v.enterWarning :=
    history_of_not_live (enterWarning_not_live v) fun hl => ⟨(hv hl).1, rfl⟩
  cases ha with
  | powerFail =>
    unfold failPower
    dsimp only
    split
    · exact hwarn _ h.1
    · next hrun => exact history_of_not_live (live_of_phase hrun) h.1
  | vmainLost => exact history_of_not_live (live_losePower s) fun _ => ⟨rfl, rfl⟩
  | suppliesLost => exact history_of_not_live (live_losePower s) fun _ => ⟨rfl, rfl⟩
  | retentionLost | rstnRelease => exact h
  | recover => exact history_of_not_live (live_of_warning rfl) (hwarn s h.1).1
  | powerUp => exact history_of_not_live (live_of_phase (by simp [powerUp, discard])) fun _ => ⟨rfl, rfl⟩
  | rstnLow => exact history_of_not_live (live_of_phase (by simp [held, discard])) fun _ => ⟨rfl, rfl⟩
  | start straps =>
    rw [begin_eq, sampleStraps_eq]
    split
    · exact history_of_not_live (enterHalted_not_live _) fun hl => by cases hl
    · exact history_of_not_live (live_of_state (.inl rfl)) fun _ => ⟨rfl, rfl⟩

/-- A command of supplies, reset and starts leaves no part whose channels act with sampling released anew. -/
theorem released_of_resets {s u : State} {c : Instr} (ha : s.Resets c u) (hheld : s.history.released = false) :
    u.history.released = false := by
  cases ha with
  | powerFail =>
    unfold failPower
    dsimp only
    split
    · rfl
    · exact hheld
  | vmainLost | suppliesLost | recover | powerUp | rstnLow => rfl
  | retentionLost | rstnRelease => exact hheld
  | start straps =>
    rw [begin_eq, sampleStraps_eq]
    split <;> rfl

/-- A command that acts in a station whose channels act leaves it so, or HALTED. -/
theorem live_stays {s u : State} {c : Instr} (ha : s.Acts c u) (hlive : s.live = true)
    (hn : u.member.state ≠ .halted) : u.live = true := by
  have hap : u.member.state.applies = true := by
    have hload := not_loading_of_acts ha fun hm => by
      rw [live_of_state (.inl hm)] at hlive
      cases hlive
    cases hst : u.member.state with
    | loading => exact absurd hst hload
    | halted => exact absurd hst hn
    | listen | syncing | inStep | isolated => rfl
  have hpow := (keepsFor_of_acts ha).power
  simp only [live, operating, hpow, Bool.and_eq_true] at hlive ⊢
  exact ⟨⟨hlive.1.1, hap⟩, hlive.2⟩

theorem history_of_exec {c : Instr} {s t : State} (hx : exec c s = .next t) (h : HistoryLaw s) :
    HistoryLaw t
      ∧ (s.live = true → s.history.released = false → t.history.released = true →
        t.history.sampleTimer = some (t.image.station.samplePeriod * 100)) := by
  have hsame {t : State} (hr : t.history.released = s.history.released) (hh : s.history.released = false)
      (ht : t.history.released = true) : t.history.sampleTimer = some (t.image.station.samplePeriod * 100) := by
    rw [hr, hh] at ht
    cases ht
  cases hr : resets c with
  | false =>
    cases runs_of_exec hx hr with
    | nothing => exact ⟨h, fun _ => hsame rfl⟩
    | pinTaken => exact ⟨h, fun _ => hsame rfl⟩
    | @acts u ha =>
      obtain ⟨hu, hsampled⟩ := history_of_acts ha h
      refine ⟨history_of_same hu (samplingOf_finish u), fun hlive hheld hrel => ?_⟩
      have hfin : u.finish.Sampled (!s.history.released) := (hsampled hlive).of_same (samplingOf_finish u)
      have hnot : u.finish.member.state ≠ .halted := fun hm =>
        absurd ((hfin.halted hm).symm.trans hrel) Bool.false_ne_true
      have hact := live_stays ha hlive (by simpa using hnot)
      exact (hfin.counted (by simpa [live, operating] using hact)).period (by rw [hheld]; rfl) hrel
  | true =>
    cases resetRuns_of_exec hx hr with
    | nothing => exact ⟨h, fun _ => hsame rfl⟩
    | unpowered => exact ⟨h, fun _ => hsame rfl⟩
    | @acts u ha =>
      refine ⟨history_of_same (history_of_resets ha h) (samplingOf_finish u), fun _ hheld hrel => ?_⟩
      obtain ⟨-, -, -, hhist, -⟩ := finish_sameLocal u
      rw [hhist, released_of_resets ha hheld] at hrel
      cases hrel

/-! ## A sample -/

theorem shiftSample_newest (old : BitVec 8) (on : Bool) : (shiftSample old on).getMsbD 0 = on := by
  cases on <;> simp [shiftSample, BitVec.getMsbD]

theorem shiftSample_older (old : BitVec 8) (on : Bool) {i : Nat} (h : i < 7) :
    (shiftSample old on).getMsbD (i + 1) = old.getMsbD i := by
  have hnew : (if on then 0x80#8 else 0#8).getMsbD (i + 1) = false := by
    interval_cases i <;> cases on <;> rfl
  rw [shiftSample, BitVec.getMsbD_or, hnew, Bool.or_false, BitVec.getMsbD_ushiftRight]
  simp [show i + 1 < 8 by omega]

theorem exec_sampleTimerRunsOut {s : State} (hlive : s.live = true) (hrel : s.history.released = true)
    (htimer : s.history.sampleTimer.isSome = true) : exec .sampleTimerRunsOut s = .next s.takeSamples.finish := by
  refine congrArg Host.Outcome.next (if_pos ?_)
  rw [hlive, hrel, htimer]
  rfl

theorem takeSamples_samples (s : State) (c : Chan) :
    s.takeSamples.retention.samples.get c =
      if (s.chan c).state = .disabled then s.retention.samples.get c
      else shiftSample (s.retention.samples.get c) (decide ((s.chan c).state = .on)) := Four.get_mapChan _ _ c

theorem takeSamples_fill (s : State) (c : Chan) :
    s.takeSamples.retention.fill.get c =
      if (s.chan c).state = .disabled then s.retention.fill.get c else min 8 (s.retention.fill.get c + 1) :=
  Four.get_mapChan _ _ c

end State

open State

/-- Settles O49: a sample shifts each history that is not held; and every operation keeps the count of the marks, with the
release of sampling judged where a mark is cleared and where the station joins. -/
theorem samplingIsHeldThenShiftsTheHistory : Obligations.SamplingIsHeldThenShiftsTheHistory := by
  refine ⟨fun s hlive hrel htimer => ?_, fun c s t hx h => history_of_exec hx h⟩
  obtain ⟨-, -, hret, hhist, -, heng, -, -, -, hchan⟩ := finish_sameLocal s.takeSamples
  refine ⟨_, exec_sampleTimerRunsOut hlive hrel htimer, fun c hc => ?_, fun c hc => ?_, ?_, ?_, ?_, hhist, hchan, ?_, ?_, ?_,
    heng, ?_⟩
  · rw [hret, takeSamples_samples, takeSamples_fill, if_neg hc, if_neg hc]
    exact ⟨shiftSample_newest _ _, fun i hi => shiftSample_older _ _ hi, rfl⟩
  · rw [hret, takeSamples_samples, takeSamples_fill, if_pos hc, if_pos hc]
    exact ⟨rfl, rfl⟩
  · rw [hret]; rfl
  · rw [hret]; rfl
  · rw [hret]; rfl
  all_goals simp

end Sys2Proof.Machine
end

section
/-! What the Recipe Engine leaves, in the words of the specification: runs of steps, resumed records, a freed engine. -/

namespace Sys2Proof.Machine

open Sys2Proof

namespace State

/-! ## Where a run of steps leaves its channel -/

/-- Where a run of steps that ends in `e` with two levels leaves its channel. -/
def leftBy (t : State) (c : Chan) (pre main : Bool) : StepsEnd → Prop
  | .waits _ _ => (t.chan c).state = .starting ∧ (t.chan c).pre = pre ∧ (t.chan c).main = main
  | .completes =>
    (t.chan c).state = .settling ∧ (t.chan c).release = .settled ∧ (t.chan c).pre = pre ∧ (t.chan c).main = main
  | .fails j => recipeFailed t c ∧ failureOnTop t c j

theorem ranChan_iff (s t : State) (c : Chan) (i : Nat) :
    ranChan s t c i ↔ t.leftBy c (s.runFrom c i).2.1 (s.runFrom c i).2.2 (runEnd s c i) := by
  unfold ranChan runEnd runFrom
  split <;> next heq => rw [heq]; rfl

/-- What a run of steps left is still there: the channel where it is not offered, the newest record, FLT. -/
structure Carried (u t : State) (c : Chan) : Prop where
  chan : ¬inQueue (u.chan c).state → t.chan c = u.chan c
  record : t.faults.records.head? = u.faults.records.head?
  flt : (t.chan c).state = .faulted → t.indicators.flt = true

theorem recipeFailed_carried {u t : State} {c : Chan} (h : recipeFailed u c) (k : Carried u t c) : recipeFailed t c := by
  obtain ⟨hst, hrel, houts, hmark, -⟩ := h
  have hchan := k.chan (by rw [hst]; simp [inQueue])
  unfold recipeFailed
  rw [hchan]
  exact ⟨hst, hrel, houts, hmark, k.flt (by rw [hchan]; exact hst)⟩

theorem failureOnTop_carried {u t : State} {c d : Chan} {j : Nat} (h : failureOnTop u c j) (k : Carried u t d) :
    failureOnTop t c j := by
  unfold failureOnTop
  rw [k.record]
  exact h

theorem ranChan_carried {s u t : State} {c : Chan} {i : Nat} (h : ranChan s u c i) (k : Carried u t c) :
    ranChan s t c i := by
  rw [ranChan_iff] at h ⊢
  generalize runEnd s c i = e at h ⊢
  cases e with
  | waits j left =>
    obtain ⟨hst, hlev⟩ := h
    have hchan := k.chan (by rw [hst]; simp [inQueue])
    unfold leftBy
    rw [hchan]
    exact ⟨hst, hlev⟩
  | completes =>
    obtain ⟨hst, hlev⟩ := h
    have hchan := k.chan (by rw [hst]; simp [inQueue])
    unfold leftBy
    rw [hchan]
    exact ⟨hst, hlev⟩
  | fails j => exact ⟨recipeFailed_carried h.1 k, failureOnTop_carried h.2 k⟩

theorem ranTo_carried {s u t : State} {c : Chan} {i : Nat} (h : ranTo s u c i) (k : Carried u t c)
    (hr : t.engine.running = u.engine.running) : ranTo s t c i :=
  ⟨ranChan_carried h.1 k, hr.trans h.2⟩

/-- A run of steps depends on the sense, the recipe and the levels it starts from. -/
theorem runFrom_congr {s v : State} {c : Chan} (hp : v.pins = s.pins) (hl : v.loader = s.loader)
    (hpre : (v.chan c).pre = (s.chan c).pre) (hmain : (v.chan c).main = (s.chan c).main) (i : Nat) :
    v.runFrom c i = s.runFrom c i := by
  unfold runFrom
  rw [hp, hpre, hmain, cfg_of_loader hl]

theorem runEnd_congr {s v : State} {c : Chan} {i : Nat} (h : v.runFrom c i = s.runFrom c i) :
    runEnd v c i = runEnd s c i := congrArg Prod.fst h

theorem ranChan_congr {s v t : State} {c : Chan} {i : Nat} (h : v.runFrom c i = s.runFrom c i) :
    ranChan v t c i ↔ ranChan s t c i := by
  rw [ranChan_iff, ranChan_iff, h, runEnd_congr h]

theorem ranTo_congr {s v t : State} {c : Chan} {i : Nat} (h : v.runFrom c i = s.runFrom c i) :
    ranTo v t c i ↔ ranTo s t c i := by
  unfold ranTo
  rw [ranChan_congr h, runEnd_congr h]

/-- A state with FLT asserted, as it is where a channel is FAULTED at the end of a step. -/
def flagged (s : State) : State := { s with indicators.flt := true }

theorem failRecipe_flagged (s : State) (c : Chan) (j : Nat) :
    recipeFailed (s.failRecipe c j).flagged c ∧ failureOnTop (s.failRecipe c j).flagged c j := by
  have hchan : (s.failRecipe c j).flagged.chan c = { s.chan c with
      pre := false, main := false, release := .abandoned .recipeFailed, state := .faulted, mark := false } := by
    show (s.failRecipe c j).chan c = _
    rw [chan_failRecipe, if_pos rfl]
  unfold recipeFailed
  rw [hchan]
  exact ⟨⟨rfl, rfl, ⟨rfl, rfl⟩, rfl, rfl⟩, _, rfl, rfl, rfl, rfl⟩

/-- The steps of a STARTING channel have been taken. -/
theorem takeSteps_ran {s : State} {c : Chan} (h : (s.chan c).state = .starting) (i : Nat) :
    ranTo s (s.takeSteps c i).flagged c i := by
  refine ⟨(ranChan_iff _ _ _ _).mpr ?_, (takeSteps_engine s c i).1⟩
  have hstep : (s.stepped c i).chan c =
      { s.chan c with pre := (s.runFrom c i).2.1, main := (s.runFrom c i).2.2 } := by rw [chan_stepped, if_pos rfl]
  rw [takeSteps_eq]
  cases runEnd s c i with
  | waits j left =>
    show ((s.stepped c i).chan c).state = _ ∧ ((s.stepped c i).chan c).pre = _ ∧ ((s.stepped c i).chan c).main = _
    rw [hstep]
    exact ⟨h, rfl, rfl⟩
  | completes =>
    have hchan : ((s.stepped c i).ended c .completes).flagged.chan c
        = { (s.stepped c i).chan c with state := .settling, release := .settled } := by
      show ((s.stepped c i).completeRecipe c).chan c = _
      rw [chan_completeRecipe, if_pos rfl]
    unfold leftBy
    rw [hchan, hstep]
    exact ⟨rfl, rfl, rfl, rfl⟩
  | fails j => exact failRecipe_flagged _ c j

theorem runFrom_enter (s : State) (c : Chan) (st : ChanState) (i : Nat) : (s.enter c st).runFrom c i = s.runFrom c i :=
  runFrom_congr (s := s) (v := s.enter c st) rfl rfl (by rw [chan_enter, if_pos rfl]) (by rw [chan_enter, if_pos rfl]) i

/-- A channel that enters STARTING has taken its steps. -/
theorem enterSteps_ran (s : State) (c : Chan) (i : Nat) :
    ranTo s ((s.enter c .starting).takeSteps c i).flagged c i :=
  (ranTo_congr (runFrom_enter s c .starting i)).mp (takeSteps_ran (by rw [chan_enter, if_pos rfl]) i)

theorem beginStart_ran (s : State) (c : Chan) : ranTo s (s.beginStart c).flagged c 0 := enterSteps_ran s c 0

theorem beginStart_engine (s : State) (c : Chan) :
    (s.beginStart c).engine.running = (runEnd s c 0).slot c ∧ (s.beginStart c).engine.waiting = s.engine.waiting
      ∧ (s.beginStart c).engine.stack = s.engine.stack := by
  obtain ⟨hrun, hwait, hstack, -⟩ := takeSteps_engine (s.enter c .starting) c 0
  rw [runEnd_congr (runFrom_enter s c .starting 0)] at hrun
  exact ⟨hrun, hwait, hstack⟩

/-! ## A record taken up again -/

/-- A record's channel in STARTING, its levels restored (R112). -/
def taken (s : State) (k : Context) : State := (restored s k).enter k.ch .starting

/-- A record waits on in its step. -/
def waiting (s : State) (k : Context) (left : Nat) : State :=
  { s with engine.running := some { ch := k.ch, step := k.next, timeLeft := left } }

theorem cfg_enter (s : State) (c d : Chan) (st : ChanState) : (s.enter c st).cfg d = s.cfg d := rfl

theorem cfg_modChan (s : State) (c d : Chan) (f : Channel → Channel) : (s.modChan c f).cfg d = s.cfg d := rfl

theorem resume_dwell {s : State} {k : Context} {left time : Nat} {y : Bool} (hp : k.partialTime = some left)
    (hs : (s.cfg k.ch).recipe[k.next]? = some (.dwell time y)) :
    s.resume k = if left = 0 then (s.taken k).takeSteps k.ch (k.next + 1) else (s.taken k).waiting k left := by
  unfold resume taken restored
  cases k.snapshot <;> simp only [hp, cfg_enter, cfg_modChan, hs] <;> rfl

theorem resume_await {s : State} {k : Context} {left time : Nat} {level y : Bool} (hp : k.partialTime = some left)
    (hs : (s.cfg k.ch).recipe[k.next]? = some (.await level time y)) :
    s.resume k =
      if s.pins.sense.get k.ch = level then (s.taken k).takeSteps k.ch (k.next + 1)
      else if left = 0 then (s.taken k).failRecipe k.ch k.next
      else (s.taken k).waiting k left := by
  unfold resume taken restored
  cases k.snapshot <;> simp only [hp, cfg_enter, cfg_modChan, hs] <;> rfl

theorem resume_begun {s : State} {k : Context}
    (hd : ∀ left time y, k.partialTime = some left → (s.cfg k.ch).recipe[k.next]? = some (.dwell time y) → False)
    (ha : ∀ left level time y, k.partialTime = some left → (s.cfg k.ch).recipe[k.next]? = some (.await level time y) →
      False) : s.resume k = (s.taken k).takeSteps k.ch k.next := by
  unfold resume taken restored
  cases k.snapshot <;>
  · dsimp only
    split
    · next left time y hp hs => exact (hd left time y hp hs).elim
    · next left level time y hp hs => exact (ha left level time y hp hs).elim
    · rfl

end State

end Sys2Proof.Machine
end

section
/-! A freed engine: what it takes up (R111), and that a start removed leaves the engine so (R95, R113). -/

namespace Sys2Proof.Machine

open Sys2Proof

namespace State

/-! ## The rounds of a freed engine -/

theorem freeLoop_of_running {s : State} {r : RunSlot} (h : s.engine.running = some r) (n : Nat) : freeLoop n s = s := by
  cases n with
  | zero => rfl
  | succ n =>
    unfold freeLoop
    rw [h]

/-- With nothing to take up, the engine stays as it is. -/
theorem freeLoop_of_empty {s : State} (hw : s.engine.waiting = none) (hs : s.engine.stack = []) (n : Nat) :
    freeLoop n s = s := by
  cases n with
  | zero => rfl
  | succ n =>
    unfold freeLoop
    rw [hw, hs]
    cases s.engine.running <;> rfl

theorem freeLoop_waiting {s : State} {d : Chan} (hr : s.engine.running = none) (hw : s.engine.waiting = some d) (n : Nat) :
    freeLoop (n + 1) s = freeLoop n (s.unwaited.beginStart d) := by
  rw [freeLoop, hr, hw]
  rfl

/-- The top record leaves the stack. -/
def popped (s : State) (rest : List Context) : State := { s with engine.stack := rest }

theorem freeLoop_stacked {s : State} {k : Context} {rest : List Context} (hr : s.engine.running = none)
    (hw : s.engine.waiting = none) (hs : s.engine.stack = k :: rest) (n : Nat) :
    freeLoop (n + 1) s = freeLoop n ((s.popped rest).resume k) := by
  rw [freeLoop, hr, hw, hs]
  rfl

theorem freeEngine_of_idle {s : State} (h : s.engine.running = none) : s.freeEngine = (freeLoop 5 s).notify := by
  unfold freeEngine
  rw [h]

theorem freeEngine_of_running {s : State} {r : RunSlot} (h : s.engine.running = some r) : s.freeEngine = s := by
  unfold freeEngine
  rw [h]

/-! ## A record taken up -/

theorem runFrom_taken (s : State) (k : Context) (i : Nat) : (s.taken k).runFrom k.ch i = (restored s k).runFrom k.ch i :=
  runFrom_enter (restored s k) k.ch .starting i

/-- A taken record's steps have been taken. -/
theorem taken_ran (s : State) (k : Context) (i : Nat) :
    ranTo (restored s k) ((s.taken k).takeSteps k.ch i).flagged k.ch i := enterSteps_ran (restored s k) k.ch i

theorem waiting_waitsOn (s : State) (k : Context) (left : Nat) :
    waitsOn s ((s.taken k).waiting k left).flagged k left s.engine.stack := by
  have hchan : ((s.taken k).waiting k left).flagged.chan k.ch = { (restored s k).chan k.ch with state := .starting } := by
    show ((restored s k).enter k.ch .starting).chan k.ch = _
    rw [chan_enter, if_pos rfl]
  have hstack : ((s.taken k).waiting k left).flagged.engine.stack = s.engine.stack :=
    show (restored s k).engine.stack = _ by rw [restored_engine]
  unfold waitsOn
  rw [hchan]
  exact ⟨rfl, hstack, rfl, rfl, rfl⟩

theorem taken_stores (s : State) (k : Context) :
    (s.taken k).engine.waiting = s.engine.waiting ∧ (s.taken k).engine.stack = s.engine.stack := by
  have h : (s.taken k).engine = s.engine := restored_engine s k
  rw [h]
  exact ⟨rfl, rfl⟩

/-- The record has been resumed, before another round. -/
theorem resume_resumed (s : State) (k : Context) : resumed s (s.resume k).flagged k s.engine.stack := by
  unfold resumed
  split
  · next left time y hp hs =>
    rw [resume_dwell hp hs]
    refine ⟨fun hne => ?_, fun hz _ => ?_⟩
    · rw [if_neg hne]
      exact waiting_waitsOn s k left
    · rw [if_pos hz]
      exact taken_ran s k _
  · next left level time y hp hs =>
    rw [resume_await hp hs]
    refine ⟨fun hl _ => ?_, fun hl hne => ?_, fun hl hz _ => ?_⟩
    · rw [if_pos hl]
      exact taken_ran s k _
    · rw [if_neg hl, if_neg hne]
      exact waiting_waitsOn s k left
    · rw [if_neg hl, if_pos hz]
      obtain ⟨hfail, htop⟩ := failRecipe_flagged (s.taken k) k.ch k.next
      refine ⟨hfail, htop, ?_⟩
      show ((s.taken k).failRecipe k.ch k.next).engine.running = none
      rw [failRecipe_engine]
  · next hd ha =>
    intro _
    rw [resume_begun hd ha]
    exact taken_ran s k _

theorem restored_levels {s v : State} {k : Context} (hpre : (v.chan k.ch).pre = (s.chan k.ch).pre)
    (hmain : (v.chan k.ch).main = (s.chan k.ch).main) :
    ((restored v k).chan k.ch).pre = ((restored s k).chan k.ch).pre
      ∧ ((restored v k).chan k.ch).main = ((restored s k).chan k.ch).main := by
  unfold restored
  split
  · rw [chan_modChan, if_pos rfl, chan_modChan, if_pos rfl]
    exact ⟨rfl, rfl⟩
  · exact ⟨hpre, hmain⟩

theorem restored_keeps (s : State) (k : Context) : (restored s k).pins = s.pins ∧ (restored s k).loader = s.loader := by
  unfold restored
  split <;> exact ⟨rfl, rfl⟩

/-- What a resumed record leaves depends on its channel's levels, the sense and the recipe. -/
theorem resumed_congr {s v t : State} {k : Context} {rest : List Context} (hp : v.pins = s.pins)
    (hl : v.loader = s.loader) (hpre : (v.chan k.ch).pre = (s.chan k.ch).pre)
    (hmain : (v.chan k.ch).main = (s.chan k.ch).main) (h : resumed v t k rest) : resumed s t k rest := by
  obtain ⟨hrp, hrm⟩ := restored_levels hpre hmain
  have hrun (i : Nat) : (restored v k).runFrom k.ch i = (restored s k).runFrom k.ch i :=
    runFrom_congr ((restored_keeps v k).1.trans (hp.trans (restored_keeps s k).1.symm))
      ((restored_keeps v k).2.trans (hl.trans (restored_keeps s k).2.symm)) hrp hrm i
  have hran (i : Nat) : ranTo (restored v k) t k.ch i ↔ ranTo (restored s k) t k.ch i := ranTo_congr (hrun i)
  have hwaits (left : Nat) : waitsOn v t k left rest ↔ waitsOn s t k left rest := by
    unfold waitsOn
    rw [hrp, hrm]
  have hcfg : v.cfg k.ch = s.cfg k.ch := cfg_of_loader hl k.ch
  unfold resumed at h ⊢
  simp only [hran, hwaits, hcfg, hp] at h
  exact h

/-- A resumed record that waits leaves a running slot. -/
theorem freeLoop_resume {s : State} {k : Context} (hw : s.engine.waiting = none) (n : Nat)
    (h : (s.resume k).engine.running = none → s.engine.stack = []) : freeLoop n (s.resume k) = s.resume k := by
  obtain ⟨hwait, hstack⟩ := resume_engine s k
  cases hr : (s.resume k).engine.running with
  | some r => exact freeLoop_of_running hr n
  | none => exact freeLoop_of_empty (by rw [hwait, hw]) (by rw [hstack, h hr]) n

theorem resumed_freeLoop {s : State} {k : Context} (hw : s.engine.waiting = none) (n : Nat) :
    resumed s (freeLoop n (s.resume k)).flagged k s.engine.stack := by
  have hres := s.resume_resumed k
  by_cases hstack : s.engine.stack = []
  · rw [freeLoop_resume hw n fun _ => hstack]
    exact hres
  · have hwaits {left : Nat} (h : waitsOn s (s.resume k).flagged k left s.engine.stack) :
        freeLoop n (s.resume k) = s.resume k := freeLoop_of_running (s := s.resume k) h.1 n
    unfold resumed at hres ⊢
    split
    · next left time y hp hs =>
      simp only [hp, hs] at hres
      refine ⟨fun hne => ?_, fun _ he => absurd he hstack⟩
      rw [hwaits (hres.1 hne)]
      exact hres.1 hne
    · next left level time y hp hs =>
      simp only [hp, hs] at hres
      obtain ⟨-, hwait, -⟩ := hres
      refine ⟨fun _ he => absurd he hstack, fun hl hne => ?_, fun _ _ he => absurd he hstack⟩
      rw [hwaits (hwait hl hne)]
      exact hwait hl hne
    · exact fun he => absurd he hstack

/-! ## The freed engine -/

theorem runFrom_unwaited (s : State) (c : Chan) (i : Nat) : s.unwaited.runFrom c i = s.runFrom c i := rfl

/-- An engine with an empty running slot takes up the PENDING start, else its top record, else nothing. -/
theorem freeEngine_freed {s : State} (hr : s.engine.running = none) : engineFreed s s.freeEngine.flagged := by
  rw [freeEngine_of_idle hr]
  refine ⟨fun hw hs => ?_, fun d hw hslot => ?_, fun d hw hs => ?_, fun k rest hw hs => ?_⟩
  · rw [freeLoop_of_empty hw hs]
    exact hr
  · obtain ⟨hrun, hwait, hstack⟩ := s.unwaited.beginStart_engine d
    obtain ⟨r, hsome⟩ := Option.ne_none_iff_exists'.mp hslot
    rw [freeLoop_waiting hr hw, freeLoop_of_running (hrun.trans hsome)]
    obtain ⟨hran, -⟩ := s.unwaited.beginStart_ran d
    exact ⟨hran, hrun, hwait, hstack⟩
  · obtain ⟨hrun, hwait, hstack⟩ := s.unwaited.beginStart_engine d
    rw [freeLoop_waiting hr hw, freeLoop_of_empty hwait (hstack.trans hs)]
    exact ⟨s.unwaited.beginStart_ran d, hwait⟩
  · rw [freeLoop_stacked hr hw hs]
    have hres := resumed_freeLoop (s := s.popped rest) (k := k) hw 4
    exact resumed_congr (s := s) (v := s.popped rest) rfl rfl rfl rfl hres

end State

end Sys2Proof.Machine
end

section
/-! A freed engine, and a start taken from it, seen at the end of the step (R95, R108, R111, R113). -/

namespace Sys2Proof.Machine

open Sys2Proof

namespace State

/-! ## A freed engine seen from other states -/

/-- The starts that a freed engine can take up. -/
def awaiting (s : State) (d : Chan) : Prop := s.engine.waiting = some d ∨ d ∈ s.engine.stack.map (·.ch)

/-- Two states agree on what a freed engine reads. -/
structure Agree (s v : State) : Prop where
  waiting : v.engine.waiting = s.engine.waiting
  stack : v.engine.stack = s.engine.stack
  pins : v.pins = s.pins
  loader : v.loader = s.loader
  pre : ∀ d, s.awaiting d → (v.chan d).pre = (s.chan d).pre
  main : ∀ d, s.awaiting d → (v.chan d).main = (s.chan d).main

theorem Agree.runFrom {s v : State} (h : s.Agree v) {d : Chan} (hd : s.awaiting d) (i : Nat) :
    v.runFrom d i = s.runFrom d i := runFrom_congr h.pins h.loader (h.pre d hd) (h.main d hd) i

theorem engineFreed_of_agree {s v t : State} (k : s.Agree v) (h : engineFreed v t) : engineFreed s t := by
  obtain ⟨hidle, hwait, hlast, hstack⟩ := h
  rw [k.waiting, k.stack] at hidle hstack
  simp only [k.waiting, k.stack] at hwait hlast
  refine ⟨hidle, fun d hd hslot => ?_, fun d hd hs => ?_, fun c rest hw hs => ?_⟩
  · have hrun := k.runFrom (.inl hd) 0
    have hend := runEnd_congr hrun
    obtain ⟨hran, hrest⟩ := hwait d hd (by rw [hend]; exact hslot)
    rw [hend] at hrest
    exact ⟨(ranChan_congr hrun).mp hran, hrest⟩
  · obtain ⟨hran, hw⟩ := hlast d hd hs
    exact ⟨(ranTo_congr (k.runFrom (.inl hd) 0)).mp hran, hw⟩
  · have hd : s.awaiting c.ch := .inr (by simp [hs])
    exact resumed_congr k.pins k.loader (k.pre _ hd) (k.main _ hd) (hstack c rest hw hs)

theorem waitsOn_carried {s u t : State} {k : Context} {left : Nat} {rest : List Context} (h : waitsOn s u k left rest)
    (c : Carried u t k.ch) (hr : t.engine.running = u.engine.running) (hs : t.engine.stack = u.engine.stack) :
    waitsOn s t k left rest := by
  obtain ⟨hrun, hstack, hst, hlev⟩ := h
  have hchan := c.chan (by rw [hst]; simp [inQueue])
  unfold waitsOn
  rw [hchan, hr, hs]
  exact ⟨hrun, hstack, hst, hlev⟩

theorem resumed_carried {s u t : State} {k : Context} {rest : List Context} (h : resumed s u k rest)
    (c : Carried u t k.ch) (hr : t.engine.running = u.engine.running) (hs : t.engine.stack = u.engine.stack) :
    resumed s t k rest := by
  unfold resumed at h ⊢
  split
  · next left time y hp hstep =>
    simp only [hp, hstep] at h
    exact ⟨fun hne => waitsOn_carried (h.1 hne) c hr hs, fun hz he => ranTo_carried (h.2 hz he) c hr⟩
  · next left level time y hp hstep =>
    simp only [hp, hstep] at h
    obtain ⟨hdone, hwait, hfail⟩ := h
    refine ⟨fun hl he => ranTo_carried (hdone hl he) c hr, fun hl hne => waitsOn_carried (hwait hl hne) c hr hs,
      fun hl hz he => ?_⟩
    obtain ⟨hf, htop, hidle⟩ := hfail hl hz he
    exact ⟨recipeFailed_carried hf c, failureOnTop_carried htop c, hr.trans hidle⟩
  · next hd ha =>
    intro he
    split at h
    · next left time y hp hstep => exact (hd left time y hp hstep).elim
    · next left level time y hp hstep => exact (ha left level time y hp hstep).elim
    · exact ranTo_carried (h he) c hr

/-- What a freed engine took up is still so, where its stores are and its channels are carried. -/
theorem engineFreed_carried {s u t : State} (h : engineFreed s u) (hr : t.engine.running = u.engine.running)
    (hw : t.engine.waiting = u.engine.waiting) (hs : t.engine.stack = u.engine.stack)
    (hc : ∀ d, s.awaiting d → Carried u t d) : engineFreed s t := by
  obtain ⟨hidle, hwait, hlast, hstack⟩ := h
  unfold engineFreed
  rw [hr, hw, hs]
  refine ⟨hidle, fun d hd hslot => ?_, fun d hd he => ?_, fun k rest hn he => ?_⟩
  · obtain ⟨hran, hrest⟩ := hwait d hd hslot
    exact ⟨ranChan_carried hran (hc d (.inl hd)), hrest⟩
  · obtain ⟨hran, hn⟩ := hlast d hd he
    exact ⟨ranTo_carried hran (hc d (.inl hd)) hr, hn⟩
  · exact resumed_carried (hstack k rest hn he) (hc k.ch (.inr (by simp [he]))) hr hs

/-- The end of a step carries what a run of steps left. -/
theorem carried_finish {u : State} (hl : u.live = true) (d : Chan) : Carried u.flagged u.finish d := by
  refine ⟨fun hd => eq_of_sameButOffer (finish_same u d) hd, by simp [flagged], fun hst => ?_⟩
  have hsame := finish_same u d
  have hfault : (u.chan d).state = .faulted := by
    rcases hsame with heq | ⟨hq, -⟩
    · rw [← heq]; exact hst
    · rw [hst] at hq
      rcases hq with hq | hq <;> cases hq
  exact finish_shows_fault hl hfault

/-! ## Renewal bookkeeping -/

/-- A start's renewal bookkeeping is cleared (R95, R99). -/
def renewalsGone (s : State) (c : Chan) : Prop := s.engine.renewVoids.get c = 0 ∧ s.engine.exhausted.get c = false

theorem renewalsGone_cleared (s : State) (c : Chan) : (s.renewalsCleared c).renewalsGone c := by
  simp [renewalsGone, renewalsCleared, Four.get_set]

theorem renewalsGone_of_engine {s t : State} {c : Chan} (h : s.renewalsGone c)
    (hv : t.engine.renewVoids = s.engine.renewVoids) (he : t.engine.exhausted = s.engine.exhausted) : t.renewalsGone c := by
  unfold renewalsGone
  rw [hv, he]
  exact h

/-- A start that leaves the engine clears its own renewal exhausted mark only. -/
theorem renewalsGone_forgets {s t : State} {c d : Chan} (h : s.renewalsGone c)
    (hv : t.engine.renewVoids = s.engine.renewVoids) (he : t.engine.exhausted = s.engine.exhausted.set d false) :
    t.renewalsGone c := by
  unfold renewalsGone
  rw [hv, he, Four.get_set]
  refine ⟨h.1, ?_⟩
  split
  · rfl
  · exact h.2

theorem renewalsGone_takeSteps {s : State} {c : Chan} (h : s.renewalsGone c) (d : Chan) (i : Nat) :
    (s.takeSteps d i).renewalsGone c := by
  rw [takeSteps_eq]
  cases runEnd s d i with
  | waits j left => exact h
  | completes => exact renewalsGone_forgets (d := d) h (by simp [ended]) (by simp [ended])
  | fails j => exact renewalsGone_forgets (d := d) h (by simp [ended]) (by simp [ended])

theorem renewalsGone_resume {s : State} {c : Chan} (h : s.renewalsGone c) (k : Context) :
    (s.resume k).renewalsGone c := by
  have htaken : (s.taken k).renewalsGone c :=
    renewalsGone_of_engine h (congrArg Engine.renewVoids (restored_engine s k))
      (congrArg Engine.exhausted (restored_engine s k))
  have hcases : (s.taken k).Resumes k (s.resume k) := s.resume_cases k
  generalize s.resume k = t at hcases ⊢
  cases hcases with
  | waits left => exact htaken
  | steps i => exact renewalsGone_takeSteps htaken _ i
  | fails => exact renewalsGone_forgets (d := k.ch) htaken (by simp) (by simp)

theorem renewalsGone_freeLoop {c : Chan} (n : Nat) {s : State} (h : s.renewalsGone c) : (freeLoop n s).renewalsGone c := by
  induction n generalizing s with
  | zero => exact h
  | succ n ih =>
    unfold freeLoop
    split
    · exact h
    · split
      · next d _ => exact ih (renewalsGone_takeSteps (s := s.unwaited.enter d .starting) h d 0)
      · split
        · next k rest _ => exact ih (renewalsGone_resume (s := s.popped rest) h k)
        · exact h

theorem renewalsGone_freeEngine {s : State} {c : Chan} (h : s.renewalsGone c) : s.freeEngine.renewalsGone c := by
  unfold freeEngine
  split
  · exact h
  · exact renewalsGone_freeLoop 5 h

/-! ## A start removed -/

/-- Where a tracked start lies in an engine with its laws: in one place only. -/
theorem tracked_cases {s : State} (h : EngineLaw s) {c : Chan} (hc : s.tracked c = true) :
    (∃ r, s.engine.running = some r ∧ r.ch = c ∧ ¬s.awaiting c)
      ∨ s.engine.waiting = some c ∧ s.engine.running.map (·.ch) ≠ some c ∧ c ∉ s.engine.stack.map (·.ch)
      ∨ c ∈ s.engine.stack.map (·.ch) ∧ s.engine.running.map (·.ch) ≠ some c ∧ s.engine.waiting ≠ some c := by
  obtain ⟨hrun, hwait, hstack⟩ := h.1 c
  rcases (tracked_iff s c).mp hc with hr | hw | hs
  · obtain ⟨r, hr', hch⟩ := Option.map_eq_some_iff.mp hr
    refine .inl ⟨r, hr', hch, ?_⟩
    have hst := hrun.mp hr
    rintro (hw | hs)
    · rw [hwait.mp hw] at hst
      cases hst
    · rw [hstack.mp hs] at hst
      cases hst
  · have hst := hwait.mp hw
    refine .inr (.inl ⟨hw, fun hr => ?_, fun hs => ?_⟩)
    · rw [hrun.mp hr] at hst
      cases hst
    · rw [hstack.mp hs] at hst
      cases hst
  · have hst := hstack.mp hs
    refine .inr (.inr ⟨hs, fun hr => ?_, fun hw => ?_⟩)
    · rw [hrun.mp hr] at hst
      cases hst
    · rw [hwait.mp hw] at hst
      cases hst

/-- A state that stands as another for the removal of a channel's start: engine, pins, image and the other channels. -/
structure Stands (s x : State) (c : Chan) : Prop where
  engine : x.engine = s.engine
  pins : x.pins = s.pins
  loader : x.loader = s.loader
  chans : ∀ d, d ≠ c → x.chan d = s.chan d

theorem Stands.stores {s x : State} {c : Chan} (k : s.Stands x c) :
    x.engine.running = s.engine.running ∧ x.engine.waiting = s.engine.waiting ∧ x.engine.stack = s.engine.stack := by
  rw [k.engine]
  exact ⟨rfl, rfl, rfl⟩

/-- With the running start taken out, the engine has been freed. -/
theorem engineFreed_removeStart {s x : State} {c : Chan} {r : RunSlot} (k : s.Stands x c) (hr : s.engine.running = some r)
    (hch : r.ch = c) (hc : ¬s.awaiting c) : engineFreed s (x.removeStart c).flagged := by
  have hagree : s.Agree (x.renewalsCleared c).idled := by
    have hne {d : Chan} (hd : s.awaiting d) : d ≠ c := fun heq => hc (heq ▸ hd)
    obtain ⟨-, hwait, hstack⟩ := k.stores
    refine ⟨hwait, hstack, k.pins, k.loader, fun d hd => ?_, fun d hd => ?_⟩
    · exact congrArg Channel.pre (k.chans d (hne hd))
    · exact congrArg Channel.main (k.chans d (hne hd))
  rw [removeStart_of_running (r := r) (fun hw => hc (.inl (by rw [← k.engine]; exact hw))) (by rw [k.engine]; exact hr) hch]
  exact engineFreed_of_agree hagree (freeEngine_freed rfl)

/-- The renewal bookkeeping of a removed start is cleared. -/
theorem renewalsGone_removeStart {x : State} {c : Chan} (h : x.tracked c = true) : (x.removeStart c).renewalsGone c := by
  have hcleared := renewalsGone_cleared x c
  by_cases hw : x.engine.waiting = some c
  · rw [removeStart_of_waiting hw]
    exact hcleared
  · by_cases hr : x.engine.running.map (·.ch) = some c
    · obtain ⟨r, hr', hch⟩ := Option.map_eq_some_iff.mp hr
      rw [removeStart_of_running hw hr' hch]
      exact renewalsGone_freeEngine hcleared
    · rw [removeStart_of_stacked hw hr (((tracked_iff x c).mp h).resolve_left hr |>.resolve_left hw)]
      exact hcleared

/-- A channel that an engine with its laws does not take up is left by the removal of a start. -/
theorem chan_removeStart_of_not_awaiting {x : State} {c d : Chan} (hd : ¬x.awaiting d) : (x.removeStart c).chan d = x.chan d := by
  cases htr : x.tracked c with
  | false => rw [removeStart_of_not_tracked htr]
  | true =>
    by_cases hw : x.engine.waiting = some c
    · rw [removeStart_of_waiting hw]
      rfl
    · by_cases hr : x.engine.running.map (·.ch) = some c
      · obtain ⟨r, hr', hch⟩ := Option.map_eq_some_iff.mp hr
        rw [removeStart_of_running hw hr' hch]
        exact chan_freeEngine_other (s := (x.renewalsCleared c).idled) (fun hw => hd (.inl hw)) fun hs => hd (.inr hs)
      · rw [removeStart_of_stacked hw hr (((tracked_iff x c).mp htr).resolve_left hr |>.resolve_left hw)]
        rfl

theorem awaiting_of_stands {s x : State} {c : Chan} (k : s.Stands x c) (d : Chan) : x.awaiting d ↔ s.awaiting d := by
  unfold awaiting
  rw [k.engine]

theorem tracked_of_stands {s x : State} {c : Chan} (k : s.Stands x c) (d : Chan) : x.tracked d = s.tracked d := by
  rw [Bool.eq_iff_iff, tracked_iff, tracked_iff, k.engine]

/-- A start taken from the engine, at the end of the step. -/
theorem startRemoved_of {s x t : State} {c : Chan} (h : EngineLaw s) (hc : s.tracked c = true) (k : s.Stands x c)
    (ht : t.engine = (x.removeStart c).engine) (hcar : ∀ d, d ≠ c → Carried (x.removeStart c).flagged t d) :
    startRemoved s t c := by
  have hgone : t.renewalsGone c := by
    have := renewalsGone_removeStart (x := x) (c := c) (by rw [tracked_of_stands k]; exact hc)
    exact renewalsGone_of_engine this (by rw [ht]) (by rw [ht])
  have hkept {r : RunSlot} (hr : s.engine.running = some r) (hne : r.ch ≠ c) : t.chan r.ch = s.chan r.ch := by
    have hst : (s.chan r.ch).state = .starting := (h.1 r.ch).1.mp (by rw [hr]; rfl)
    have hno : ¬x.awaiting r.ch := by
      rw [awaiting_of_stands k]
      rintro (hw | hs)
      · rw [(h.1 r.ch).2.1.mp hw] at hst
        cases hst
      · rw [(h.1 r.ch).2.2.mp hs] at hst
        cases hst
    have hu : (x.removeStart c).flagged.chan r.ch = s.chan r.ch :=
      (chan_removeStart_of_not_awaiting (x := x) hno).trans (k.chans _ hne)
    have hcarry := (hcar r.ch hne).chan (by rw [hu, hst]; simp [inQueue])
    exact hcarry.trans hu
  rcases tracked_cases h hc with ⟨r, hr, hch, hno⟩ | ⟨hw, hr, hs⟩ | ⟨hs, hr, hw⟩
  · refine ⟨fun _ _ _ => ?_, fun hw => absurd (.inl hw) hno, fun hs => absurd (.inr hs) hno, fun q hq => hkept hq, hgone⟩
    refine engineFreed_carried (engineFreed_removeStart k hr hch hno) ?_ ?_ ?_ fun d hd => hcar d fun heq => hno (heq ▸ hd)
    all_goals rw [ht]; rfl
  · have hnot {r : RunSlot} (hq : s.engine.running = some r) : r.ch ≠ c := fun heq => hr (by rw [hq, ← heq]; rfl)
    have heng := removeStart_of_waiting (s := x) (c := c) (by rw [k.engine]; exact hw)
    refine ⟨fun q hq hch => absurd hch (hnot hq), fun _ => ?_, fun hm => absurd hm hs, fun q hq => hkept hq, hgone⟩
    rw [ht, heng]
    obtain ⟨hrun, -, hstack⟩ := k.stores
    exact ⟨hrun, rfl, hstack⟩
  · have hnot {r : RunSlot} (hq : s.engine.running = some r) : r.ch ≠ c := fun heq => hr (by rw [hq, ← heq]; rfl)
    have heng := removeStart_of_stacked (s := x) (c := c) (by rw [k.engine]; exact hw) (by rw [k.engine]; exact hr)
      (by rw [k.engine]; exact hs)
    refine ⟨fun q hq hch => absurd hch (hnot hq), fun hm => absurd hm hw, fun _ => ?_, fun q hq => hkept hq, hgone⟩
    rw [ht, heng]
    obtain ⟨hrun, hwait, -⟩ := k.stores
    refine ⟨hrun, hwait, ?_⟩
    rw [← k.engine]
    rfl

/-- A removed start's channel is left. -/
theorem chan_removed {s x : State} {c : Chan} (h : EngineLaw s) (k : s.Stands x c) (hc : s.tracked c = true) :
    (x.removeStart c).chan c = x.chan c := by
  rcases tracked_cases h hc with ⟨r, -, -, hno⟩ | ⟨hw, -, -⟩ | ⟨hs, hr, hw⟩
  · exact chan_removeStart_of_not_awaiting (by rw [awaiting_of_stands k]; exact hno)
  · rw [removeStart_of_waiting (by rw [k.engine]; exact hw)]
    rfl
  · rw [removeStart_of_stacked (by rw [k.engine]; exact hw) (by rw [k.engine]; exact hr) (by rw [k.engine]; exact hs)]
    rfl

/-! ## A removed start is in the engine no more -/

/-- The engine takes up only what waits in it. -/
theorem running_freeLoop (n : Nat) {s : State} {c : Chan} (hno : ¬s.awaiting c)
    (hr : s.engine.running.map (·.ch) ≠ some c) : ¬(freeLoop n s).awaiting c ∧ (freeLoop n s).engine.running.map (·.ch) ≠ some c := by
  induction n generalizing s with
  | zero => exact ⟨hno, hr⟩
  | succ n ih =>
    unfold freeLoop
    split
    · exact ⟨hno, hr⟩
    · split
      · next d hw =>
        obtain ⟨hrun, hwait, hstack⟩ := s.unwaited.beginStart_engine d
        refine ih (s := s.unwaited.beginStart d) ?_ ?_
        · unfold awaiting
          rw [hwait, hstack]
          rintro (hn | hs)
          · cases hn
          · exact hno (.inr hs)
        · rw [hrun]
          cases runEnd s.unwaited d 0 with
          | waits j left => exact fun heq => hno (.inl (by rw [hw]; exact heq))
          | completes | fails => simp [StepsEnd.slot]
      · split
        · next k rest hs =>
          obtain ⟨hwait, hstack⟩ := resume_engine (s.popped rest) k
          have hck : k.ch ≠ c := fun heq => hno (.inr (by simp [hs, heq]))
          refine ih (s := (s.popped rest).resume k) ?_ ?_
          · unfold awaiting
            rw [hwait, hstack]
            rintro (hn | hm)
            · exact hno (.inl hn)
            · refine hno (.inr ?_)
              rw [hs, List.map_cons]
              exact List.mem_cons_of_mem _ hm
          · have hcases : ((s.popped rest).taken k).Resumes k ((s.popped rest).resume k) := resume_cases _ k
            generalize (s.popped rest).resume k = t at hcases ⊢
            cases hcases with
            | waits left => exact fun heq => hck (Option.some.inj heq)
            | steps i =>
              rw [(takeSteps_engine _ k.ch i).1]
              cases runEnd ((s.popped rest).taken k) k.ch i with
              | waits j left => exact fun heq => hck (Option.some.inj heq)
              | completes | fails => simp [StepsEnd.slot]
            | fails => simp
        · exact ⟨hno, hr⟩

theorem not_tracked_removed {s x : State} {c : Chan} (h : EngineLaw s) (k : s.Stands x c) (hc : s.tracked c = true) :
    (x.removeStart c).tracked c = false := by
  rw [not_tracked_iff]
  rcases tracked_cases h hc with ⟨r, hr, hch, hno⟩ | ⟨hw, hr, hs⟩ | ⟨hs, hr, hw⟩
  · have hx : ¬x.awaiting c := by rw [awaiting_of_stands k]; exact hno
    rw [removeStart_of_running (r := r) (fun hw => hx (.inl hw)) (by rw [k.engine]; exact hr) hch, freeEngine_of_idle rfl]
    obtain ⟨hnot, hrun⟩ := running_freeLoop (s := (x.renewalsCleared c).idled) (c := c) 5 hx (by simp [idled])
    exact ⟨hrun, fun hw => hnot (.inl hw), fun hs => hnot (.inr hs)⟩
  · rw [removeStart_of_waiting (by rw [k.engine]; exact hw)]
    refine ⟨?_, nofun, ?_⟩
    · show x.engine.running.map (·.ch) ≠ some c
      rw [k.engine]; exact hr
    · show c ∉ x.engine.stack.map (·.ch)
      rw [k.engine]; exact hs
  · rw [removeStart_of_stacked (by rw [k.engine]; exact hw) (by rw [k.engine]; exact hr) (by rw [k.engine]; exact hs)]
    refine ⟨?_, ?_, ?_⟩
    · show x.engine.running.map (·.ch) ≠ some c
      rw [k.engine]; exact hr
    · show x.engine.waiting ≠ some c
      rw [k.engine]; exact hw
    · show c ∉ (x.engine.stack.filter fun k => decide (k.ch ≠ c)).map (·.ch)
      simp

end State

end Sys2Proof.Machine
end

section
/-! Starts aborted by a hold that ran out (O40) and by an EXPIRE (O14). -/

namespace Sys2Proof.Machine

open Sys2Proof

namespace State

/-! ## One start aborted -/

theorem Stands.outsOff {s x : State} {c : Chan} (k : s.Stands x c) : s.Stands (x.outsOff c) c :=
  ⟨k.engine, k.pins, k.loader, fun d hd => by rw [chan_outsOff, if_neg hd]; exact k.chans d hd⟩

theorem abortStart_eq (s : State) (c : Chan) (rel : Release) (kind : FaultKind) (a : Option Addr) :
    s.abortStart c rel kind a =
      ((((s.outsOff c).removeStart c).setRelease c rel).log kind (some c) (s.startStep c) a).join c := rfl

/-- The channel of an aborted start. -/
theorem chan_abortStart {s x : State} {c : Chan} (h : EngineLaw s) (k : s.Stands x c) (hc : s.tracked c = true)
    (rel : Release) (kind : FaultKind) (a : Option Addr) :
    (x.abortStart c rel kind a).chan c =
      { x.chan c with pre := false, main := false, release := rel, state := .queued } := by
  have hself : (((x.outsOff c).removeStart c)).chan c = { x.chan c with pre := false, main := false } := by
    rw [chan_removed h k.outsOff hc, chan_outsOff, if_pos rfl]
  have hlog (u : State) : (u.log kind (some c) (x.startStep c) a).chan c = u.chan c := rfl
  rw [abortStart_eq, chan_join, if_pos rfl, hlog, chan_setRelease, if_pos rfl, hself]

theorem abortStart_record (s : State) (c : Chan) (rel : Release) (kind : FaultKind) (a : Option Addr) :
    ∃ r, (s.abortStart c rel kind a).faults.records.head? = some r ∧ r.kind = kind ∧ r.ch = some c ∧ r.peer = a
      ∧ r.step = s.startStep c := by
  rw [abortStart_eq]
  simp only [join_keeps]
  exact ⟨_, rfl, rfl, rfl, rfl, rfl⟩

/-- Before the record of an abort the newest record is what the removal left. -/
theorem abortStart_before (s : State) (c : Chan) (rel : Release) (kind : FaultKind) (a : Option Addr) :
    (s.abortStart c rel kind a).faults.records.tail.head? = ((s.outsOff c).removeStart c).faults.records.head? := by
  rw [abortStart_eq]
  simp only [join_keeps]
  show (((_ :: (((s.outsOff c).removeStart c).setRelease c rel).faults.records).take 8).tail).head? = _
  rw [List.take_succ_cons, List.tail_cons]
  simp only [setRelease_keeps]
  cases ((s.outsOff c).removeStart c).faults.records <;> rfl

/-- An aborted start has been taken from the engine, but for the record of the abort. -/
theorem abortStart_removed {s x t : State} {c : Chan} (h : EngineLaw s) (k : s.Stands x c) (hc : s.tracked c = true)
    {rel : Release} {kind : FaultKind} {a : Option Addr} (ht : t.engine = (x.abortStart c rel kind a).engine)
    (hch : ∀ d, sameButOffer (t.chan d) ((x.abortStart c rel kind a).chan d))
    (hf : t.faults = (x.abortStart c rel kind a).faults) (hflt : ∀ d, (t.chan d).state = .faulted → t.indicators.flt = true) :
    startRemoved s t.beforeRecord c := by
  refine startRemoved_of h hc k.outsOff ?_ fun d hd => ⟨fun hq => ?_, ?_, hflt d⟩
  · show t.engine = _
    rw [ht, abortStart_eq]
    simp
  · have hother : (x.abortStart c rel kind a).chan d = ((x.outsOff c).removeStart c).chan d := by
      have hlog (u : State) : (u.log kind (some c) (x.startStep c) a).chan d = u.chan d := rfl
      rw [abortStart_eq, chan_join, if_neg hd, hlog, chan_setRelease, if_neg hd]
    exact (eq_of_sameButOffer (hch d) (by rw [hother]; exact hq)).trans hother
  · show t.faults.records.tail.head? = _
    rw [hf, abortStart_before]
    rfl

/-- FLT at the end of a step of a live station shows every FAULTED channel. -/
theorem finish_flt {u : State} (hl : u.live = true) (d : Chan) (h : (u.finish.chan d).state = .faulted) :
    u.finish.indicators.flt = true := (carried_finish hl d).flt h

/-! ## The record of a lost EXPIRE or hold -/

theorem abortStart_live (s : State) (c : Chan) (rel : Release) (kind : FaultKind) (a : Option Addr) :
    (s.abortStart c rel kind a).live = s.live := live_of_keeps (by simp) (by simp)

theorem startStep_of_engine {s t : State} (h : t.engine = s.engine) (c : Chan) : t.startStep c = s.startStep c := by
  unfold startStep
  rw [h]

theorem faults_hearPeer_present {s : State} {a : Addr} {hello : Bool} (h : (s.peer a).state = .present) :
    (s.hearPeer a hello).faults = s.faults := by
  have hheard : (s.heardFrom a hello).faults = s.faults := by
    unfold heardFrom
    rw [if_pos (.inl h)]
    rfl
  rw [hearPeer_heardFrom]
  split
  · rw [← hheard]
    simp
  · exact hheard

/-! ## The own entry expired -/

theorem ownEntryExpired_inEngine {s : State} {c : Chan} {q : Seq} (hq : (s.chan c).seq = some q)
    (h : (s.chan c).state.inEngine = true) (a : Addr) :
    s.ownEntryExpired c q a = s.abortStart c .none .claimExpired (some a) := by
  unfold ownEntryExpired
  rw [if_pos hq]
  cases hst : (s.chan c).state
  case pending => rfl
  case starting => rfl
  case suspended => rfl
  all_goals
    rw [hst] at h
    cases h

theorem ownEntryExpired_settling {s : State} {c : Chan} {q : Seq} (hq : (s.chan c).seq = some q)
    (h : (s.chan c).state = .settling) (a : Addr) : s.ownEntryExpired c q a = s.settleExpired c a := by
  unfold ownEntryExpired
  rw [if_pos hq, h]

/-- An abandoned release of a channel with no start in progress is cleared. -/
theorem ownEntryExpired_abandoned {s : State} {c : Chan} {q : Seq} {why : Reason} (hq : (s.chan c).seq = some q)
    (h : (s.chan c).state = .idle ∨ (s.chan c).state = .queued ∨ (s.chan c).state = .faulted)
    (hrel : (s.chan c).release = .abandoned why) (a : Addr) : s.ownEntryExpired c q a = s.clearRelease c := by
  unfold ownEntryExpired
  rw [if_pos hq, hrel]
  rcases h with h | h | h <;> rw [h]

theorem ownEntryExpired_engine {s : State} {c : Chan} {q : Seq} (hq : (s.chan c).seq = some q)
    (h : (s.chan c).state.inEngine = false) (a : Addr) : (s.ownEntryExpired c q a).engine = s.engine := by
  unfold ownEntryExpired
  rw [if_pos hq]
  split
  iterate 3
    · next hst =>
      rw [hst] at h
      cases h
  · simp [settleExpired]
  all_goals split <;> simp

theorem chan_settleExpired (s : State) (c : Chan) (a : Addr) :
    (s.settleExpired c a).chan c = { s.chan c with pre := false, main := false, release := .none, state := .queued } := by
  have hlog (u : State) : (u.log .claimExpired (some c) none (some a)).chan c = u.chan c := rfl
  unfold settleExpired
  dsimp only
  rw [chan_join, if_pos rfl, hlog, chan_setRelease, if_pos rfl, chan_outsOff, if_pos rfl]

theorem settleExpired_record (s : State) (c : Chan) (a : Addr) :
    ∃ r, (s.settleExpired c a).faults.records.head? = some r ∧ r.kind = .claimExpired ∧ r.ch = some c ∧ r.peer = some a
      ∧ r.step = none := by
  unfold settleExpired
  simp only [join_keeps]
  exact ⟨_, rfl, rfl, rfl, rfl, rfl⟩

/-- What an EXPIRE of the own entry acts on: the frame heard, the entry removed. -/
def expireHeard (s : State) (rx : Rx) (p : ExpirePayload) : State :=
  (s.heard rx (.expire p)).dropNamed p.owner p.ch p.seq

theorem expireHeard_stands (s : State) (rx : Rx) (p : ExpirePayload) (c : Chan) : s.Stands (s.expireHeard rx p) c :=
  ⟨by simp [expireHeard], by simp [expireHeard], by simp [expireHeard], fun d _ => chan_of_channels (by simp [expireHeard]) d⟩

theorem chan_expireHeard (s : State) (rx : Rx) (p : ExpirePayload) (c : Chan) :
    (s.expireHeard rx p).chan c = s.chan c := chan_of_channels (by simp [expireHeard]) c

theorem expireHeard_live (s : State) (rx : Rx) (p : ExpirePayload) : (s.expireHeard rx p).live = s.live := by
  rw [← heard_live s rx (.expire p)]
  exact live_of_keeps (by simp [expireHeard]) (by simp [expireHeard])

/-- An EXPIRE of the own entry acts at its channel. -/
theorem exec_expire_own {s : State} {rx : Rx} {p : ExpirePayload} (h : s.takesOther rx (.expire p) = true)
    (hl : s.live = true) (hown : p.owner = s.own) (hn : (s.namedEntry p.owner p.ch p.seq).isSome = true) :
    exec (.expire rx p) s = .next ((s.expireHeard rx p).ownEntryExpired p.ch p.seq rx.sender).frameEnds.finish := by
  rw [exec_taken (c := .expire rx p) rfl (takes_of_takesOther h).1 rfl, applyExpire_eq, if_pos]
  · rfl
  · rw [heard_namedEntry, heard_own, heard_live]
    exact ⟨hn, hown, hl⟩

end State

open State

/-- Settles O14: the named own entry expires by its channel's state, as the model's cases say. -/
theorem expireOfTheOwnEntry : Obligations.ExpireOfTheOwnEntry := by
  intro rx p s h hl heng hown hn hq
  have hseq : ((s.expireHeard rx p).chan p.ch).seq = some p.seq := by rw [chan_expireHeard]; exact hq
  have hstands := s.expireHeard_stands rx p p.ch
  have hlive := (s.expireHeard_live rx p).trans hl
  have hrecord {w : State} {k : FaultKind} {i : Option Nat}
      (hw : ∃ r, w.faults.records.head? = some r ∧ r.kind = k ∧ r.ch = some p.ch ∧ r.peer = some rx.sender ∧ r.step = i) :
      ∃ r, w.frameEnds.finish.faults.records.head? = some r ∧ r.kind = k ∧ r.ch = some p.ch ∧ r.peer = some rx.sender
        ∧ r.step = i := by simpa using hw
  refine ⟨_, exec_expire_own h hl hown hn, fun hin => ?_, fun hin => ?_, fun hin => ?_, fun hst => ?_, fun why hst hrel => ?_⟩
  · have htr := tracked_of_engineLaw heng hin
    rw [ownEntryExpired_inEngine hseq (by rw [chan_expireHeard]; exact hin)]
    have hchan := chan_abortStart heng hstands htr .none .claimExpired (some rx.sender)
    have hend := sameButOffer_frameEnds_finish
      ((s.expireHeard rx p).abortStart p.ch .none .claimExpired (some rx.sender)) p.ch
    rw [hchan] at hend
    obtain ⟨-, -, hrel, -, -, -, -, -, -, -, hpre, hmain⟩ := fields_of_sameButOffer hend
    refine ⟨inQueue_of_sameButOffer hend (.inl rfl), ⟨hpre, hmain⟩, hrel, ?_⟩
    rw [← startStep_of_engine hstands.engine]
    obtain ⟨r, htop, hkind, hch, hpeer, hstep⟩ := hrecord (abortStart_record (s.expireHeard rx p) p.ch .none .claimExpired
      (some rx.sender))
    exact ⟨r, htop, hkind, hch, hpeer, hstep⟩
  · have htr := tracked_of_engineLaw heng hin
    rw [ownEntryExpired_inEngine hseq (by rw [chan_expireHeard]; exact hin)]
    refine abortStart_removed heng hstands htr (by simp) (fun d => sameButOffer_frameEnds_finish _ d) (by simp) fun d =>
      finish_flt ?_ d
    rw [frameEnds_live, abortStart_live]
    exact hlive
  · simp only [finish_keeps, frameEnds_keeps]
    rw [ownEntryExpired_engine hseq (by rw [chan_expireHeard]; exact hin), hstands.engine]
  · rw [ownEntryExpired_settling hseq (by rw [chan_expireHeard]; exact hst)]
    have hend := sameButOffer_frameEnds_finish ((s.expireHeard rx p).settleExpired p.ch rx.sender) p.ch
    rw [chan_settleExpired] at hend
    obtain ⟨-, -, hrel, -, -, -, -, -, -, -, hpre, hmain⟩ := fields_of_sameButOffer hend
    exact ⟨inQueue_of_sameButOffer hend (.inl rfl), ⟨hpre, hmain⟩, hrel, hrecord (settleExpired_record _ _ _)⟩
  · rw [ownEntryExpired_abandoned hseq (by rw [chan_expireHeard]; exact hst) (by rw [chan_expireHeard]; exact hrel)]
    have hchan : ((s.expireHeard rx p).clearRelease p.ch).chan p.ch = { s.chan p.ch with release := .none } := by
      rw [chan_clearRelease, if_pos rfl, chan_expireHeard]
    have hend := sameButOffer_frameEnds_finish ((s.expireHeard rx p).clearRelease p.ch) p.ch
    rw [hchan] at hend
    obtain ⟨-, -, hnone, -⟩ := fields_of_sameButOffer hend
    refine ⟨hnone, ?_, fun hpres => ?_⟩
    · have hback := sameButOffer_map (fun k : Channel => { k with release := .abandoned why }) (fun _ => rfl)
        (fun _ _ => rfl) hend
      have hsame : { s.chan p.ch with release := .abandoned why } = s.chan p.ch := by rw [← hrel]
      dsimp only at hback
      rw [hsame] at hback
      exact hback
    · have hheard : (s.heard rx (.expire p)).faults = s.faults := by
        rw [heard_of_other (takes_of_takesOther h).2]
        exact faults_hearPeer_present hpres
      simp [expireHeard, hheard]

/-- Settles O40: the hold that ran out aborts the tracked start by `abortStart`, whose pending release keeps it QUEUED. -/
theorem holdExceededAborts : Obligations.HoldExceededAborts := by
  intro c s e hl heng he hrun
  refine ⟨_, exec_holdRunsOutAtOwner (live_operating hl) he hrun, fun htr hq => ?_, fun hno => ?_⟩
  · have hstands : s.Stands (s.holdEnds s.own c false) c := ⟨rfl, rfl, rfl, fun _ _ => rfl⟩
    have hout : (s.holdEnds s.own c false).ownHoldOut c e.seq
        = (s.holdEnds s.own c false).abortStart c (.abandoned .holdExceeded) .holdExceeded none := by
      refine if_pos ?_
      have hlive : (s.holdEnds s.own c false).live = true := hl
      have htrack : (s.holdEnds s.own c false).tracked c = true := htr
      have hseq : ((s.holdEnds s.own c false).chan c).seq = some e.seq := hq
      simp [hlive, htrack, hseq]
    rw [hout]
    have hchan := chan_abortStart heng hstands htr (.abandoned .holdExceeded) .holdExceeded none
    have hfin := chan_finish_barred (s := (s.holdEnds s.own c false).abortStart c (.abandoned .holdExceeded) .holdExceeded none)
      (c := c) (by rw [hchan]) (.inr (.inr (by rw [hchan]; exact Release.noConfusion)))
    rw [hfin, hchan]
    refine ⟨rfl, ⟨rfl, rfl⟩, rfl, ?_, ?_⟩
    · refine abortStart_removed heng hstands htr (by simp) (finish_same _) (by simp) fun d => finish_flt ?_ d
      rw [abortStart_live]
      exact hl
    · obtain ⟨r, htop, hkind, hch, -, hstep⟩ := abortStart_record (s.holdEnds s.own c false) c (.abandoned .holdExceeded)
        .holdExceeded none
      exact ⟨r, by simpa using htop, hkind, hch, hstep⟩
  · have hout : (s.holdEnds s.own c false).ownHoldOut c e.seq = s.holdEnds s.own c false := by
      refine if_neg ?_
      simp only [Bool.and_eq_true, decide_eq_true_eq, not_and]
      rintro ⟨-, htr⟩ hseq
      rcases hno with h | h
      · exact absurd (h.symm.trans htr) Bool.false_ne_true
      · exact h hseq
    rw [hout]
    exact ⟨sameLocal_trans (t := s.holdEnds s.own c false) (sameLocal_of_keeps rfl ⟨rfl, rfl, rfl, rfl, rfl, rfl, rfl, rfl, rfl⟩)
      (finish_sameLocal _), by simp⟩

end Sys2Proof.Machine
end

section
/-! Demand off (R69-R72, O43). -/

namespace Sys2Proof.Machine

open Sys2Proof

namespace State

/-! ## What demand off leaves -/

theorem chan_latchOff (s : State) (c d : Chan) :
    (s.latchOff c).chan d = if d = c then { s.chan c with latch := false, mark := false } else s.chan d := by
  unfold latchOff
  rw [chan_clearMark]
  split
  · rw [chan_modChan, if_pos rfl]
  · next h => rw [chan_modChan, if_neg h]

/-- The latch off, before what the channel's state makes of it: the request taken, the latch and the mark off. -/
def unlatched (s : State) (c : Chan) : State := (s.requestTaken c).latchOff c

/-- The record of the channel then. -/
def unlatchedChannel (s : State) (c : Chan) : Channel :=
  { s.chan c with debounceTimer := none, debounced := s.pins.req.get c, latch := false, mark := false }

theorem chan_unlatched (s : State) (c d : Chan) :
    (s.unlatched c).chan d = if d = c then s.unlatchedChannel c else s.chan d := by
  rw [unlatched, chan_latchOff, chan_requestTaken, if_pos rfl, chan_requestTaken]
  split
  · rfl
  · rfl

theorem unlatched_keeps (s : State) (c : Chan) :
    (s.unlatched c).pins = s.pins ∧ (s.unlatched c).engine = s.engine ∧ (s.unlatched c).loader = s.loader
      ∧ (s.unlatched c).bus = s.bus ∧ (s.unlatched c).faults = s.faults := by
  have h : (s.requestTaken c).pins = s.pins ∧ (s.requestTaken c).engine = s.engine ∧ (s.requestTaken c).loader = s.loader
      ∧ (s.requestTaken c).bus = s.bus ∧ (s.requestTaken c).faults = s.faults := ⟨rfl, rfl, rfl, rfl, rfl⟩
  simpa [unlatched, latchOff] using h

theorem unlatched_stands (s : State) (c : Chan) : s.Stands (s.unlatched c) c := by
  obtain ⟨hp, he, hl, -⟩ := s.unlatched_keeps c
  exact ⟨he, hp, hl, fun d hd => by rw [chan_unlatched, if_neg hd]⟩

/-- A request that turns the latch off puts demand off (R69). -/
theorem debounced_of_release {s : State} {c : Chan} (hne : s.pins.req.get c ≠ (s.chan c).debounced)
    (hon : (s.chan c).latch = true)
    (hoff : (s.cfg c).requestMode = .level ∧ s.pins.req.get c = false
      ∨ (s.cfg c).requestMode = .toggle ∧ s.pins.req.get c = true) :
    s.debounced c = (s.requestTaken c).demandOff c := by
  rcases s.debounced_cases c with ⟨hnew, -⟩ | ⟨hnew, hlatch, -⟩ | ⟨-, -, heq⟩
  · rw [if_neg hne, hon] at hnew
    rcases hoff with ⟨hm, hl⟩ | ⟨hm, hl⟩ <;> simp [hm, hl] at hnew
  · rw [hon] at hlatch
    cases hlatch
  · exact heq

/-- The outputs of a channel that drives none are off. -/
theorem off_of_outputLaw {s : State} (h : OutputLaw s) {c : Chan} (hc : (s.chan c).state.drives = false) :
    outsAreOff (s.chan c) := by
  rcases h c with hst | hst | hst | hst | hoff
  · rw [hst] at hc; cases hc
  · rw [hst] at hc; cases hc
  · rw [hst] at hc; cases hc
  · rw [hst] at hc; cases hc
  · exact hoff

/-- An idle channel stays as it is at the end of a step. -/
theorem chan_finish_idle {u : State} {c : Chan} (h : (u.chan c).state = .idle) : u.finish.chan c = u.chan c :=
  eq_of_sameButOffer (finish_same u c) (by rw [h]; simp [inQueue])

theorem settledOnBus_of_bus {s t : State} (h : t.bus = s.bus) (c : Chan) : t.settledOnBus c = s.settledOnBus c := by
  unfold settledOnBus
  rw [h]

theorem claimOnBus_of_bus {s t : State} (h : t.bus = s.bus) (c : Chan) : t.claimOnBus c = s.claimOnBus c := by
  unfold claimOnBus
  rw [h]

/-- Demand off of a waiting channel: its entry leaves the queue, its claim on the bus is withdrawn (R59, R69). -/
def queueLeft (s : State) (c : Chan) : State :=
  ((if (s.chan c).state = .claiming then (s.unlatched c).claimTakenBack c else s.unlatched c).leave c).enter c .idle

theorem demandOff_queueLeft {s : State} {c : Chan} (h : inQueue (s.chan c).state) :
    (s.requestTaken c).demandOff c = s.queueLeft c := by
  have hst : ((s.requestTaken c).chan c).state = (s.chan c).state := by rw [chan_requestTaken, if_pos rfl]
  unfold queueLeft
  rcases h with h | h
  · rw [demandOff_of_queued (hst.trans h), h]
    rfl
  · rw [demandOff_of_claiming (hst.trans h), if_pos h]
    rfl

theorem chan_queueLeft (s : State) (c : Chan) :
    (s.queueLeft c).chan c = { s.unlatchedChannel c with state := .idle } := by
  unfold queueLeft
  rw [chan_enter, if_pos rfl, chan_leave]
  split
  · rw [chan_claimTakenBack, chan_unlatched, if_pos rfl]
  · rw [chan_unlatched, if_pos rfl]

theorem queueLeft_entries (s : State) (c : Chan) : ∀ e ∈ (s.queueLeft c).queue.entries, e.ch ≠ c := by
  intro e he
  unfold queueLeft at he
  exact of_decide_eq_true (List.mem_filter.mp he).2

theorem claimSeq_clearMark (s : State) (c : Chan) : (s.clearMark c).queue.claimSeq = s.queue.claimSeq := by
  unfold clearMark
  split
  · simp only [judgeSampling_keeps]
    rfl
  · rfl

theorem claimTakenBack_keeps (s : State) (c : Chan) :
    (s.claimTakenBack c).engine = s.engine ∧ (s.claimTakenBack c).queue = s.queue
      ∧ (s.claimTakenBack c).faults = s.faults := by
  unfold claimTakenBack
  split <;> exact ⟨rfl, rfl, rfl⟩

theorem queueLeft_says (s : State) (c : Chan) :
    (s.queueLeft c).engine = s.engine ∧ (s.queueLeft c).queue.claimSeq = s.queue.claimSeq
      ∧ (s.queueLeft c).faults = s.faults := by
  obtain ⟨-, he, -, -, hf⟩ := s.unlatched_keeps c
  obtain ⟨hte, htq, htf⟩ := (s.unlatched c).claimTakenBack_keeps c
  have hseq : (s.unlatched c).queue.claimSeq = s.queue.claimSeq := claimSeq_clearMark _ c
  unfold queueLeft
  split
  · exact ⟨hte.trans he, (congrArg ClaimQueue.claimSeq htq).trans hseq, htf.trans hf⟩
  · exact ⟨he, hseq, hf⟩

/-- A claim on the bus has been withdrawn there, its frame in progress (R59). -/
theorem queueLeft_bus {s : State} {c : Chan} (hst : (s.chan c).state = .claiming) (hbus : s.claimOnBus c = true) :
    (s.queueLeft c).claimWithdrawn = true ∧ (s.queueLeft c).bus.tx.map (·.frame) = s.bus.tx.map (·.frame)
      ∧ (s.queueLeft c).bus.tx.isSome = true := by
  obtain ⟨-, -, -, hb, -⟩ := s.unlatched_keeps c
  obtain ⟨x, htx⟩ := Option.isSome_iff_exists.mp (tx_of_claimOnBus hbus)
  have htaken : ((s.unlatched c).claimTakenBack c).bus.tx = some { x with withdrawn := true } := by
    unfold claimTakenBack
    rw [if_pos (by rw [claimOnBus_of_bus hb]; exact hbus)]
    show Option.map _ (s.unlatched c).bus.tx = _
    rw [hb, htx]
    rfl
  have hleft : ∃ y, (s.queueLeft c).bus.tx = some y ∧ y.frame = x.frame ∧ y.withdrawn = true := by
    unfold queueLeft
    rw [if_pos hst]
    refine ⟨if x.shedFor = some c then { x with withdrawn := true, shedFor := none } else { x with withdrawn := true },
      ?_, ?_, ?_⟩
    · show Option.map _ ((s.unlatched c).claimTakenBack c).bus.tx = _
      rw [htaken]
      rfl
    · split <;> rfl
    · split <;> rfl
  obtain ⟨y, hy, hframe, hw⟩ := hleft
  unfold claimWithdrawn
  rw [hy, htx]
  exact ⟨hw, congrArg some hframe, rfl⟩

/-- Demand off of a start in progress (R70). -/
def startLeft (s : State) (c : Chan) : State :=
  ((((s.unlatched c).outsOff c).removeStart c).setRelease c (.abandoned .requestOff)).enter c .idle

theorem chan_startLeft {s : State} {c : Chan} (h : EngineLaw s) (hc : s.tracked c = true) :
    (s.startLeft c).chan c =
      { s.unlatchedChannel c with pre := false, main := false, release := .abandoned .requestOff, state := .idle } := by
  unfold startLeft
  rw [chan_enter, if_pos rfl, chan_setRelease, if_pos rfl, chan_removed h (s.unlatched_stands c).outsOff hc, chan_outsOff,
    if_pos rfl, chan_unlatched, if_pos rfl]

theorem startLeft_engine (s : State) (c : Chan) :
    (s.startLeft c).engine = (((s.unlatched c).outsOff c).removeStart c).engine := rfl

theorem startLeft_removed {s : State} {c : Chan} (h : EngineLaw s) (hc : s.tracked c = true) (hl : (s.startLeft c).live = true) :
    startRemoved s (s.startLeft c).finish c := by
  refine startRemoved_of h hc (s.unlatched_stands c).outsOff (by simp [startLeft]) fun d hd => ⟨fun hq => ?_, ?_, finish_flt hl d⟩
  · have hother : (s.startLeft c).chan d = (((s.unlatched c).outsOff c).removeStart c).chan d := by
      unfold startLeft
      rw [chan_enter, if_neg hd, chan_setRelease, if_neg hd]
    exact (eq_of_sameButOffer (finish_same _ d) (by rw [hother]; exact hq)).trans hother
  · simp only [finish_keeps]
    rfl

/-- Demand off of the other states: the record it leaves. -/
def courseLeft (s : State) (c : Chan) : Channel :=
  match (s.chan c).state with
  | .settling =>
    if s.settledOnBus c then
      { s.unlatchedChannel c with pre := false, main := false, state := .idle, settleWithdrawn := true }
    else
      { s.unlatchedChannel c with
        pre := false, main := false, state := .idle, release := .abandoned .requestOff, settleWithdrawn := false }
  | .on =>
    { s.unlatchedChannel c with
      pre := false, main := false, state := .idle, release := .stopped .requestOff, senseGrace := none }
  | .shed => { s.unlatchedChannel c with state := .idle, shedRest := none }
  | _ => { s.unlatchedChannel c with state := .idle }

/-- Demand off of a channel that neither waits nor has a start in progress leaves engine and faults. -/
theorem demandOff_courseLeft {s : State} {c : Chan} (hq : ¬inQueue (s.chan c).state)
    (he : (s.chan c).state.inEngine = false) (hd : (s.chan c).state ≠ .disabled) :
    ((s.requestTaken c).demandOff c).chan c = s.courseLeft c
      ∧ ((s.requestTaken c).demandOff c).engine = s.engine ∧ ((s.requestTaken c).demandOff c).faults = s.faults := by
  obtain ⟨-, heng, -, hbus, hfaults⟩ := s.unlatched_keeps c
  have hst : ((s.requestTaken c).chan c).state = (s.chan c).state := by rw [chan_requestTaken, if_pos rfl]
  have hself : ((s.requestTaken c).latchOff c).chan c = s.unlatchedChannel c := (chan_unlatched s c c).trans (if_pos rfl)
  unfold courseLeft
  cases hcase : (s.chan c).state
  case settling =>
    have hoff : ((s.requestTaken c).settleOff c).chan c
        = { s.unlatchedChannel c with pre := false, main := false, state := .idle } := by
      rw [settleOff, chan_enter, if_pos rfl, chan_outsOff, if_pos rfl, hself]
    have hkept : ((s.requestTaken c).settleOff c).bus = s.bus ∧ ((s.requestTaken c).settleOff c).engine = s.engine
        ∧ ((s.requestTaken c).settleOff c).faults = s.faults := by
      simpa [settleOff, unlatched] using And.intro hbus (And.intro heng hfaults)
    have hon : ((s.requestTaken c).settleOff c).settledOnBus c = s.settledOnBus c := settledOnBus_of_bus hkept.1 c
    obtain ⟨-, hke, hkf⟩ := hkept
    rw [demandOff_of_settling (hst.trans hcase), hon]
    by_cases hb : s.settledOnBus c = true
    · rw [if_pos hb, chan_modChan, if_pos rfl, hoff]
      dsimp only
      rw [if_pos hb]
      exact ⟨rfl, hke, hkf⟩
    · rw [if_neg hb, chan_replaceSettled, if_pos rfl, hoff]
      dsimp only
      rw [if_neg hb]
      exact ⟨rfl, hke, hkf⟩
  case on =>
    rw [demandOff_of_on (hst.trans hcase), chan_modChan, if_pos rfl, chan_enter, if_pos rfl, chan_setRelease, if_pos rfl,
      chan_outsOff, if_pos rfl, hself]
    exact ⟨rfl, by simpa [unlatched] using heng, by simpa [unlatched] using hfaults⟩
  case shed =>
    rw [demandOff_of_shed (hst.trans hcase), chan_modChan, if_pos rfl, chan_enter, if_pos rfl, hself]
    exact ⟨rfl, by simpa [unlatched] using heng, by simpa [unlatched] using hfaults⟩
  case faulted =>
    rw [demandOff_of_faulted (hst.trans hcase), chan_enter, if_pos rfl, hself]
    exact ⟨rfl, by simpa [unlatched] using heng, by simpa [unlatched] using hfaults⟩
  case idle =>
    rw [demandOff_of_idle (.inl (hst.trans hcase)), hself]
    refine ⟨?_, by simpa [unlatched] using heng, by simpa [unlatched] using hfaults⟩
    have hidle : (s.unlatchedChannel c).state = .idle := hcase
    show s.unlatchedChannel c = { s.unlatchedChannel c with state := .idle }
    rw [← hidle]
  case disabled => exact absurd hcase hd
  case queued => exact absurd (.inl hcase) hq
  case claiming => exact absurd (.inr hcase) hq
  all_goals
    rw [hcase] at he
    cases he

theorem courseLeft_says {s : State} (h : OutputLaw s) (c : Chan) :
    (s.courseLeft c).state = .idle ∧ (s.courseLeft c).latch = false ∧ (s.courseLeft c).mark = false
      ∧ (¬inQueue (s.chan c).state → (s.chan c).state.inEngine = false → outsAreOff (s.courseLeft c)) := by
  unfold courseLeft
  cases hst : (s.chan c).state
  case settling =>
    dsimp only
    split <;> exact ⟨rfl, rfl, rfl, fun _ _ => ⟨rfl, rfl⟩⟩
  case on => exact ⟨rfl, rfl, rfl, fun _ _ => ⟨rfl, rfl⟩⟩
  case starting => exact ⟨rfl, rfl, rfl, fun _ he => by cases he⟩
  case suspended => exact ⟨rfl, rfl, rfl, fun _ he => by cases he⟩
  all_goals exact ⟨rfl, rfl, rfl, fun _ _ => off_of_outputLaw h (by rw [hst]; rfl)⟩

end State

open State

/-- Settles O43: by what demand off does in each state of the channel; a start in progress is removed by `removeStart`. -/
theorem demandOffEndsTheCourse : Obligations.DemandOffEndsTheCourse := by
  intro c s hl heng hout ht hdis hne hon hoff
  have hlive : ((s.requestTaken c).demandOff c).live = true :=
    (live_of_keeps (s := s.requestTaken c) (by simp) (by simp)).trans hl
  have hstores : ((s.requestTaken c).demandOff c).finish.starts = s.starts
      ∧ ((s.requestTaken c).demandOff c).finish.draws = s.draws
      ∧ ((s.requestTaken c).demandOff c).finish.member = s.member := by
    simp only [finish_keeps, demandOff_keeps]
    exact ⟨rfl, rfl, rfl⟩
  rw [exec_debounceTimerRunsOut hl ht, debounced_of_release hne hon hoff]
  by_cases hq : inQueue (s.chan c).state
  · have hno : (s.chan c).state.inEngine = false := by rcases hq with h | h <;> rw [h] <;> rfl
    have hdrive : (s.chan c).state.drives = false := by rcases hq with h | h <;> rw [h] <;> rfl
    obtain ⟨he, hseq, hf⟩ := s.queueLeft_says c
    rw [demandOff_queueLeft hq] at hstores ⊢
    have hself := s.chan_queueLeft c
    have hfin := chan_finish_idle (u := s.queueLeft c) (c := c) (by rw [hself])
    rw [hself] at hfin
    refine ⟨_, rfl, ?_⟩
    rw [hfin]
    refine ⟨rfl, rfl, rfl, off_of_outputLaw hout hdrive, fun _ => ⟨rfl, fun e hmem hch => ?_, by simpa using he, by simpa using hseq,
      by simpa using hf⟩, fun hst hbus => ?_, fun h => ?_, fun _ => by simpa using he, fun h => ?_, fun h => ?_, fun h => ?_,
      fun h => ?_, fun h => ?_, hstores⟩
    · obtain ⟨x, hx, hxc⟩ := (listed_iff_of_keys (queueKeys_finish (s.queueLeft c)) c).mp ⟨e, hmem, hch⟩
      exact s.queueLeft_entries c x hx hxc
    · obtain ⟨hw, hframe, htx⟩ := queueLeft_bus hst hbus
      have hb := finish_bus_of_sending htx
      unfold claimWithdrawn at hw ⊢
      rw [hb]
      exact ⟨hw, hframe⟩
    · rw [hno] at h
      cases h
    all_goals
      rw [h] at hq
      rcases hq with hq | hq <;> cases hq
  · by_cases hin : (s.chan c).state.inEngine = true
    · have htr := tracked_of_engineLaw heng hin
      have hleft : (s.requestTaken c).demandOff c = s.startLeft c :=
        demandOff_of_inEngine (by rw [chan_requestTaken, if_pos rfl]; exact hin)
      rw [hleft] at hstores hlive ⊢
      have hself := chan_startLeft heng htr
      have hfin := chan_finish_idle (u := s.startLeft c) (c := c) (by rw [hself])
      rw [hself] at hfin
      refine ⟨_, rfl, ?_⟩
      rw [hfin]
      refine ⟨rfl, rfl, rfl, ⟨rfl, rfl⟩, fun h => absurd h hq, fun h => absurd (.inr h) hq, fun _ => ⟨rfl, rfl, ?_,
        startLeft_removed heng htr hlive⟩, fun h => absurd (h.symm.trans hin) Bool.false_ne_true, fun h => ?_, fun h => ?_,
        fun h => ?_, fun h => ?_, fun h => ?_, hstores⟩
      · have hnot := not_tracked_removed heng (s.unlatched_stands c).outsOff htr
        rw [not_tracked_iff] at hnot ⊢
        simp only [finish_keeps, startLeft_engine]
        exact hnot
      all_goals
        rw [h] at hin
        cases hin
    · have hno : (s.chan c).state.inEngine = false := by simpa using hin
      obtain ⟨hself, he, hf⟩ := demandOff_courseLeft hq hno hdis
      obtain ⟨hidle, hlatch, hmark, houts⟩ := courseLeft_says hout c
      have hfin := chan_finish_idle (u := (s.requestTaken c).demandOff c) (c := c) (by rw [hself]; exact hidle)
      rw [hself] at hfin
      refine ⟨_, rfl, ?_⟩
      rw [hfin]
      simp only [finish_keeps]
      refine ⟨hidle, hlatch, hmark, houts hq hno, fun h => absurd h hq, fun h => absurd (.inr h) hq, fun h => absurd h hin,
        fun _ => he, fun h hb => ?_, fun h hb => ?_, fun h => ?_, fun h => ?_, fun h => ?_, by simpa using hstores⟩
      all_goals
        unfold courseLeft
        rw [h]
        dsimp only
      · rw [hb]
        exact ⟨rfl, hf⟩
      · rw [hb]
        exact ⟨rfl, rfl, hf⟩
      · exact ⟨rfl, rfl, hf⟩
      · exact ⟨rfl, rfl, hf⟩
      · exact ⟨rfl, hf⟩

end Sys2Proof.Machine
end

section
/-! RECOUNT of type START (R140, R141, R183, O23). -/

namespace Sys2Proof.Machine

open Sys2Proof

namespace State

/-! ## The entry of the pair -/

/-- What an operation on tables and notices alone leaves. -/
structure OnlyTables (s t : State) : Prop where
  pins : t.pins = s.pins
  power : t.power = s.power
  channels : t.channels = s.channels
  engine : t.engine = s.engine
  member : t.member = s.member
  loader : t.loader = s.loader
  faults : t.faults = s.faults

theorem OnlyTables.live {s t : State} (h : s.OnlyTables t) : t.live = s.live := live_of_keeps h.power (by rw [h.member])

theorem OnlyTables.own {s t : State} (h : s.OnlyTables t) : t.own = s.own := by
  unfold State.own
  rw [h.loader]

theorem OnlyTables.tracked {s t : State} (h : s.OnlyTables t) (c : Chan) : t.tracked c = s.tracked c := by
  rw [Bool.eq_iff_iff, tracked_iff, tracked_iff, h.engine]

/-- The pair's entry after a RECOUNT of type START, before its hold is judged (R141). -/
def recountPlaced (s : State) (a : Addr) (p : RecountPayload) : State :=
  match s.pairEntry a p.ch with
  | some e => s.recountReplaced a p e
  | none => s.recountCreated a p

theorem recountReplaced_starts (s : State) (a : Addr) (p : RecountPayload) (e : StartEntry) :
    (s.recountReplaced a p e).starts = (s.starts.map fun x => if x.isPair a p.ch then recountReplace p x else x)
      ∧ (s.recountReplaced a p e).draws = s.draws ∧ s.OnlyTables (s.recountReplaced a p e) := by
  unfold recountReplaced
  split <;> exact ⟨rfl, rfl, rfl, rfl, rfl, rfl, rfl, rfl, rfl⟩

theorem recountPlaced_of_entry {s : State} {a : Addr} {p : RecountPayload} (h : (s.pairEntry a p.ch).isSome = true) :
    (s.recountPlaced a p).starts = (s.starts.map fun x => if x.isPair a p.ch then recountReplace p x else x)
      ∧ (s.recountPlaced a p).draws = s.draws := by
  obtain ⟨e, he⟩ := Option.isSome_iff_exists.mp h
  unfold recountPlaced
  rw [he]
  obtain ⟨hs, hd, -⟩ := s.recountReplaced_starts a p e
  exact ⟨hs, hd⟩

theorem recountPlaced_of_none {s : State} {a : Addr} {p : RecountPayload} (h : s.pairEntry a p.ch = none) :
    (s.recountPlaced a p).starts = s.starts ++ [recountCreate a p]
      ∧ (s.recountPlaced a p).draws = s.draws.filter (fun kv => kv.1 ≠ slotNo a p.ch) := by
  unfold recountPlaced
  rw [h]
  exact ⟨rfl, rfl⟩

theorem recountPlaced_only (s : State) (a : Addr) (p : RecountPayload) : s.OnlyTables (s.recountPlaced a p) := by
  unfold recountPlaced
  split
  · exact (s.recountReplaced_starts a p _).2.2
  · exact ⟨rfl, rfl, rfl, rfl, rfl, rfl, rfl⟩

/-- A RECOUNT of type START with inrush places its pair's entry where there is one or room for one (R141). -/
theorem recountStart_placed {s : State} {a : Addr} {p : RecountPayload} (hi : p.inrush ≠ 0)
    (h : (s.pairEntry a p.ch).isSome = true ∨ s.starts.length < 32) :
    s.recountStart a p = (s.recountPlaced a p).holdRecounted a p := by
  rw [recountStart_eq, if_neg hi]
  unfold recountPlaced
  cases he : s.pairEntry a p.ch with
  | some e => rfl
  | none =>
    rw [he] at h
    exact if_pos (h.resolve_left (by decide))

theorem recountStart_full {s : State} {a : Addr} {p : RecountPayload} (hi : p.inrush ≠ 0)
    (h : s.pairEntry a p.ch = none) (hlen : 32 ≤ s.starts.length) :
    s.recountStart a p = s.tally fun k => { k with overflows := satSucc 65535 k.overflows } := by
  rw [recountStart_eq, if_neg hi, h]
  exact if_neg (by omega)

/-- The pair's entry is in the table with the recounted values. -/
theorem recountPlaced_entry {s : State} {a : Addr} {p : RecountPayload} (hhold : p.hold = 0) :
    ∃ e ∈ (s.recountPlaced a p).starts, e.isPair a p.ch = true ∧ e.owner = a ∧ e.ch = p.ch ∧ e.seq = p.seq
      ∧ e.remaining = 0 ∧ e.expirePending = false := by
  cases he : s.pairEntry a p.ch with
  | some e =>
    have hmem := List.mem_of_find?_eq_some he
    have hpair : e.isPair a p.ch = true := List.find?_some (p := fun x : StartEntry => x.isPair a p.ch) he
    obtain ⟨howner, hch⟩ := of_decide_eq_true hpair
    rw [(recountPlaced_of_entry (s := s) (a := a) (p := p) (by rw [he]; rfl)).1]
    refine ⟨recountReplace p e, List.mem_map.mpr ⟨e, hmem, if_pos hpair⟩, decide_eq_true ⟨howner, hch⟩, howner, hch, rfl, ?_,
      rfl⟩
    show min (p.hold.val * 20) e.limitMs = 0
    rw [hhold]
    simp
  | none =>
    rw [(recountPlaced_of_none he).1]
    refine ⟨recountCreate a p, by simp, decide_eq_true ⟨rfl, rfl⟩, rfl, rfl, rfl, ?_, rfl⟩
    show p.hold.val * 20 = 0
    rw [hhold]
    rfl

theorem runOut_other {s : State} {a : Addr} (h : a ≠ s.own) (c : Chan) (q : Seq) :
    s.runOut a c q = s.modStarts (fun e => e.isPair a c) fun e => { e with holdRunning := false, expirePending := true } :=
  if_neg h

theorem runOut_own {s : State} {a : Addr} (h : a = s.own) (c : Chan) (q : Seq) :
    s.runOut a c q = (s.modStarts (fun e => e.isPair a c) fun e => { e with holdRunning := false }).ownHoldOut c q :=
  if_pos h

theorem mem_modStarts {s : State} {pick : StartEntry → Bool} {e : StartEntry} (h : e ∈ s.starts) (hp : pick e = true)
    (f : StartEntry → StartEntry) : f e ∈ (s.modStarts pick f).starts :=
  List.mem_map.mpr ⟨e, h, if_pos hp⟩

theorem modStarts_only (s : State) (pick : StartEntry → Bool) (f : StartEntry → StartEntry) :
    s.OnlyTables (s.modStarts pick f) := ⟨rfl, rfl, rfl, rfl, rfl, rfl, rfl⟩

theorem OnlyTables.trans {s t u : State} (h : s.OnlyTables t) (k : t.OnlyTables u) : s.OnlyTables u :=
  ⟨k.pins.trans h.pins, k.power.trans h.power, k.channels.trans h.channels, k.engine.trans h.engine,
    k.member.trans h.member, k.loader.trans h.loader, k.faults.trans h.faults⟩

theorem OnlyTables.stands {s t u : State} (h : t.OnlyTables u) (he : t.engine = s.engine) (hp : t.pins = s.pins)
    (hl : t.loader = s.loader) (hc : t.channels = s.channels) (c : Chan) : s.Stands u c :=
  ⟨h.engine.trans he, h.pins.trans hp, h.loader.trans hl, fun d _ => chan_of_channels (h.channels.trans hc) d⟩

theorem OnlyTables.refl (s : State) : s.OnlyTables s := ⟨rfl, rfl, rfl, rfl, rfl, rfl, rfl⟩

/-- At another station than the owner a RECOUNT of type START acts on the tables alone. -/
theorem recountStart_only {s : State} {a : Addr} (h : a ≠ s.own) (p : RecountPayload) :
    s.OnlyTables (s.recountStart a p) := by
  by_cases hi : p.inrush = 0
  · rw [recountStart_eq, if_pos hi]
    exact .refl s
  · by_cases hroom : (s.pairEntry a p.ch).isSome = true ∨ s.starts.length < 32
    · have honly := s.recountPlaced_only a p
      rw [recountStart_placed hi hroom]
      unfold holdRecounted
      split
      · rw [runOut_other (by rw [honly.own]; exact h)]
        exact honly.trans (modStarts_only _ _ _)
      · exact honly
    · rw [not_or] at hroom
      rw [recountStart_full hi (by simpa using hroom.1) (by omega)]
      exact ⟨rfl, rfl, rfl, rfl, rfl, rfl, rfl⟩

/-- A hold that ran out aborts a tracked start of the seq (R18). -/
theorem ownHoldOut_aborts {s : State} {c : Chan} {q : Seq} (hl : s.live = true) (ht : s.tracked c = true)
    (hq : (s.chan c).seq = some q) :
    s.ownHoldOut c q = s.abortStart c (.abandoned .holdExceeded) .holdExceeded none := by
  unfold ownHoldOut
  rw [if_pos]
  simp [hl, ht, hq]

theorem ownHoldOut_nothing {s : State} {c : Chan} {q : Seq}
    (h : s.live = false ∨ s.tracked c = false ∨ (s.chan c).seq ≠ some q) : s.ownHoldOut c q = s := by
  unfold ownHoldOut
  rw [if_neg]
  rcases h with h | h | h <;> simp [h]

/-- A RECOUNT as it was heard and counted. -/
def recounted (s : State) (rx : Rx) (p : RecountPayload) : State :=
  (s.heard rx (.recount p)).recountCounted rx.sender p.ch s.bus.tx

theorem recounted_keeps (s : State) (rx : Rx) (p : RecountPayload) :
    (s.recounted rx p).starts = s.starts ∧ (s.recounted rx p).draws = s.draws
      ∧ (s.recounted rx p).channels = s.channels ∧ (s.recounted rx p).engine = s.engine
      ∧ (s.recounted rx p).pins = s.pins ∧ (s.recounted rx p).loader = s.loader := by
  simp [recounted]

theorem recounted_pairEntry (s : State) (rx : Rx) (p : RecountPayload) (a : Addr) (c : Chan) :
    (s.recounted rx p).pairEntry a c = s.pairEntry a c := by
  unfold pairEntry
  rw [(s.recounted_keeps rx p).1]

theorem recounted_live (s : State) (rx : Rx) (p : RecountPayload) : (s.recounted rx p).live = s.live := by
  rw [← heard_live s rx (.recount p)]
  exact live_of_keeps (by simp [recounted]) (by simp [recounted])

theorem exec_recountStart {s : State} {rx : Rx} {p : RecountPayload} (h : s.takes rx (.recount p) = true)
    (hd : p.isDraw = false) :
    exec (.recount rx p) s = .next ((s.recounted rx p).recountStart rx.sender p).frameEnds.finish := by
  rw [exec_taken (c := .recount rx p) rfl h rfl, applyRecount_eq, if_neg (by rw [hd]; decide)]
  rfl

/-- An own frame names this station, and is the one in the transmit slot. -/
theorem sender_of_takesOwn {s : State} {rx : Rx} {f : Frame} {x : TxFrame} (h : s.takesOwn rx f = true)
    (htx : s.bus.tx = some x) : rx.sender = s.own ∧ x.frame = f := by
  simp only [takesOwn, takes, htx, Bool.and_eq_true, decide_eq_true_eq] at h
  exact h.1.2

/-- The hearing of a frame leaves the count of overflows and of refused claims. -/
theorem heard_counts (s : State) (rx : Rx) (f : Frame) :
    (s.heard rx f).bus.counters.overflows = s.bus.counters.overflows
      ∧ (s.heard rx f).bus.counters.refused = s.bus.counters.refused := by
  cases htx : s.bus.tx with
  | none =>
    rw [heard_of_other htx]
    simp
  | some x =>
    rw [heard_of_own htx]
    unfold ownAccepted
    dsimp only
    split
    · exact ⟨rfl, rfl⟩
    · simp only [judgeIsolated_keeps]
      exact ⟨rfl, rfl⟩

end State

open State

/-- Settles O23: the pair's entry is placed, and a hold of 0 runs out at once: at the owner it aborts the tracked start. -/
theorem recountOfAStart : Obligations.RecountOfAStart := by
  have hpairs (s : State) (a : Addr) (c : Chan) (f : StartEntry → StartEntry) :
      (s.starts.map fun x => if x.isPair a c then f x else x)
        = s.starts.map fun x => if x.owner = a ∧ x.ch = c then f x else x := by
    simp [StartEntry.isPair]
  refine ⟨fun rx p s h hd hi hh => ?_, fun rx p s h hd => ?_, fun rx p s h hd hi hh hroom => ?_⟩
  · obtain ⟨hstarts, hdraws, hch, heng, -, -⟩ := s.recounted_keeps rx p
    have hpair := s.recounted_pairEntry rx p rx.sender p.ch
    have hrun (u : State) : u.holdRecounted rx.sender p = u := if_neg hh
    have hplaced (hroom : (s.pairEntry rx.sender p.ch).isSome = true ∨ s.starts.length < 32) :
        (s.recounted rx p).recountStart rx.sender p = (s.recounted rx p).recountPlaced rx.sender p := by
      rw [recountStart_placed hi (by rwa [hpair, hstarts]), hrun]
    have honly : (s.recounted rx p).OnlyTables ((s.recounted rx p).recountStart rx.sender p) := by
      by_cases hroom : (s.pairEntry rx.sender p.ch).isSome = true ∨ s.starts.length < 32
      · rw [hplaced hroom]
        exact recountPlaced_only _ _ _
      · rw [not_or] at hroom
        rw [recountStart_full hi (by rw [hpair]; simpa using hroom.1) (by rw [hstarts]; omega)]
        exact ⟨rfl, rfl, rfl, rfl, rfl, rfl, rfl⟩
    refine ⟨_, exec_recountStart h hd, ?_, fun c => sameButOffer_taken (u := s) rfl (honly.channels.trans hch) c, fun he => ?_,
      fun hn hlen => ?_, fun hn hlen => ?_, fun hown => ?_⟩
    · simpa using honly.engine.trans heng
    · obtain ⟨hs, hdr⟩ := recountPlaced_of_entry (s := s.recounted rx p) (a := rx.sender) (p := p) (by rw [hpair]; exact he)
      rw [hplaced (.inl he)]
      simp only [finish_keeps, frameEnds_keeps]
      rw [hs, hdr, hstarts, hdraws, hpairs]
      exact ⟨rfl, rfl⟩
    · obtain ⟨hs, hdr⟩ := recountPlaced_of_none (s := s.recounted rx p) (a := rx.sender) (p := p) (by rw [hpair]; exact hn)
      rw [hplaced (.inr hlen)]
      simp only [finish_keeps, frameEnds_keeps]
      rw [hs, hdr, hstarts, hdraws]
      exact ⟨rfl, rfl⟩
    · rw [recountStart_full hi (by rw [hpair]; exact hn) (by rw [hstarts]; exact hlen)]
      simp only [finish_keeps, frameEnds_keeps]
      refine ⟨hstarts, hdraws, ?_⟩
      have hcount := (s.heard_counts rx (.recount p)).1
      have hbus : (s.recounted rx p).bus = (s.heard rx (.recount p)).bus := by simp [recounted]
      show satSucc 65535 (s.recounted rx p).bus.counters.overflows = _
      rw [hbus, hcount]
    · simpa [honly.member, recounted] using own_recountCounted hown
  · obtain ⟨htakes, htx⟩ := takes_of_takesOther h
    obtain ⟨hstarts, hdraws, hch, heng, -, -⟩ := s.recounted_keeps rx p
    have hpair := s.recounted_pairEntry rx p rx.sender p.ch
    have hown : (s.recounted rx p).own = s.own := by simp [recounted, own]
    have hne : rx.sender ≠ s.own := (sender_of_takes htakes htx rfl).1
    have honly := recountStart_only (s := s.recounted rx p) (by rw [hown]; exact hne) p
    refine ⟨_, exec_recountStart htakes hd, ?_, fun c => sameButOffer_taken (u := s) rfl (honly.channels.trans hch) c,
      fun hz => ?_, fun hi hh hroom => ?_, fun howed hheard => ?_⟩
    · simpa using honly.engine.trans heng
    · rw [recountStart_eq, if_pos hz]
      simp [hstarts, hdraws]
    · obtain ⟨e, he, hp, howner, hc, hseq, hrem, -⟩ := recountPlaced_entry (s := s.recounted rx p) (a := rx.sender) hh
      have honlyp := (s.recounted rx p).recountPlaced_only rx.sender p
      rw [recountStart_placed hi (by rwa [hpair, hstarts]), holdRecounted, if_pos hh,
        runOut_other (by rw [honlyp.own, hown]; exact hne)]
      refine ⟨{ e with holdRunning := false, expirePending := true }, ?_, howner, hc, hseq, hrem, rfl, rfl⟩
      simpa using mem_modStarts (pick := fun e => e.isPair rx.sender p.ch) he hp fun e => { e with holdRunning := false, expirePending := true }
    · have hroster : ((s.recounted rx p).recountStart rx.sender p).frameEnds.finish.member.roster
          = (s.recounted rx p).member.roster := by simp
      rw [peer_of_roster hroster]
      exact heard_recountCounted h howed hheard
  · obtain ⟨htakes, x, htx⟩ := takes_of_takesOwn h
    obtain ⟨hstarts, hdraws, hch, heng, hpins, hload⟩ := s.recounted_keeps rx p
    have hpair := s.recounted_pairEntry rx p rx.sender p.ch
    have hown : (s.recounted rx p).own = s.own := by simp [recounted, own]
    obtain ⟨hsender, -⟩ := sender_of_takesOwn h htx
    have honlyp := (s.recounted rx p).recountPlaced_only rx.sender p
    have honly := honlyp.trans (modStarts_only _ (fun e => e.isPair rx.sender p.ch) fun e => { e with holdRunning := false })
    obtain ⟨e, he, hp, howner, hc, hseq, hrem, hpend⟩ := recountPlaced_entry (s := s.recounted rx p) (a := rx.sender) hh
    have hmem := mem_modStarts (pick := fun e => e.isPair rx.sender p.ch) he hp fun e => { e with holdRunning := false }
    have hexec := exec_recountStart htakes hd
    rw [recountStart_placed hi (by rwa [hpair, hstarts]), holdRecounted, if_pos hh,
      runOut_own (by rw [honlyp.own, hown]; exact hsender)] at hexec
    generalize hu : ((s.recounted rx p).recountPlaced rx.sender p).modStarts (fun e => e.isPair rx.sender p.ch)
      (fun e => { e with holdRunning := false }) = u at hexec hmem honly
    have hlive : u.live = s.live := honly.live.trans (s.recounted_live rx p)
    have htrack (c : Chan) : u.tracked c = s.tracked c := by
      rw [honly.tracked, Bool.eq_iff_iff, tracked_iff, tracked_iff, heng]
    have hchan (c : Chan) : u.chan c = s.chan c := chan_of_channels (honly.channels.trans hch) c
    refine ⟨_, hexec, ⟨{ e with holdRunning := false }, by simpa using hmem, howner, hc, hseq, hrem, rfl, hpend⟩, ?_, ?_, ?_, ?_⟩
    · simpa [honly.member, recounted] using (own_recountCounted h).1
    · simpa [honly.member, recounted] using (own_recountCounted h).2
    · intro hl hlaw htr hq
      have hstands := honly.stands heng hpins hload hch p.ch
      rw [ownHoldOut_aborts (hlive.trans hl) ((htrack p.ch).trans htr) (by rw [hchan]; exact hq)]
      have hself := chan_abortStart hlaw hstands htr (.abandoned .holdExceeded) .holdExceeded none
      have hfin := chan_finish_barred (s := (u.abortStart p.ch (.abandoned .holdExceeded) .holdExceeded none).frameEnds)
        (c := p.ch) (by rw [chan_frameEnds, hself])
        (.inr (.inr (by rw [chan_frameEnds, hself]; exact Release.noConfusion)))
      rw [hfin, chan_frameEnds, hself]
      refine ⟨rfl, ⟨rfl, rfl⟩, rfl, ?_, ?_⟩
      · refine abortStart_removed hlaw hstands htr (by simp) (fun d => sameButOffer_frameEnds_finish _ d) (by simp) fun d =>
          finish_flt ?_ d
        rw [frameEnds_live, abortStart_live]
        exact hlive.trans hl
      · obtain ⟨r, htop, hkind, hr, -, hstep⟩ := u.abortStart_record p.ch (.abandoned .holdExceeded) .holdExceeded none
        rw [startStep_of_engine (honly.engine.trans heng)] at hstep
        exact ⟨r, by simpa using htop, hkind, hr, hstep⟩
    · intro hno
      rw [ownHoldOut_nothing (by rw [hlive, htrack, hchan]; exact hno)]
      exact ⟨by simpa using honly.engine.trans heng, fun c => sameButOffer_taken (u := s) rfl (honly.channels.trans hch) c⟩

end Sys2Proof.Machine
end

section
/-! The ends of timed steps (O47): completed, with what follows taken at once; failed at a timeout; without effect. -/

namespace Sys2Proof.Machine

open Sys2Proof

namespace State

/-! ## A freed engine, with nothing or with a start to take up -/

theorem freeEngine_live (s : State) : s.freeEngine.live = s.live := live_of_keeps (by simp) (by simp)

/-- An engine that runs a recipe, or has none to take up, goes on as it is. -/
def still (s : State) : Prop := s.engine.running ≠ none ∨ s.engine.waiting = none ∧ s.engine.stack = []

theorem freeEngine_still {s : State} (h : s.still) : s.freeEngine = s ∨ s.freeEngine = s.notify := by
  cases hr : s.engine.running with
  | some r => exact .inl (freeEngine_of_running hr)
  | none =>
    obtain ⟨hw, hs⟩ := h.resolve_left fun hn => hn hr
    rw [freeEngine_of_idle hr, freeLoop_of_empty hw hs]
    exact .inr rfl

theorem engine_still {s : State} (h : s.still) : s.freeEngine.engine = s.engine := by
  rcases freeEngine_still h with heq | heq <;> rw [heq]
  rfl

/-- The end of a step with such an engine carries what a run of steps left. -/
theorem carried_still {s : State} (h : s.still) (hl : s.live = true) (c : Chan) : Carried s.flagged s.freeEngine.finish c := by
  have hcar : Carried s.freeEngine.flagged s.freeEngine.finish c := carried_finish (by rwa [freeEngine_live]) c
  obtain ⟨hchan, hrec, hflt⟩ := hcar
  rcases freeEngine_still h with heq | heq
  · rw [heq] at hchan hrec hflt ⊢
    exact ⟨hchan, hrec, hflt⟩
  · rw [heq] at hchan hrec hflt ⊢
    exact ⟨hchan, hrec, hflt⟩

theorem ranTo_still {s u : State} {c : Chan} {i : Nat} (h : u.still) (hl : u.live = true) (hran : ranTo s u.flagged c i) :
    ranTo s u.freeEngine.finish c i :=
  ranTo_carried hran (carried_still h hl c) (by simpa [flagged] using congrArg Engine.running (engine_still h))

/-- A state that differs in a channel that no freed engine takes up agrees on what it reads. -/
theorem agree_of_others {s v : State} {c : Chan} (hc : ¬s.awaiting c) (hw : v.engine.waiting = s.engine.waiting)
    (hs : v.engine.stack = s.engine.stack) (hp : v.pins = s.pins) (hl : v.loader = s.loader)
    (hch : ∀ d, d ≠ c → v.chan d = s.chan d) : s.Agree v := by
  have hne {d : Chan} (hd : s.awaiting d) : d ≠ c := fun heq => hc (heq ▸ hd)
  exact ⟨hw, hs, hp, hl, fun d hd => congrArg Channel.pre (hch d (hne hd)), fun d hd => congrArg Channel.main (hch d (hne hd))⟩

/-- The end of a step shows what a freed engine took up. -/
theorem freed_of_agree {s v : State} (k : s.Agree v) (hidle : v.engine.running = none) (hl : v.live = true) :
    engineFreed s v.freeEngine.finish := by
  refine engineFreed_of_agree k (engineFreed_carried (freeEngine_freed hidle) ?_ ?_ ?_
    fun d _ => carried_finish (by rwa [freeEngine_live]) d)
  all_goals simp [flagged]

/-- A channel that leaves the engine is as it was left, after the engine has been freed. -/
theorem chan_freed {s v : State} {c : Chan} (k : s.Agree v) (hc : ¬s.awaiting c) (hq : ¬inQueue (v.chan c).state) :
    v.freeEngine.finish.chan c = v.chan c := by
  have hfree : v.freeEngine.chan c = v.chan c :=
    chan_freeEngine_other (fun hw => hc (.inl (by rw [← k.waiting]; exact hw)))
      fun hs => hc (.inr (by rw [← k.stack]; exact hs))
  rw [← hfree] at hq ⊢
  exact eq_of_sameButOffer (finish_same v.freeEngine c) hq

theorem recipeFailed_freed {s v : State} {c : Chan} (k : s.Agree v) (hc : ¬s.awaiting c) (hl : v.live = true)
    (h : recipeFailed v.flagged c) : recipeFailed v.freeEngine.finish c := by
  obtain ⟨hst, hrel, houts, hmark, -⟩ := h
  have hchan := chan_freed k hc (by rw [show (v.chan c).state = .faulted from hst]; simp [inQueue])
  unfold recipeFailed
  rw [hchan]
  refine ⟨hst, hrel, houts, hmark, ?_⟩
  refine (carried_finish (u := v.freeEngine) (by rwa [freeEngine_live]) c).flt ?_
  rw [hchan]
  exact hst

/-- The running start of an engine with its laws is not taken up. -/
theorem running_not_awaiting {s : State} (h : EngineLaw s) {r : RunSlot} (hr : s.engine.running = some r) :
    ¬s.awaiting r.ch := by
  have hst : (s.chan r.ch).state = .starting := (h.1 r.ch).1.mp (by rw [hr]; rfl)
  rintro (hw | hs)
  · rw [(h.1 r.ch).2.1.mp hw] at hst
    cases hst
  · rw [(h.1 r.ch).2.2.mp hs] at hst
    cases hst

/-! ## A recipe suspended -/

theorem suspended_of {s t : State} {c : Chan} {next : Nat} {left : Option Nat}
    (hch : t.chan c = (s.suspend c next left).chan c) (hs : t.engine.stack = (s.suspend c next left).engine.stack) :
    suspended s t c next left := by
  unfold suspended
  rw [hch, hs, suspend_engine, chan_suspend, if_pos rfl]
  refine ⟨rfl, rfl, fun hp => ?_, fun hp => ?_⟩
  · simp [outsAreOff, hp]
  · simp [hp]

/-- Beside a suspended recipe another start begins as it would have. -/
theorem runFrom_suspend {s : State} {c d : Chan} (h : d ≠ c) (next : Nat) (left : Option Nat) (i : Nat) :
    (s.suspend c next left).runFrom d i = s.runFrom d i := by
  have hch : (s.suspend c next left).chan d = s.chan d := by rw [chan_suspend, if_neg h]
  exact runFrom_congr (by simp) (by simp) (congrArg Channel.pre hch) (congrArg Channel.main hch) i

/-! ## The step in progress completes -/

/-- Past the last step of its recipe a start is complete. -/
theorem takeSteps_past {s : State} {c : Chan} {i : Nat} (h : (s.cfg c).recipe.length ≤ i) :
    s.takeSteps c i = s.completeRecipe c := by
  have hrun : s.runFrom c i = (.completes, (s.chan c).pre, (s.chan c).main) := by
    unfold runFrom
    rw [List.drop_eq_nil_of_le h]
    rfl
  have hstep : s.stepped c i = s := by
    unfold stepped modChan
    rw [hrun]
    exact congrArg (fun x => { s with channels := x }) (set_get_self s.channels c)
  rw [takeSteps_eq, runEnd_eq, hrun, hstep]
  rfl

/-- With no start in the PENDING slot the next steps are taken. -/
theorem stepCompletes_alone {s : State} (hw : s.engine.waiting = none) (r : RunSlot) :
    s.stepCompletes r = (s.takeSteps r.ch (r.step + 1)).freeEngine := by
  unfold stepCompletes
  split
  · rw [hw]
  · next hlen => rw [takeSteps_past (Nat.le_of_not_lt hlen)]

theorem stepCompletes_boundary {s : State} {d : Chan} {r : RunSlot} (hw : s.engine.waiting = some d)
    (hlen : r.step + 1 < (s.cfg r.ch).recipe.length) :
    s.stepCompletes r = (s.suspend r.ch (r.step + 1) none).freeEngine := by
  unfold stepCompletes
  rw [if_pos hlen, hw]

theorem stepCompletes_last {s : State} {r : RunSlot} (hlen : (s.cfg r.ch).recipe.length ≤ r.step + 1) :
    s.stepCompletes r = (s.completeRecipe r.ch).freeEngine := by
  unfold stepCompletes
  rw [if_neg (Nat.not_lt.mpr hlen)]

theorem takeSteps_live (s : State) (c : Chan) (i : Nat) : (s.takeSteps c i).live = s.live :=
  live_of_keeps (by simp) (by simp)

theorem agree_takeSteps {s : State} {c : Chan} (h : ¬s.awaiting c) (i : Nat) : s.Agree (s.takeSteps c i) := by
  obtain ⟨-, hwait, hstack, -⟩ := takeSteps_engine s c i
  exact agree_of_others h hwait hstack (by simp) (by simp) fun d hd => chan_takeSteps_other s i hd

theorem agree_completeRecipe {s : State} {c : Chan} (h : ¬s.awaiting c) : s.Agree (s.completeRecipe c) :=
  agree_of_others h (by simp) (by simp) (by simp) (by simp) fun d hd => by rw [chan_completeRecipe, if_neg hd]

theorem agree_failRecipe {s : State} {c : Chan} (h : ¬s.awaiting c) (j : Nat) : s.Agree (s.failRecipe c j) :=
  agree_of_others h (by simp) (by simp) (by simp) (by simp) fun d hd => by rw [chan_failRecipe, if_neg hd]

/-- A recipe suspended at a boundary, with the waiting start begun. -/
theorem boundary_begun {s : State} {r : RunSlot} {d : Chan} (hl : s.live = true) (hne : d ≠ r.ch)
    (hw : s.engine.waiting = some d) (hslot : (runEnd s d 0).slot d ≠ none) (next : Nat) :
    let t := (s.suspend r.ch next none).freeEngine.finish
    ranChan s t d 0 ∧ t.engine.running = (runEnd s d 0).slot d ∧ t.engine.waiting = none
      ∧ suspended s t r.ch next none := by
  dsimp only
  have heng := suspend_engine s r.ch next none
  have hrun := runFrom_suspend (s := s) hne next none 0
  have hidle : (s.suspend r.ch next none).engine.running = none := by rw [heng]
  have hwait : (s.suspend r.ch next none).engine.waiting = some d := by rw [heng]; exact hw
  have hslot' : (runEnd (s.suspend r.ch next none) d 0).slot d ≠ none := by rwa [runEnd_congr hrun]
  have hlive : (s.suspend r.ch next none).freeEngine.live = true := by
    rw [freeEngine_live, live_of_keeps (s := s) (by simp) (by simp), hl]
  have hfree : (s.suspend r.ch next none).freeEngine = ((s.suspend r.ch next none).unwaited.beginStart d).notify := by
    obtain ⟨q, hq⟩ := Option.ne_none_iff_exists'.mp hslot'
    rw [freeEngine_of_idle hidle, freeLoop_waiting hidle hwait]
    rw [freeLoop_of_running ((beginStart_engine (s.suspend r.ch next none).unwaited d).1.trans hq)]
  obtain ⟨-, htaken, -⟩ := freeEngine_freed hidle
  obtain ⟨hran, hrunning, hnone, hstack⟩ := htaken d hwait hslot'
  refine ⟨(ranChan_congr hrun).mp (ranChan_carried hran (carried_finish hlive d)), ?_, ?_, suspended_of ?_ ?_⟩
  · rw [runEnd_congr hrun] at hrunning
    simpa [flagged] using hrunning
  · simpa [flagged] using hnone
  · have hkept : (s.suspend r.ch next none).freeEngine.chan r.ch = (s.suspend r.ch next none).chan r.ch := by
      rw [hfree]
      exact chan_beginStart_other (s.suspend r.ch next none).unwaited hne.symm
    refine (eq_of_sameButOffer (finish_same _ r.ch) ?_).trans hkept
    rw [hkept, chan_suspend, if_pos rfl]
    simp [inQueue]
  · simpa [flagged] using hstack

/-- The step in progress has completed. -/
theorem stepCompletes_completed {s : State} {r : RunSlot} (hl : s.live = true) (h : EngineLaw s)
    (hr : s.engine.running = some r) : stepCompleted s (s.stepCompletes r).finish r := by
  have hno := running_not_awaiting h hr
  have hst : (s.chan r.ch).state = .starting := (h.1 r.ch).1.mp (by rw [hr]; rfl)
  have hran := takeSteps_ran hst (r.step + 1)
  have hagree := agree_takeSteps hno (r.step + 1)
  have hlive : (s.takeSteps r.ch (r.step + 1)).live = true := by rwa [takeSteps_live]
  obtain ⟨hrun, hwait, hstack, -⟩ := takeSteps_engine s r.ch (r.step + 1)
  refine ⟨fun hw hs => ?_, fun hw hslot => ?_, fun d hw hlen hslot => ?_, fun d hw hlen => ?_, fun hw hend => ?_,
    fun j hend hw => ?_⟩
  · rw [stepCompletes_alone hw]
    exact ranTo_still (.inr ⟨hwait.trans hw, hstack.trans hs⟩) hlive hran
  · have hstill : (s.takeSteps r.ch (r.step + 1)).still := .inl (by rw [hrun]; exact hslot)
    rw [stepCompletes_alone hw]
    refine ⟨ranTo_still hstill hlive hran, ?_⟩
    simpa using (congrArg Engine.stack (engine_still hstill)).trans hstack
  · have hne : d ≠ r.ch := fun heq => hno (.inl (by rw [hw, heq]))
    rw [stepCompletes_boundary hw hlen]
    exact boundary_begun hl hne hw hslot (r.step + 1)
  · have hk := agree_completeRecipe hno
    have hchan : (s.completeRecipe r.ch).chan r.ch = { s.chan r.ch with state := .settling, release := .settled } := by
      rw [chan_completeRecipe, if_pos rfl]
    rw [stepCompletes_last hlen.ge, chan_freed hk hno (by rw [hchan]; simp [inQueue]), hchan]
    exact ⟨rfl, rfl, freed_of_agree hk (by simp) (by rwa [live_of_keeps (s := s) (by simp) (by simp)])⟩
  · have hleft := (ranChan_iff _ _ _ _).mp hran.1
    rw [hend] at hleft hrun
    obtain ⟨hset, hrel, -⟩ := hleft
    rw [stepCompletes_alone hw,
      chan_freed hagree hno (by rw [show ((s.takeSteps r.ch (r.step + 1)).chan r.ch).state = _ from hset]; simp [inQueue])]
    exact ⟨hset, hrel, freed_of_agree hagree hrun hlive⟩
  · have hleft := (ranChan_iff _ _ _ _).mp hran.1
    rw [hend] at hleft hrun
    rw [stepCompletes_alone hw]
    exact ⟨recipeFailed_freed hagree hno hlive hleft.1, freed_of_agree hagree hrun hlive⟩

theorem stepCompletes_tables (s : State) (r : RunSlot) :
    (s.stepCompletes r).finish.starts = s.starts ∧ (s.stepCompletes r).finish.draws = s.draws
      ∧ (s.stepCompletes r).finish.member = s.member := by
  simp

/-! ## The step in progress fails -/

theorem stepFails_eq (s : State) (r : RunSlot) : s.stepFails r = (s.failRecipe r.ch r.step).freeEngine := rfl

/-- A record is among the newest of the list, at most so many places down. -/
def recordAt (s : State) (f : FaultRecord) (i : Nat) : Prop := ∃ j ≤ i, s.faults.records[j]? = some f

theorem recordAt_of_faults {s t : State} {f : FaultRecord} {i : Nat} (h : s.recordAt f i) (ht : t.faults = s.faults) :
    t.recordAt f i := by
  unfold recordAt
  rw [ht]
  exact h

theorem recordAt_succ {s : State} {f : FaultRecord} {i : Nat} (h : s.recordAt f i) : s.recordAt f (i + 1) := by
  obtain ⟨j, hj, hf⟩ := h
  exact ⟨j, Nat.le_succ_of_le hj, hf⟩

theorem recordAt_log {s : State} {f : FaultRecord} {i : Nat} (h : s.recordAt f i) (hi : i < 7) (kind : FaultKind)
    (c : Option Chan) (j : Option Nat) (a : Option Addr) : (s.log kind c j a).recordAt f (i + 1) := by
  obtain ⟨k, hk, hf⟩ := h
  refine ⟨k + 1, Nat.succ_le_succ hk, ?_⟩
  show ((_ :: s.faults.records).take 8)[k + 1]? = some f
  rw [List.getElem?_take_of_lt (by omega), List.getElem?_cons_succ]
  exact hf

theorem recordAt_failRecipe {s : State} {f : FaultRecord} {i : Nat} (h : s.recordAt f i) (hi : i < 7) (c : Chan) (j : Nat) :
    (s.failRecipe c j).recordAt f (i + 1) := by
  refine recordAt_of_faults (recordAt_log (s := (((s.outsOff c).setRelease c (.abandoned .recipeFailed)).enter c .faulted).clearMark c)
    (recordAt_of_faults h (by simp)) hi .recipeFailed (some c) (some j) none) rfl

theorem recordAt_takeSteps {s : State} {f : FaultRecord} {i : Nat} (h : s.recordAt f i) (hi : i < 7) (c : Chan) (j : Nat) :
    (s.takeSteps c j).recordAt f (i + 1) := by
  have hstep : (s.stepped c j).recordAt f i := recordAt_of_faults h rfl
  rw [takeSteps_eq]
  cases runEnd s c j with
  | waits k left => exact recordAt_succ hstep
  | completes => exact recordAt_succ (recordAt_of_faults hstep (completeRecipe_faults _ c))
  | fails k => exact recordAt_failRecipe hstep hi c k

theorem recordAt_resume {s : State} {f : FaultRecord} {i : Nat} (h : s.recordAt f i) (hi : i < 7) (k : Context) :
    (s.resume k).recordAt f (i + 1) := by
  have hrest : (restored s k).faults = s.faults := by
    unfold restored
    split <;> rfl
  have htaken : (s.taken k).recordAt f i := recordAt_of_faults h hrest
  have hcases : (s.taken k).Resumes k (s.resume k) := s.resume_cases k
  generalize s.resume k = t at hcases ⊢
  cases hcases with
  | waits left => exact recordAt_succ htaken
  | steps j => exact recordAt_takeSteps htaken hi _ j
  | fails => exact recordAt_failRecipe htaken hi _ _

/-- A freed engine writes a record for each start it takes up at most. -/
theorem recordAt_freeLoop {f : FaultRecord} (n : Nat) {s : State} {i : Nat} (h : s.recordAt f i) (hn : n + i ≤ 7) :
    (freeLoop n s).recordAt f (n + i) := by
  induction n generalizing s i with
  | zero =>
    rw [Nat.zero_add]
    exact h
  | succ n ih =>
    have hstay : s.recordAt f (n + 1 + i) := by
      obtain ⟨j, hj, hf⟩ := h
      exact ⟨j, by omega, hf⟩
    have hround {u : State} (hu : u.recordAt f (i + 1)) : (freeLoop n u).recordAt f (n + 1 + i) := by
      rw [Nat.add_right_comm, Nat.add_assoc]
      exact ih hu (by omega)
    unfold freeLoop
    split
    · exact hstay
    · split
      · next d _ => exact hround (recordAt_takeSteps (s := s.unwaited.enter d .starting) h (by omega) d 0)
      · split
        · next k rest _ => exact hround (recordAt_resume (s := s.popped rest) h (by omega) k)
        · exact hstay

theorem recordAt_freeEngine {s : State} {f : FaultRecord} (h : s.recordAt f 0) : ∃ i, s.freeEngine.recordAt f i := by
  unfold freeEngine
  split
  · exact ⟨0, h⟩
  · exact ⟨5, recordAt_freeLoop 5 h (by omega)⟩

theorem mem_of_recordAt {s : State} {f : FaultRecord} {i : Nat} (h : s.recordAt f i) : f ∈ s.faults.records := by
  obtain ⟨j, -, hf⟩ := h
  exact List.mem_of_getElem? hf

theorem failRecipe_record (s : State) (c : Chan) (j : Nat) :
    ∃ f, (s.failRecipe c j).recordAt f 0 ∧ f.kind = .recipeFailed ∧ f.ch = some c ∧ f.step = some j :=
  ⟨_, ⟨0, le_rfl, rfl⟩, rfl, rfl, rfl⟩

/-- The recipe has failed at its step in progress, and the engine is freed. -/
theorem stepFails_failed {s : State} {r : RunSlot} (hl : s.live = true) (h : EngineLaw s) (hr : s.engine.running = some r) :
    let t := (s.stepFails r).finish
    recipeFailed t r.ch ∧ engineFreed s t
      ∧ (∃ f ∈ t.faults.records, f.kind = .recipeFailed ∧ f.ch = some r.ch ∧ f.step = some r.step)
      ∧ (s.engine.waiting = none → s.engine.stack = [] → failureOnTop t r.ch r.step) := by
  have hno := running_not_awaiting h hr
  have hk := agree_failRecipe hno r.step
  have hlive : (s.failRecipe r.ch r.step).live = true := by rwa [live_of_keeps (s := s) (by simp) (by simp)]
  obtain ⟨hfail, htop⟩ := failRecipe_flagged s r.ch r.step
  dsimp only
  rw [stepFails_eq]
  refine ⟨recipeFailed_freed hk hno hlive hfail, freed_of_agree hk (by simp) hlive, ?_, fun hw hs => ?_⟩
  · obtain ⟨f, hf, hkind, hch, hstep⟩ := failRecipe_record s r.ch r.step
    obtain ⟨i, hi⟩ := recordAt_freeEngine hf
    exact ⟨f, by simpa using mem_of_recordAt hi, hkind, hch, hstep⟩
  · exact failureOnTop_carried htop (carried_still (.inr ⟨by simpa using hw, by simpa using hs⟩) hlive r.ch)

/-! ## The events of timed steps -/

theorem timedStep_running {s : State} {r : RunSlot} {step : Fin 8} (hr : s.engine.running = some r)
    (hs : r.step = step.val) : s.timedStep r.ch step = some r := by
  unfold timedStep
  rw [hr, Option.filter_some, if_pos (by simp [hs])]

/-- The time of another step than the running slot's. -/
theorem timedStep_none {s : State} {c : Chan} {step : Fin 8}
    (h : ∀ r, s.engine.running = some r → r.ch ≠ c ∨ r.step ≠ step.val) : s.timedStep c step = none := by
  unfold timedStep
  cases hr : s.engine.running with
  | none => rfl
  | some r =>
    have hne := h r hr
    rw [Option.filter_some, if_neg]
    simp only [decide_eq_true_eq]
    rintro ⟨hc, hs⟩
    rcases hne with hne | hne
    · exact hne hc
    · exact hne hs

theorem exec_dwellTimeRunsOut {s : State} {r : RunSlot} {step : Fin 8} {time : Nat} {y : Bool} (hl : s.live = true)
    (hr : s.engine.running = some r) (hs : r.step = step.val) (hst : s.stepOf r = some (.dwell time y)) :
    exec (.dwellTimeRunsOut r.ch step) s = .next (s.stepCompletes r).finish := by
  show execDwellTimeRunsOut s r.ch step = _
  rw [execDwellTimeRunsOut, timedStep_running hr hs]
  dsimp only
  rw [hst]
  dsimp only
  rw [if_pos hl]

theorem exec_awaitTimeoutRunsOut {s : State} {r : RunSlot} {step : Fin 8} {level y : Bool} {timeout : Nat}
    (hl : s.live = true) (hr : s.engine.running = some r) (hs : r.step = step.val)
    (hst : s.stepOf r = some (.await level timeout y)) (hne : s.pins.sense.get r.ch ≠ level) :
    exec (.awaitTimeoutRunsOut r.ch step) s = .next (s.stepFails r).finish := by
  show execAwaitTimeoutRunsOut s r.ch step = _
  rw [execAwaitTimeoutRunsOut, timedStep_running hr hs]
  dsimp only
  rw [hst]
  dsimp only
  rw [if_pos (by simp [hl, hne])]

theorem exec_timedStep_none {s : State} {c : Chan} {step : Fin 8} (h : s.timedStep c step = none) :
    exec (.dwellTimeRunsOut c step) s = .next s ∧ exec (.awaitTimeoutRunsOut c step) s = .next s := by
  constructor
  · show execDwellTimeRunsOut s c step = _
    rw [execDwellTimeRunsOut, h]
  · show execAwaitTimeoutRunsOut s c step = _
    rw [execAwaitTimeoutRunsOut, h]

theorem senseWatch_of_not_on {s : State} {c : Chan} (h : (s.chan c).state ≠ .on) (b : Bool) : s.senseWatch c b = s := by
  unfold senseWatch
  rw [if_neg fun hon => h hon.1]

theorem senseAwait_of_await {s : State} {r : RunSlot} {b y : Bool} {timeout : Nat} (hr : s.engine.running = some r)
    (hst : s.stepOf r = some (.await b timeout y)) : s.senseAwait r.ch b = s.stepCompletes r := by
  unfold senseAwait
  rw [hr]
  dsimp only
  rw [if_pos rfl, hst]
  dsimp only
  rw [if_pos rfl]

/-- SENSE reaches the level of the running AWAIT (R87). -/
theorem exec_senseChange_await {s : State} {r : RunSlot} {level y : Bool} {timeout : Nat} (hl : s.live = true)
    (h : EngineLaw s) (hr : s.engine.running = some r) (hst : s.stepOf r = some (.await level timeout y))
    (hne : s.pins.sense.get r.ch ≠ level) :
    exec (.senseChange r.ch level) s = .next ((s.senseTaken r.ch level).stepCompletes r).finish := by
  have hstate : ((s.senseTaken r.ch level).chan r.ch).state = .starting := (h.1 r.ch).1.mp (by rw [hr]; rfl)
  rw [exec_senseChange_live hne hl, senseWatch_of_not_on (by rw [hstate]; decide),
    senseAwait_of_await (s := s.senseTaken r.ch level) hr hst]

end State

open State

/-- Settles O47: a timed step completes or fails, and the engine goes on with what it holds. -/
theorem timedStepEnds : Obligations.TimedStepEnds := by
  unfold Obligations.TimedStepEnds
  refine ⟨fun s r step time y hl h hr hs hst => ?_, fun s r level timeout y hl h hr hst hne => ?_,
    fun s r step level timeout y hl h hr hs hst hne => ?_, fun c step s h => exec_timedStep_none (timedStep_none h)⟩
  · obtain ⟨hstarts, hdraws, hmember⟩ := stepCompletes_tables s r
    exact ⟨_, exec_dwellTimeRunsOut hl hr hs hst, hstarts, hdraws, hmember, stepCompletes_completed hl h hr⟩
  · obtain ⟨hstarts, hdraws, hmember⟩ := stepCompletes_tables (s.senseTaken r.ch level) r
    exact ⟨_, exec_senseChange_await hl h hr hst hne, hstarts, hdraws, hmember,
      stepCompletes_completed (s := s.senseTaken r.ch level) hl h hr⟩
  · obtain ⟨hfail, hfree, hrec, htop⟩ := stepFails_failed hl h hr
    exact ⟨_, exec_awaitTimeoutRunsOut hl hr hs hst hne, hfail, hfree, hrec, htop, by simp [stepFails_eq],
      by simp [stepFails_eq], by simp [stepFails_eq]⟩

end Sys2Proof.Machine
end

section
/-! The own CLAIM judged (R8-R12, R56, R58, R59, R69): the state its verdict finds, and what a refusal leaves (O7). -/

namespace Sys2Proof.Machine

open Sys2Proof

namespace State

/-! ## The state the verdict finds -/

/-- The own CLAIM heard and judged: entered in the Start Table where admitted, and counted. -/
def judged (s : State) (rx : Rx) (p : ClaimPayload) : State :=
  ((s.heard rx (.claim p)).claimTabled rx.sender p).verdictCounted
    (s.admissionTest rx.sender p.ch p.urgency p.inrush.val p.draw.val)

@[simp] theorem judged_keeps (s : State) (rx : Rx) (p : ClaimPayload) :
    (s.judged rx p).pins = s.pins ∧ (s.judged rx p).loader = s.loader ∧ (s.judged rx p).inh = s.inh
      ∧ (s.judged rx p).engine = s.engine ∧ (s.judged rx p).channels = s.channels
      ∧ (s.judged rx p).queue.entries = s.queue.entries ∧ (s.judged rx p).faults = (s.heard rx (.claim p)).faults
      ∧ (s.judged rx p).member = (s.heard rx (.claim p)).member
      ∧ (s.judged rx p).queue.claimSeq = s.queue.claimSeq + 1 := by
  simp [judged]

theorem judged_live (s : State) (rx : Rx) (p : ClaimPayload) : (s.judged rx p).live = s.live :=
  (live_of_keeps (s := s.heard rx (.claim p)) (by simp [judged]) (by simp)).trans (heard_live s rx _)

theorem chan_judged (s : State) (rx : Rx) (p : ClaimPayload) (c : Chan) : (s.judged rx p).chan c = s.chan c :=
  chan_of_channels (by simp) c

theorem heard_judgement (s : State) (rx : Rx) (p : ClaimPayload) :
    (s.heard rx (.claim p)).admissionTest rx.sender p.ch p.urgency p.inrush.val p.draw.val
      = s.admissionTest rx.sender p.ch p.urgency p.inrush.val p.draw.val :=
  admissionTest_congr (by simp) (by simp) (by simp) ..

/-- A judged own CLAIM: its verdict reaches the queue and the channel. -/
theorem exec_ownClaim {s : State} {rx : Rx} {p : ClaimPayload} {x : TxFrame} (h : s.takes rx (.claim p) = true)
    (htx : s.bus.tx = some x) (hl : s.live = true) (hi : p.inrush ≠ 0) (hh : p.hold ≠ 0) :
    exec (.claim rx p) s = .next ((s.judged rx p).verdictTaken x p
      (s.admissionTest rx.sender p.ch p.urgency p.inrush.val p.draw.val)).frameEnds.finish := by
  have hlive := s.judged_live rx p
  rw [execClaim_taken h, htx, applyClaim_eq, if_neg (not_or.mpr ⟨hi, hh⟩)]
  dsimp only
  rw [heard_judgement, claimVerdict_eq, if_pos (by rw [← hl, ← hlive]; rfl)]
  rfl

/-- A refusal is counted, an admission is not (R10, R11). -/
theorem verdictCounted_refused (s : State) (v : Judgement) :
    (s.verdictCounted v).bus.counters.refused =
      if v = .admitted then s.bus.counters.refused else satSucc 65535 s.bus.counters.refused := by
  unfold verdictCounted
  dsimp only
  split <;> rfl

theorem judged_refused (s : State) (rx : Rx) (p : ClaimPayload) :
    (s.judged rx p).bus.counters.refused =
      if s.admissionTest rx.sender p.ch p.urgency p.inrush.val p.draw.val = .admitted then s.bus.counters.refused
      else satSucc 65535 s.bus.counters.refused := by
  have htab : ((s.heard rx (.claim p)).claimTabled rx.sender p).bus = (s.heard rx (.claim p)).bus := by simp
  rw [judged, verdictCounted_refused, htab, (s.heard_counts rx _).2]

theorem refused_of_core {s t : State} (h : t.bus.core = s.bus.core) : t.bus.counters.refused = s.bus.counters.refused := by
  obtain ⟨-, -, -, hcount, -⟩ := Bus.of_core h
  rw [hcount]

/-- The acceptance of an own frame gives no notice but where ISOLATED is entered. -/
theorem ownAccepted_notice {s : State} {acked : Bool} (h : acked = true ∨ s.member.state ≠ .inStep ∨ s.bus.unackRun < 2) :
    (s.ownAccepted acked).notice = s.notice := by
  cases acked with
  | true => rfl
  | false =>
    have hno : ¬(s.member.state = .inStep ∧ 3 ≤ satSucc 255 s.bus.unackRun) := by
      rintro ⟨hin, hrun⟩
      rcases h with h | h | h
      · cases h
      · exact h hin
      · unfold satSucc at hrun
        split at hrun <;> omega
    unfold ownAccepted
    dsimp only
    rw [if_neg Bool.false_ne_true]
    unfold judgeIsolated
    split
    · next hyes => exact absurd hyes hno
    · rfl

theorem judged_notice {s : State} {rx : Rx} {p : ClaimPayload} {x : TxFrame} (htx : s.bus.tx = some x)
    (hv : s.admissionTest rx.sender p.ch p.urgency p.inrush.val p.draw.val ≠ .admitted)
    (h : rx.acked = true ∨ s.member.state ≠ .inStep ∨ s.bus.unackRun < 2) : (s.judged rx p).notice = s.notice := by
  have hown : (s.heard rx (.claim p)).notice = s.notice := by
    rw [heard_of_own htx]
    exact ownAccepted_notice (s := s.clearTx) h
  rw [judged, claimTabled, if_neg (by rwa [heard_judgement])]
  simpa using hown

/-! ## The verdict -/

theorem claimWithdrawn_of_tx {s : State} {x : TxFrame} (h : s.bus.tx = some x) : s.claimWithdrawn = x.withdrawn := by
  unfold claimWithdrawn
  rw [h]

theorem verdictTaken_admitted {s : State} {x : TxFrame} {p : ClaimPayload} (h : x.withdrawn = false) :
    s.verdictTaken x p .admitted = s.startAdmitted p.ch p.seq := by
  simp [verdictTaken, h]

theorem verdictTaken_refused {s : State} {x : TxFrame} {p : ClaimPayload} {v : Judgement} (h : x.withdrawn = false)
    (hv : v ≠ .admitted) :
    s.verdictTaken x p v = if s.isHead p.ch then s.requeue p.ch else (s.requeue p.ch).notify := by
  simp [verdictTaken, h, hv]

theorem verdictTaken_withdrawn {s : State} {x : TxFrame} {p : ClaimPayload} {v : Judgement} (h : x.withdrawn = true)
    (hv : v ≠ .admitted) : s.verdictTaken x p v = s.deferredJoin p.ch := by
  simp [verdictTaken, h, hv]

theorem verdictTaken_withdrawnAdmitted {s : State} {x : TxFrame} {p : ClaimPayload} (h : x.withdrawn = true) :
    s.verdictTaken x p .admitted =
      ((s.writeSeq p.ch p.seq).setRelease p.ch (.abandoned .requestOff)).deferredJoin p.ch := by
  simp [verdictTaken, h]

theorem verdictTaken_refused_engine {s : State} {x : TxFrame} {p : ClaimPayload} {v : Judgement} (hv : v ≠ .admitted) :
    (s.verdictTaken x p v).engine = s.engine := by
  cases h : x.withdrawn with
  | true =>
    rw [verdictTaken_withdrawn h hv]
    simp
  | false =>
    rw [verdictTaken_refused h hv]
    split <;> rfl

theorem deferredJoin_fields (s : State) (c d : Chan) :
    ((s.deferredJoin c).chan d).seq = (s.chan d).seq ∧ ((s.deferredJoin c).chan d).renewals = (s.chan d).renewals
      ∧ ((s.deferredJoin c).chan d).release = (s.chan d).release ∧ ((s.deferredJoin c).chan d).pre = (s.chan d).pre
      ∧ ((s.deferredJoin c).chan d).main = (s.chan d).main := by
  unfold deferredJoin
  split
  · rw [chan_join]
    split
    · next h => rw [h]; exact ⟨rfl, rfl, rfl, rfl, rfl⟩
    · exact ⟨rfl, rfl, rfl, rfl, rfl⟩
  · exact ⟨rfl, rfl, rfl, rfl, rfl⟩

/-- An admitted withdrawn claim: its channel owes ABANDONED(REQUEST_OFF) for the claim's seq (R59). -/
theorem chan_withdrawnAdmitted (s : State) (c : Chan) (q : Seq) :
    let k := (((s.writeSeq c q).setRelease c (.abandoned .requestOff)).deferredJoin c).chan c
    k.seq = some q ∧ k.renewals = 0 ∧ k.release = .abandoned .requestOff ∧ k.pre = (s.chan c).pre
      ∧ k.main = (s.chan c).main := by
  obtain ⟨hseq, hren, hrel, hpre, hmain⟩ :=
    deferredJoin_fields ((s.writeSeq c q).setRelease c (.abandoned .requestOff)) c c
  dsimp only
  rw [hseq, hren, hrel, hpre, hmain, chan_setRelease, if_pos rfl, chan_writeSeq, if_pos rfl]
  exact ⟨rfl, rfl, rfl, rfl, rfl⟩

/-! ## The claim counter and the seq of an admitted start -/

theorem claimSeq_failRecipe (s : State) (c : Chan) (j : Nat) : (s.failRecipe c j).queue.claimSeq = s.queue.claimSeq := by
  have h := claimSeq_clearMark (((s.outsOff c).setRelease c (.abandoned .recipeFailed)).enter c .faulted) c
  exact h.trans (by simp)

theorem claimSeq_takeSteps (s : State) (c : Chan) (i : Nat) : (s.takeSteps c i).queue.claimSeq = s.queue.claimSeq := by
  rw [takeSteps_eq]
  cases runEnd s c i with
  | waits j left => rfl
  | completes => rfl
  | fails j => exact claimSeq_failRecipe _ c j

theorem claimSeq_beginStart (s : State) (c : Chan) : (s.beginStart c).queue.claimSeq = s.queue.claimSeq :=
  claimSeq_takeSteps _ c 0

theorem claimSeq_resume (s : State) (k : Context) : (s.resume k).queue.claimSeq = s.queue.claimSeq := by
  have htaken : (s.taken k).queue.claimSeq = s.queue.claimSeq := by
    unfold taken restored
    split <;> rfl
  have hcases : (s.taken k).Resumes k (s.resume k) := s.resume_cases k
  generalize s.resume k = t at hcases ⊢
  cases hcases with
  | waits left => exact htaken
  | steps i => exact (claimSeq_takeSteps _ _ i).trans htaken
  | fails => exact (claimSeq_failRecipe _ _ _).trans htaken

theorem claimSeq_freeLoop (n : Nat) (s : State) : (freeLoop n s).queue.claimSeq = s.queue.claimSeq := by
  induction n generalizing s with
  | zero => rfl
  | succ n ih =>
    unfold freeLoop
    split
    · rfl
    · split
      · next d _ => exact (ih _).trans (claimSeq_beginStart s.unwaited d)
      · split
        · next k rest _ => exact (ih _).trans (claimSeq_resume (s.popped rest) k)
        · rfl

theorem claimSeq_freeEngine (s : State) : s.freeEngine.queue.claimSeq = s.queue.claimSeq := by
  unfold freeEngine
  split
  · rfl
  · exact claimSeq_freeLoop 5 s

/-! ## The three ways of placing a start (R91, R103, R104) -/

theorem placeStart_idle {s : State} (h : s.engine.running = none) (c : Chan) :
    s.placeStart c = ((s.renewalsCleared c).beginStart c).freeEngine.notify := by
  unfold placeStart
  dsimp only
  split
  · rfl
  · next r hr =>
    rw [h] at hr
    cases hr

theorem placeStart_preempts {s : State} {r : RunSlot} {st : Step} (h : s.engine.running = some r)
    (hst : s.stepOf r = some st) (hy : stepYields st = true) (c : Chan) :
    s.placeStart c =
      ((((s.renewalsCleared c).suspend r.ch r.step (some r.timeLeft)).beginStart c).freeEngine).notify := by
  unfold placeStart
  dsimp only
  split
  · next hr =>
    rw [h] at hr
    cases hr
  · next q hq =>
    obtain rfl : r = q := Option.some.inj (h.symm.trans hq)
    split
    · next st' hst' =>
      obtain rfl : st = st' := Option.some.inj (hst.symm.trans hst')
      rw [if_pos hy]
      rfl
    · next hnone => cases hst.symm.trans hnone

/-- A placed start waits in the PENDING slot. -/
def pended (s : State) (c : Chan) : State :=
  ({ (s.renewalsCleared c).enter c .pending with engine.waiting := some c } : State).notify

theorem placeStart_waits {s : State} {r : RunSlot} (h : s.engine.running = some r)
    (hst : ∀ st, s.stepOf r = some st → stepYields st = false) (c : Chan) : s.placeStart c = s.pended c := by
  unfold placeStart
  dsimp only
  split
  · next hr =>
    rw [h] at hr
    cases hr
  · next q hq =>
    obtain rfl : r = q := Option.some.inj (h.symm.trans hq)
    split
    · next st hs =>
      rw [if_neg (by rw [hst st hs]; decide)]
      rfl
    · rfl

theorem placeStart_cases (s : State) (c : Chan) :
    s.placeStart c = ((s.renewalsCleared c).beginStart c).freeEngine.notify
      ∨ (∃ r : RunSlot, s.placeStart c =
        ((((s.renewalsCleared c).suspend r.ch r.step (some r.timeLeft)).beginStart c).freeEngine).notify)
      ∨ s.placeStart c = s.pended c := by
  cases hr : s.engine.running with
  | none => exact .inl (placeStart_idle hr c)
  | some r =>
    by_cases hy : ∃ st, s.stepOf r = some st ∧ stepYields st = true
    · obtain ⟨st, hst, hyield⟩ := hy
      exact .inr (.inl ⟨r, placeStart_preempts hr hst hyield c⟩)
    · refine .inr (.inr (placeStart_waits hr (fun st hst => ?_) c))
      exact Bool.eq_false_iff.mpr fun hyield => hy ⟨st, hst, hyield⟩

theorem claimSeq_placeStart (s : State) (c : Chan) : (s.placeStart c).queue.claimSeq = s.queue.claimSeq := by
  rcases s.placeStart_cases c with h | ⟨r, h⟩ | h
  · rw [h]
    exact (claimSeq_freeEngine _).trans (claimSeq_beginStart _ c)
  · rw [h]
    have hsus : ((s.renewalsCleared c).suspend r.ch r.step (some r.timeLeft)).queue = s.queue := by simp; rfl
    exact ((claimSeq_freeEngine _).trans (claimSeq_beginStart _ c)).trans (congrArg ClaimQueue.claimSeq hsus)
  · rw [h]
    rfl

theorem claimSeq_removeStart (s : State) (c : Chan) : (s.removeStart c).queue.claimSeq = s.queue.claimSeq := by
  unfold removeStart
  dsimp only
  repeat' split
  · rfl
  · exact claimSeq_freeEngine _
  · rfl
  · rfl
  · rfl

theorem inhibitStart_eq (s : State) (c : Chan) :
    s.inhibitStart c = (((s.outsOff c).removeStart c).setRelease c (.abandoned .inhibit)).join c := rfl

theorem claimSeq_inhibitStart (s : State) (c : Chan) : (s.inhibitStart c).queue.claimSeq = s.queue.claimSeq := by
  have hrem := claimSeq_removeStart (s.outsOff c) c
  rw [inhibitStart_eq, claimSeq_join]
  simpa using hrem

/-- An admitted start before INH: its seq written, its entry gone, placed. -/
def placed (s : State) (c : Chan) (q : Seq) : State := ((s.writeSeq c q).leave c).placeStart c

theorem startAdmitted_eq (s : State) (c : Chan) (q : Seq) :
    s.startAdmitted c q =
      if s.inh.asserted = true ∧ ((s.placed c q).chan c).state.inEngine = true then (s.placed c q).inhibitStart c
      else s.placed c q := by
  have hinh : (((s.writeSeq c q).leave c).placeStart c).inh = s.inh := by simp [writeSeq]
  unfold startAdmitted placed
  dsimp only
  simp only [Bool.and_eq_true]
  rw [hinh]

theorem claimSeq_startAdmitted (s : State) (c : Chan) (q : Seq) :
    (s.startAdmitted c q).queue.claimSeq = s.queue.claimSeq := by
  have hplaced : (s.placed c q).queue.claimSeq = s.queue.claimSeq := claimSeq_placeStart _ c
  rw [startAdmitted_eq]
  split
  · exact (claimSeq_inhibitStart _ c).trans hplaced
  · exact hplaced

theorem claimSeq_verdictTaken (s : State) (x : TxFrame) (p : ClaimPayload) (v : Judgement) :
    (s.verdictTaken x p v).queue.claimSeq = s.queue.claimSeq := by
  unfold verdictTaken
  repeat' split
  · rw [claimSeq_deferredJoin]
    rfl
  · exact claimSeq_deferredJoin _ _
  · exact claimSeq_startAdmitted _ _ _
  · exact claimSeq_requeue _ _
  · exact claimSeq_requeue _ _

theorem sameCourse_join (s : State) (c : Chan) : s.sameCourse (s.join c) := fun d => by
  rw [chan_join]
  split
  · next h => rw [h]; rfl
  · rfl

theorem sameCourse_setRelease (s : State) (c : Chan) (r : Release) : s.sameCourse (s.setRelease c r) := fun d => by
  rw [chan_setRelease]
  split
  · next h => rw [h]; rfl
  · rfl

theorem sameCourse_inhibitStart (s : State) (c : Chan) : s.sameCourse (s.inhibitStart c) := by
  have houts : s.sameCourse (s.outsOff c) := sameCourse_modChan s c fun _ => rfl
  exact ((houts.trans (sameCourse_removeStart _ c)).trans (sameCourse_setRelease _ c _)).trans (sameCourse_join _ c)

/-- An admitted start's channel carries the seq of its claim and no renewal (R69, R73). -/
theorem startAdmitted_seq (s : State) (c : Chan) (q : Seq) :
    ((s.startAdmitted c q).chan c).seq = some q ∧ ((s.startAdmitted c q).chan c).renewals = 0 := by
  have hseq : ((s.writeSeq c q).leave c).chan c = { s.chan c with seq := some q, renewals := 0 } := by
    rw [chan_leave, chan_writeSeq, if_pos rfl]
  have hplaced : ((s.writeSeq c q).leave c).sameCourse (s.placed c q) := sameCourse_placeStart _ c
  have hadm : ((s.writeSeq c q).leave c).sameCourse (s.startAdmitted c q) := by
    rw [startAdmitted_eq]
    split
    · exact hplaced.trans (sameCourse_inhibitStart _ c)
    · exact hplaced
  have hcourse := hadm c
  rw [seq_of_course hcourse, renewals_of_course hcourse, hseq]
  exact ⟨rfl, rfl⟩

end State

end Sys2Proof.Machine
end

section
/-! The verdict on an own CLAIM (O7). -/

namespace Sys2Proof.Machine

open Sys2Proof

namespace State

/-! ## A QUEUED entry through an evaluation -/

/-- An entry of a QUEUED channel stands in the queue. -/
structure lines (s : State) (c : Chan) (x : QueueEntry) : Prop where
  listed : x ∈ s.queue.entries
  its : x.ch = c
  queued : (s.chan c).state = .queued

/-- An entry stands in the queue as it was, but for its shed wait. -/
def listsButShed (s : State) (x : QueueEntry) : Prop := ∃ y ∈ s.queue.entries, y = { x with shedWait := y.shedWait }

theorem listsButShed_of_mem {s : State} {x : QueueEntry} (h : x ∈ s.queue.entries) : s.listsButShed x := ⟨x, h, rfl⟩

theorem listsButShed_of_entries {s t : State} {x : QueueEntry} (h : s.listsButShed x)
    (ht : t.queue.entries = s.queue.entries) : t.listsButShed x := by
  unfold listsButShed
  rw [ht]
  exact h

theorem lines_requeue {s : State} {c d : Chan} {x : QueueEntry} (h : s.lines c x) (hd : (s.chan d).state = .claiming) :
    (s.requeue d).lines c x := by
  have hne : d ≠ c := fun he => by rw [he, h.queued] at hd; cases hd
  exact ⟨mem_requeue_other h.listed h.its hne, h.its, by rw [chan_requeue_queued hd h.queued]; exact h.queued⟩

theorem lines_withdrawBehind {c : Chan} {x : QueueEntry} (l : List QueueEntry) {s : State} (h : s.lines c x) :
    (s.withdrawBehind l).lines c x := by
  induction l generalizing s with
  | nil => exact h
  | cons e es ih =>
    rw [withdrawBehind]
    split
    · next hcl => exact ih (lines_requeue h hcl.1)
    · exact ih h

/-- The judgement of the head takes an entry's shed wait at most. -/
theorem lines_judgeHead {s : State} {c : Chan} {x : QueueEntry} (h : s.lines c x) : s.judgeHead.listsButShed x := by
  have hstay := listsButShed_of_mem h.listed
  unfold judgeHead
  split
  · exact hstay
  · next e rest hq =>
    split
    · split
      · by_cases hx : x.ch = e.ch
        · exact ⟨{ x with shedWait := none }, List.mem_map.mpr ⟨x, h.listed, if_pos hx⟩, rfl⟩
        · exact ⟨x, List.mem_map.mpr ⟨x, h.listed, if_neg hx⟩, rfl⟩
      · exact listsButShed_of_entries hstay (judgeShedNeed_entries s e).1
    · next hcl =>
      split
      · exact hstay
      · exact listsButShed_of_entries (listsButShed_of_mem (lines_requeue h hcl).listed) (judgeShedNeed_entries _ e).1
    all_goals exact hstay

theorem lines_frameEnds_finish {s : State} {c : Chan} {x : QueueEntry} (h : s.lines c x) :
    s.frameEnds.finish.listsButShed x := by
  have hstart : ({ s.frameEnds with notice := false } : State).lines c x := ⟨h.listed, h.its, h.queued⟩
  have hnotice : s.frameEnds.takeNotice.listsButShed x := by
    unfold takeNotice
    split
    · split
      · exact lines_judgeHead (lines_withdrawBehind _ hstart)
      · exact listsButShed_of_mem h.listed
    · exact listsButShed_of_mem h.listed
  rw [frameEnds_finish]
  exact listsButShed_of_entries hnotice (by simp)

/-! ## A refused claim's entry -/

/-- Its entry is QUEUED again in its place, the offer forgotten (R58). -/
theorem refused_lines {s : State} {x : TxFrame} {p : ClaimPayload} {v : Judgement} {e : QueueEntry} (hw : x.withdrawn = false)
    (hv : v ≠ .admitted) (he : e ∈ s.queue.entries) (hc : e.ch = p.ch) :
    (s.verdictTaken x p v).lines p.ch { e with voids := 0, offered := none } := by
  have hmem : { e with voids := 0, offered := none } ∈ (s.requeue p.ch).queue.entries := mem_requeue_self he hc
  have hqueued : ((s.requeue p.ch).chan p.ch).state = .queued := by rw [chan_requeue, if_pos rfl]
  rw [verdictTaken_refused hw hv]
  split
  · exact ⟨hmem, hc, hqueued⟩
  · exact ⟨hmem, hc, hqueued⟩

theorem refused_keys {s : State} {x : TxFrame} {p : ClaimPayload} {v : Judgement} (hw : x.withdrawn = false)
    (hv : v ≠ .admitted) : (s.verdictTaken x p v).queueKeys = s.queueKeys := by
  rw [verdictTaken_refused hw hv]
  split
  · exact queueKeys_requeue s p.ch
  · exact queueKeys_requeue s p.ch

theorem refused_same {s : State} {x : TxFrame} {p : ClaimPayload} {v : Judgement} (hw : x.withdrawn = false)
    (hv : v ≠ .admitted) (hst : (s.chan p.ch).state = .claiming) (c : Chan) :
    sameButOffer ((s.verdictTaken x p v).chan c) (s.chan c) := by
  have hsame := s.requeue_same p.ch c (.inr hst)
  rw [verdictTaken_refused hw hv]
  split
  · exact hsame
  · exact hsame

/-- Where no evaluation is due, or another head is evaluated, the refused entry is not offered again in the same step. -/
theorem refused_stays {s : State} {x : TxFrame} {p : ClaimPayload} {v : Judgement} {e : QueueEntry} (hw : x.withdrawn = false)
    (hv : v ≠ .admitted) (he : e ∈ s.queue.entries) (hc : e.ch = p.ch) (hn : s.notice = false) :
    let t := (s.verdictTaken x p v).frameEnds.finish
    (t.chan p.ch).state = .queued ∧ { e with voids := 0, offered := none } ∈ t.queue.entries := by
  have hlines := refused_lines (x := x) hw hv he hc
  dsimp only
  cases hhead : s.isHead p.ch with
  | true =>
    have heq : s.verdictTaken x p v = s.requeue p.ch := by rw [verdictTaken_refused hw hv, if_pos hhead]
    have hnone : (s.verdictTaken x p v).notice = false := by
      rw [heq]
      exact hn
    obtain ⟨hq, hch⟩ := frameEnds_finish_of_no_notice hnone
    rw [hq, chan_of_channels hch]
    exact ⟨hlines.queued, hlines.listed⟩
  | false =>
    have hquiet : (s.verdictTaken x p v).quiet p.ch := by
      rw [verdictTaken_refused hw hv, if_neg (by simp [hhead])]
      exact .inl ((isHead_requeue s p.ch p.ch).trans hhead)
    obtain ⟨hmem, hchan⟩ := rests_frameEnds_finish ⟨hlines.listed, hlines.its, hlines.queued, hquiet⟩
    rw [hchan]
    exact ⟨hlines.queued, hmem⟩

theorem map_ch_stamp_of_keys {s t : State} (h : t.queueKeys = s.queueKeys) :
    t.queue.entries.map (fun x => (x.ch, x.stamp)) = s.queue.entries.map fun x => (x.ch, x.stamp) := by
  have hkeys (u : State) : u.queue.entries.map (fun x => (x.ch, x.stamp)) = u.queueKeys.map fun k => (k.1, k.2.1) := by
    unfold queueKeys
    rw [List.map_map]
    rfl
  rw [hkeys, hkeys, h]

/-! ## An unjudged CLAIM (R12) -/

/-- What a CLAIM with inrush 0 or hold limit 0 leaves of itself: an own one is voided. -/
def unjudged (s : State) (rx : Rx) (p : ClaimPayload) : State :=
  applyClaim rx.sender p s.bus.tx (s.heard rx (.claim p))

theorem unjudged_cases (s : State) (rx : Rx) {p : ClaimPayload} (h : p.inrush = 0 ∨ p.hold = 0) :
    s.unjudged rx p = s.heard rx (.claim p)
      ∨ ∃ x, s.bus.tx = some x ∧ s.unjudged rx p = (s.heard rx (.claim p)).claimVoided x p.ch := by
  unfold unjudged
  rw [applyClaim_eq, if_pos h]
  cases htx : s.bus.tx with
  | none => exact .inl rfl
  | some x =>
    dsimp only
    split
    · exact .inr ⟨x, rfl, rfl⟩
    · exact .inl rfl

/-- An unjudged CLAIM changes no table and neither count. -/
theorem unjudged_tables (s : State) (rx : Rx) {p : ClaimPayload} (h : p.inrush = 0 ∨ p.hold = 0) :
    (s.unjudged rx p).starts = s.starts ∧ (s.unjudged rx p).draws = s.draws
      ∧ (s.unjudged rx p).queue.claimSeq = s.queue.claimSeq
      ∧ (s.unjudged rx p).bus.counters.refused = s.bus.counters.refused := by
  have hrefused := (s.heard_counts rx (.claim p)).2
  rcases s.unjudged_cases rx h with heq | ⟨x, -, heq⟩
  · rw [heq]
    simpa using hrefused
  · rw [heq]
    simpa using hrefused

end State

open State

/-- Settles O7: the verdict on an own CLAIM; one with inrush 0 or hold limit 0 reaches none. -/
theorem ownClaimVerdict : Obligations.OwnClaimVerdict := by
  unfold Obligations.OwnClaimVerdict
  refine ⟨fun rx p s h hl hi hh => ?_, fun rx p s h hzero => ?_⟩
  · obtain ⟨htakes, x, htx⟩ := takes_of_takesOwn h
    have hexec := exec_ownClaim htakes htx hl hi hh
    have hcount := s.judged_refused rx p
    have hnotice (hv : _) := judged_notice (p := p) (rx := rx) htx hv
    have hseq := claimSeq_verdictTaken (s.judged rx p) x p
    have hkeys : (s.judged rx p).queueKeys = s.queueKeys := queueKeys_of_entries (by simp)
    rw [claimWithdrawn_of_tx htx]
    dsimp only
    generalize s.admissionTest rx.sender p.ch p.urgency p.inrush.val p.draw.val = v at hexec hcount hnotice ⊢
    have hrefused := refused_of_core (verdictTaken_core (s.judged rx p) x p v)
    have hsame := sameButOffer_frameEnds_finish ((s.judged rx p).verdictTaken x p v)
    refine ⟨_, hexec, ?_, fun hv => ?_, fun hv => ⟨?_, ?_⟩, fun hv hw => ?_, fun hv => ?_, fun hv hw hst c => ?_,
      fun hv hw e he => ?_⟩
    · rw [claimSeq_finish]
      exact (hseq v).trans (by simp)
    · rw [if_neg hv] at hcount
      simpa using hrefused.trans hcount
    · rw [if_pos hv] at hcount
      simpa using hrefused.trans hcount
    · subst hv
      obtain ⟨-, -, -, -, hq, hren, -⟩ := fields_of_sameButOffer (hsame p.ch)
      rw [hq, hren]
      cases hw : x.withdrawn with
      | true =>
        obtain ⟨hs, hr, -⟩ := chan_withdrawnAdmitted (s.judged rx p) p.ch p.seq
        rw [verdictTaken_withdrawnAdmitted hw]
        exact ⟨hs, hr⟩
      | false =>
        rw [verdictTaken_admitted hw]
        exact startAdmitted_seq _ _ _
    · subst hv
      obtain ⟨-, -, hrel, -, -, -, -, -, -, -, hpre, hmain⟩ := fields_of_sameButOffer (hsame p.ch)
      rw [hrel, hpre, hmain, verdictTaken_withdrawnAdmitted hw]
      obtain ⟨-, -, hr, hp, hm⟩ := chan_withdrawnAdmitted (s.judged rx p) p.ch p.seq
      rw [chan_judged] at hp hm
      exact ⟨hr, by simp [writeSeq], hp, hm⟩
    · simpa using verdictTaken_refused_engine (s := s.judged rx p) (x := x) (p := p) hv
    · have hchan := refused_same (s := s.judged rx p) (x := x) (p := p) hw hv (by rw [chan_judged]; exact hst) c
      rw [chan_judged] at hchan
      exact sameButOffer_trans (hsame c) hchan
    · have hmem : e ∈ (s.judged rx p).queue.entries := by simpa using List.mem_of_find?_eq_some he
      have hch : e.ch = p.ch := by simpa using List.find?_some he
      refine ⟨map_ch_stamp_of_keys ?_, ?_, fun hn hquiet => ?_⟩
      · rw [queueKeys_finish]
        exact (refused_keys hw hv).trans hkeys
      · exact lines_frameEnds_finish (refused_lines (x := x) hw hv hmem hch)
      · exact refused_stays hw hv hmem hch ((hnotice hv hquiet).trans hn)
  · obtain ⟨hstarts, hdraws, hseq, hrefused⟩ := s.unjudged_tables rx hzero
    refine ⟨(s.unjudged rx p).frameEnds.finish, execClaim_taken h, by simpa using hstarts, by simpa using hdraws, ?_, ?_,
      fun hother => ?_⟩
    · rw [claimSeq_finish]
      exact hseq
    · simpa using hrefused
    · obtain ⟨-, htx⟩ := takes_of_takesOther hother
      rcases s.unjudged_cases rx hzero with heq | ⟨x, hx, -⟩
      · rw [heq]
        exact sameLocal_taken (s.heard_sameLocal rx _)
      · rw [htx] at hx
        cases hx

end Sys2Proof.Machine
end

section
/-! An admitted own start at an idle engine (O8). -/

namespace Sys2Proof.Machine

open Sys2Proof

namespace State

/-! ## Where an admitted start is placed -/

/-- The state in which the engine places an admitted own start: its seq written, its entry gone, no renewal counted. -/
def ground (s : State) (rx : Rx) (p : ClaimPayload) : State :=
  (((s.judged rx p).writeSeq p.ch p.seq).leave p.ch).renewalsCleared p.ch

theorem ground_keeps (s : State) (rx : Rx) (p : ClaimPayload) :
    (s.ground rx p).pins = s.pins ∧ (s.ground rx p).loader = s.loader ∧ (s.ground rx p).inh = s.inh
      ∧ (s.ground rx p).faults = (s.heard rx (.claim p)).faults
      ∧ (s.ground rx p).member = (s.heard rx (.claim p)).member := by
  simp [ground, writeSeq, renewalsCleared]

theorem ground_engine (s : State) (rx : Rx) (p : ClaimPayload) :
    (s.ground rx p).engine =
      { s.engine with
        renewVoids := s.engine.renewVoids.set p.ch 0, exhausted := s.engine.exhausted.set p.ch false } := by
  have h : (((s.judged rx p).writeSeq p.ch p.seq).leave p.ch).engine = s.engine := by simp [writeSeq]
  rw [ground, renewalsCleared, h]

theorem chan_ground (s : State) (rx : Rx) (p : ClaimPayload) (d : Chan) :
    (s.ground rx p).chan d = if d = p.ch then { s.chan p.ch with seq := some p.seq, renewals := 0 } else s.chan d := by
  have h : (s.ground rx p).chan d = (((s.judged rx p).writeSeq p.ch p.seq).leave p.ch).chan d := rfl
  rw [h, chan_leave, chan_writeSeq, chan_judged, chan_judged]

theorem ground_live (s : State) (rx : Rx) (p : ClaimPayload) : (s.ground rx p).live = s.live :=
  (live_of_keeps (s := s.judged rx p) (by simp [ground, writeSeq, renewalsCleared])
    (by simp [ground, writeSeq, renewalsCleared])).trans (judged_live s rx p)

theorem ground_levels (s : State) (rx : Rx) (p : ClaimPayload) (d : Chan) :
    ((s.ground rx p).chan d).pre = (s.chan d).pre ∧ ((s.ground rx p).chan d).main = (s.chan d).main := by
  rw [chan_ground]
  split
  · next h => rw [h]; exact ⟨rfl, rfl⟩
  · exact ⟨rfl, rfl⟩

/-- A run of steps goes there as it would have before the claim. -/
theorem runFrom_ground (s : State) (rx : Rx) (p : ClaimPayload) (d : Chan) (i : Nat) :
    (s.ground rx p).runFrom d i = s.runFrom d i := by
  obtain ⟨hp, hl, -⟩ := s.ground_keeps rx p
  obtain ⟨hpre, hmain⟩ := s.ground_levels rx p d
  exact runFrom_congr hp hl hpre hmain i

/-- The start placed, from there. -/
def placedAt (s : State) (rx : Rx) (p : ClaimPayload) : State := (s.judged rx p).placed p.ch p.seq

theorem placedAt_idle {s : State} (h : s.engine.running = none) (rx : Rx) (p : ClaimPayload) :
    s.placedAt rx p = ((s.ground rx p).beginStart p.ch).freeEngine.notify :=
  placeStart_idle (by simpa [writeSeq] using h) p.ch

/-- An admitted own CLAIM that was not withdrawn. -/
theorem exec_startAdmitted {s : State} {rx : Rx} {p : ClaimPayload} (h : s.takesOwn rx (.claim p) = true)
    (hl : s.live = true) (hi : p.inrush ≠ 0) (hh : p.hold ≠ 0) (hw : s.claimWithdrawn = false)
    (hv : s.admissionTest rx.sender p.ch p.urgency p.inrush.val p.draw.val = .admitted) :
    exec (.claim rx p) s = .next
      (if s.inh.asserted = true ∧ ((s.placedAt rx p).chan p.ch).state.inEngine = true then
        (s.placedAt rx p).inhibitStart p.ch
      else s.placedAt rx p).frameEnds.finish := by
  obtain ⟨htakes, x, htx⟩ := takes_of_takesOwn h
  have hinh : (s.judged rx p).inh = s.inh := by simp
  rw [claimWithdrawn_of_tx htx] at hw
  rw [exec_ownClaim htakes htx hl hi hh, hv, verdictTaken_admitted hw, startAdmitted_eq, hinh]
  rfl

theorem exec_startPlaced {s : State} {rx : Rx} {p : ClaimPayload} (h : s.takesOwn rx (.claim p) = true)
    (hl : s.live = true) (hi : p.inrush ≠ 0) (hh : p.hold ≠ 0) (hw : s.claimWithdrawn = false)
    (hn : s.inh.asserted = false) (hv : s.admissionTest rx.sender p.ch p.urgency p.inrush.val p.draw.val = .admitted) :
    exec (.claim rx p) s = .next (s.placedAt rx p).frameEnds.finish := by
  rw [exec_startAdmitted h hl hi hh hw hv, if_neg (by simp [hn])]

/-! ## The end of the step -/

/-- The end of the frame carries what a run of steps left, where nothing else touched it. -/
theorem carried_end {v x : State} {c : Chan} (hch : x.chan c = v.chan c) (hf : x.faults = v.faults) (hl : x.live = true) :
    Carried v.flagged x.frameEnds.finish c := by
  obtain ⟨hchan, hrec, hflt⟩ := carried_finish (u := x.frameEnds) hl c
  have hx : x.frameEnds.flagged.chan c = v.flagged.chan c := hch
  have hr : x.frameEnds.flagged.faults = v.flagged.faults := hf
  rw [hx] at hchan
  rw [hr] at hrec
  exact ⟨hchan, hrec, hflt⟩

theorem begun_live (s : State) (rx : Rx) (p : ClaimPayload) :
    ((s.ground rx p).beginStart p.ch).live = s.live :=
  (live_of_keeps (by simp) (by simp)).trans (ground_live s rx p)

/-- The start placed at an idle engine with nothing to take up. -/
theorem placedAt_still {s : State} (hr : s.engine.running = none) (hw : s.engine.waiting = none)
    (hs : s.engine.stack = []) (rx : Rx) (p : ClaimPayload) :
    (s.placedAt rx p).channels = ((s.ground rx p).beginStart p.ch).channels
      ∧ (s.placedAt rx p).faults = ((s.ground rx p).beginStart p.ch).faults
      ∧ (s.placedAt rx p).engine = ((s.ground rx p).beginStart p.ch).engine := by
  obtain ⟨-, hwait, hstack⟩ := (s.ground rx p).beginStart_engine p.ch
  rw [ground_engine] at hwait hstack
  have hstill : ((s.ground rx p).beginStart p.ch).still := .inr ⟨hwait.trans hw, hstack.trans hs⟩
  rw [placedAt_idle hr]
  rcases freeEngine_still hstill with heq | heq
  · rw [heq]
    exact ⟨rfl, rfl, rfl⟩
  · rw [heq]
    exact ⟨rfl, rfl, rfl⟩

theorem placedAt_live (s : State) (rx : Rx) (p : ClaimPayload) : (s.placedAt rx p).live = s.live :=
  (live_of_keeps (s := s.judged rx p) (by simp [placedAt, placed, writeSeq]) (by simp [placedAt, placed, writeSeq])).trans
    (judged_live s rx p)

/-- The steps of a start placed at an idle engine have been taken. -/
theorem placedAt_ran {s : State} (hl : s.live = true) (hr : s.engine.running = none) (hw : s.engine.waiting = none)
    (hs : s.engine.stack = []) (rx : Rx) (p : ClaimPayload) :
    let t := (s.placedAt rx p).frameEnds.finish
    ranTo s t p.ch 0 ∧ t.engine.waiting = none ∧ t.engine.stack = [] := by
  obtain ⟨hch, hf, he⟩ := placedAt_still hr hw hs rx p
  obtain ⟨hrun, hwait, hstack⟩ := (s.ground rx p).beginStart_engine p.ch
  rw [ground_engine] at hwait hstack
  have hran := (ranTo_congr (runFrom_ground s rx p p.ch 0)).mp ((s.ground rx p).beginStart_ran p.ch)
  have hcar := carried_end (c := p.ch) (chan_of_channels hch p.ch) hf (by rwa [placedAt_live])
  refine ⟨ranTo_carried hran hcar ?_, ?_, ?_⟩
  · simpa [flagged] using congrArg Engine.running he
  · simpa using (congrArg Engine.waiting he).trans (hwait.trans hw)
  · simpa using (congrArg Engine.stack he).trans (hstack.trans hs)

/-! ## A start placed while INH is asserted -/

/-- A start whose run of steps waits: STARTING, and no record is written. -/
theorem beginStart_waits {s : State} {c : Chan} (h : (runEnd s c 0).slot c ≠ none) :
    ((s.beginStart c).chan c).state = .starting ∧ (s.beginStart c).faults = s.faults
      ∧ (s.beginStart c).engine.running = (runEnd s c 0).slot c := by
  have hend : runEnd (s.enter c .starting) c 0 = runEnd s c 0 := runEnd_congr (runFrom_enter s c .starting 0)
  refine ⟨?_, ?_, (s.beginStart_engine c).1⟩
  · have hleft := (ranChan_iff _ _ _ _).mp (s.beginStart_ran c).1
    cases hs : runEnd s c 0 with
    | waits j left =>
      rw [hs] at hleft
      exact hleft.1
    | completes => exact absurd (by rw [hs]; rfl) h
    | fails j => exact absurd (by rw [hs]; rfl) h
  · show ((s.enter c .starting).takeSteps c 0).faults = s.faults
    rw [takeSteps_eq, hend]
    cases hs : runEnd s c 0 with
    | waits j left => rfl
    | completes => exact absurd (by rw [hs]; rfl) h
    | fails j => exact absurd (by rw [hs]; rfl) h

/-- A slot that a run of steps fills is the channel's. -/
theorem slot_ch {e : StepsEnd} {c : Chan} {r : RunSlot} (h : e.slot c = some r) : r.ch = c := by
  cases e with
  | waits j left => cases h; rfl
  | completes => cases h
  | fails j => cases h

/-- A new entry, of which nothing was offered. -/
def isNew (k : ChannelConfig) (c : Chan) (e : QueueEntry) : Prop :=
  e.ch = c ∧ e.eff = k.urgency ∧ e.voids = 0 ∧ e.offered = none

theorem lists_isNew_join (s : State) (c : Chan) : (s.join c).lists (isNew (s.cfg c) c) := by
  have hjoined : ∃ e ∈ (s.queue.joined (s.cfg c) c).entries, isNew (s.cfg c) c e := by
    unfold ClaimQueue.joined
    split
    · exact ⟨_, List.mem_map.mpr ⟨joinEntry (s.cfg c) c s.queue.nextStamp, List.mem_append_right _ List.mem_cons_self, rfl⟩,
        rfl, rfl, rfl, rfl⟩
    · exact ⟨joinEntry (s.cfg c) c s.queue.nextStamp, List.mem_append_right _ List.mem_cons_self, rfl, rfl, rfl, rfl⟩
  obtain ⟨e, he, hnew⟩ := hjoined
  exact ⟨e, (sortBy_perm _ _).mem_iff.mpr he, hnew⟩

/-- A running start that leaves an engine with nothing else. -/
theorem removeStart_alone {s : State} {c : Chan} {r : RunSlot} (hr : s.engine.running = some r) (hc : r.ch = c)
    (hw : s.engine.waiting = none) (hs : s.engine.stack = []) :
    s.removeStart c = (s.renewalsCleared c).idled.notify := by
  rw [removeStart_of_running (by rw [hw]; nofun) hr hc, freeEngine_of_idle rfl]
  rw [freeLoop_of_empty (s := (s.renewalsCleared c).idled) hw hs]

/-- A running start, alone in the engine, aborted by INH (R80). -/
theorem inhibitStart_alone {s : State} {c : Chan} {r : RunSlot} (hr : s.engine.running = some r) (hc : r.ch = c)
    (hw : s.engine.waiting = none) (hs : s.engine.stack = []) :
    (s.inhibitStart c).chan c =
        { s.chan c with pre := false, main := false, release := .abandoned .inhibit, state := .queued }
      ∧ (s.inhibitStart c).engine.running = none ∧ (s.inhibitStart c).engine.waiting = none
      ∧ (s.inhibitStart c).engine.stack = [] ∧ (s.inhibitStart c).faults = s.faults
      ∧ (s.inhibitStart c).inh = s.inh ∧ (s.inhibitStart c).lists (isNew (s.cfg c) c) := by
  have hrem := removeStart_alone (s := s.outsOff c) hr hc hw hs
  have hchan : ((s.outsOff c).removeStart c).chan c = { s.chan c with pre := false, main := false } := by
    rw [hrem]
    show (s.outsOff c).chan c = _
    rw [chan_outsOff, if_pos rfl]
  have hcfg : (((s.outsOff c).removeStart c).setRelease c (.abandoned .inhibit)).cfg c = s.cfg c :=
    cfg_of_loader (by simp) c
  have hnew := lists_isNew_join (((s.outsOff c).removeStart c).setRelease c (.abandoned .inhibit)) c
  rw [hcfg] at hnew
  rw [inhibitStart_eq]
  refine ⟨?_, ?_, ?_, ?_, ?_, by simp, hnew⟩
  · rw [chan_join, if_pos rfl, chan_setRelease, if_pos rfl, hchan]
  · simp only [join_keeps, setRelease_keeps]
    rw [hrem]
    rfl
  · simp only [join_keeps, setRelease_keeps]
    rw [hrem]
    exact hw
  · simp only [join_keeps, setRelease_keeps]
    rw [hrem]
    exact hs
  · simp only [join_keeps, setRelease_keeps]
    rw [hrem]
    rfl

/-- The acceptance of an own frame writes at most the record that ISOLATED was entered. -/
theorem ownAccepted_records {s : State} {acked : Bool} {r : FaultRecord} (h : r ∈ (s.ownAccepted acked).faults.records) :
    r ∈ s.faults.records ∨ r.kind = .isolatedEntered := by
  have hjudge {u : State} (hr : r ∈ u.judgeIsolated.faults.records) (hu : u.faults = s.faults) :
      r ∈ s.faults.records ∨ r.kind = .isolatedEntered := by
    unfold judgeIsolated at hr
    split at hr
    · rcases List.mem_cons.mp (List.mem_of_mem_take hr) with rfl | hold
      · exact .inr rfl
      · left
        rw [← hu]
        simpa using hold
    · exact .inl (hu ▸ hr)
  cases acked with
  | true => exact .inl h
  | false =>
    unfold ownAccepted at h
    dsimp only at h
    rw [if_neg Bool.false_ne_true] at h
    exact hjudge h rfl

theorem ground_records {s : State} {rx : Rx} {p : ClaimPayload} {x : TxFrame} {r : FaultRecord}
    (htx : s.bus.tx = some x) (h : r ∈ (s.ground rx p).faults.records) :
    r ∈ s.faults.records ∨ r.kind = .isolatedEntered := by
  obtain ⟨-, -, -, hf, -⟩ := s.ground_keeps rx p
  rw [hf, heard_of_own htx] at h
  exact ownAccepted_records (s := s.clearTx) h

end State

open State

/-- Settles O8: an admitted own start at an idle engine begins, or is aborted at once under INH. -/
theorem admittedStartBegins : Obligations.AdmittedStartBegins := by
  unfold Obligations.AdmittedStartBegins
  refine ⟨fun rx p s h hl hi hh hw hn hv hr hwait hs => ?_, fun rx p s h hl hi hh hw hn hv hr hwait hs hslot => ?_⟩
  · exact ⟨_, exec_startPlaced h hl hi hh hw hn hv, placedAt_ran hl hr hwait hs rx p⟩
  · obtain ⟨-, x, htx⟩ := takes_of_takesOwn h
    obtain ⟨hch, hf, he⟩ := placedAt_still hr hwait hs rx p
    obtain ⟨-, hl', hinh, -⟩ := s.ground_keeps rx p
    have hend : runEnd (s.ground rx p) p.ch 0 = runEnd s p.ch 0 := runEnd_congr (runFrom_ground s rx p p.ch 0)
    obtain ⟨hstate, hfaults, hrun⟩ := beginStart_waits (s := s.ground rx p) (c := p.ch) (by rwa [hend])
    obtain ⟨-, hw', hs'⟩ := (s.ground rx p).beginStart_engine p.ch
    rw [ground_engine] at hw' hs'
    obtain ⟨r, hslot'⟩ := Option.ne_none_iff_exists'.mp hslot
    rw [hend, hslot'] at hrun
    have hchan := chan_of_channels hch p.ch
    obtain ⟨hleft, hidle, hnone, hempty, hfl, hinh', e, hmem, hech, heff, hvoids, hoff⟩ :=
      inhibitStart_alone (s := s.placedAt rx p) ((congrArg Engine.running he).trans hrun) (slot_ch hslot')
        ((congrArg Engine.waiting he).trans (hw'.trans hwait)) ((congrArg Engine.stack he).trans (hs'.trans hs))
    have hcfg : (s.placedAt rx p).cfg p.ch = s.cfg p.ch :=
      cfg_of_loader (by simp [placedAt, placed, writeSeq]) p.ch
    have hbarred : ((s.placedAt rx p).inhibitStart p.ch).barred p.ch :=
      .inr (.inl (by rw [hinh']; simpa [placedAt, placed, writeSeq] using hn))
    have hqueued : (((s.placedAt rx p).inhibitStart p.ch).chan p.ch).state = .queued := by rw [hleft]
    obtain ⟨hin, hstays⟩ := rests_frameEnds_finish ⟨hmem, hech, hqueued, .inr hbarred⟩
    have hexec := exec_startAdmitted h hl hi hh hw hv
    rw [if_pos ⟨hn, by rw [hchan, hstate]; rfl⟩] at hexec
    have hseq : ((s.placedAt rx p).chan p.ch).seq = some p.seq := by
      have hcourse := sameCourse_beginStart (s.ground rx p) p.ch p.ch
      rw [hchan, seq_of_course hcourse, chan_ground, if_pos rfl]
    refine ⟨_, hexec, ?_, ?_, ?_, ?_, ⟨e, hin, hech, by rw [heff, hcfg], hvoids, hoff⟩, by simpa using hidle,
      by simpa using hnone, by simpa using hempty, fun q hq => ?_⟩
    · rw [hstays, hleft]
    · rw [hstays, hleft]
      exact ⟨rfl, rfl⟩
    · rw [hstays, hleft]
    · rw [hstays, hleft]
      exact hseq
    · refine ground_records (rx := rx) (p := p) htx ?_
      rw [← hfaults, ← hf, ← hfl]
      simpa using hq

end Sys2Proof.Machine
end

section
/-! An admitted own start that finds a recipe running (O9): preemption, resumption, the PENDING slot (R103-R105, R112). -/

namespace Sys2Proof.Machine

open Sys2Proof

namespace State

/-! ## A suspension seen from another state -/

/-- A context record depends on the recipe's suspend policy and the channel's levels. -/
theorem contextOf_congr {s v : State} {c : Chan} (hl : v.loader = s.loader) (hpre : (v.chan c).pre = (s.chan c).pre)
    (hmain : (v.chan c).main = (s.chan c).main) (next : Nat) (left : Option Nat) :
    contextOf v c next left = contextOf s c next left := by
  unfold contextOf
  rw [cfg_of_loader hl, hpre, hmain]

theorem suspended_congr {s v t : State} {c : Chan} {next : Nat} {left : Option Nat} (hl : v.loader = s.loader)
    (hpre : (v.chan c).pre = (s.chan c).pre) (hmain : (v.chan c).main = (s.chan c).main)
    (hs : v.engine.stack = s.engine.stack) (h : suspended v t c next left) : suspended s t c next left := by
  obtain ⟨hst, hstack, hpark, hhold⟩ := h
  rw [contextOf_congr hl hpre hmain, hs] at hstack
  rw [cfg_of_loader hl] at hpark hhold
  rw [hpre, hmain] at hhold
  exact ⟨hst, hstack, hpark, hhold⟩

/-- The record of a suspension gives the channel the levels it had (R106, R112). -/
theorem restored_suspended {s v : State} {c : Chan} {next : Nat} {left : Option Nat}
    (h : v.chan c = (s.suspend c next left).chan c) :
    ((restored v (contextOf s c next left)).chan c).pre = (s.chan c).pre
      ∧ ((restored v (contextOf s c next left)).chan c).main = (s.chan c).main := by
  rw [chan_suspend, if_pos rfl] at h
  unfold restored contextOf
  cases hp : (s.cfg c).suspendPolicy with
  | park =>
    simp only [if_true]
    rw [chan_modChan, if_pos rfl]
    exact ⟨rfl, rfl⟩
  | hold =>
    rw [hp] at h
    simp only [reduceCtorEq, if_false] at h ⊢
    rw [h]
    exact ⟨rfl, rfl⟩

/-! ## A record that waits on -/

/-- A record interrupted in a timed step with time left, its sense not at its level, waits on in it (R112). -/
theorem resume_waits {s : State} {k : Context} {left : Nat} {st : Step} (hp : k.partialTime = some left) (hne : left ≠ 0)
    (hst : (s.cfg k.ch).recipe[k.next]? = some st) (hy : stepYields st = true)
    (hsense : ∀ level timeout y, st = .await level timeout y → s.pins.sense.get k.ch ≠ level) :
    s.resume k = (s.taken k).waiting k left := by
  cases st with
  | drive onMain level => cases hy
  | dwell time y => rw [resume_dwell hp hst, if_neg hne]
  | await level timeout y => rw [resume_await hp hst, if_neg (hsense level timeout y rfl), if_neg hne]
  | check level => cases hy

theorem waiting_engine (s : State) (k : Context) (left : Nat) :
    ((s.taken k).waiting k left).engine =
      { s.engine with running := some { ch := k.ch, step := k.next, timeLeft := left } } := by
  have h : (s.taken k).engine = s.engine := restored_engine s k
  rw [waiting, h]

theorem waiting_faults (s : State) (k : Context) (left : Nat) : ((s.taken k).waiting k left).faults = s.faults := by
  have h : (restored s k).faults = s.faults := by
    unfold restored
    split <;> rfl
  exact h

theorem chan_waiting_other (s : State) (k : Context) (left : Nat) {d : Chan} (h : d ≠ k.ch) :
    ((s.taken k).waiting k left).chan d = s.chan d := by
  have hchan : ((s.taken k).waiting k left).chan d = ((restored s k).enter k.ch .starting).chan d := rfl
  rw [hchan, chan_enter, if_neg h, chan_restored_other s k h]

theorem chan_waiting_self (s : State) (k : Context) (left : Nat) :
    ((s.taken k).waiting k left).chan k.ch = { (restored s k).chan k.ch with state := .starting } := by
  have hchan : ((s.taken k).waiting k left).chan k.ch = ((restored s k).enter k.ch .starting).chan k.ch := rfl
  rw [hchan, chan_enter, if_pos rfl]

/-! ## The preempting start -/

/-- The running recipe suspended where the claimed start is placed. -/
def yielded (s : State) (rx : Rx) (p : ClaimPayload) (r : RunSlot) : State :=
  (s.ground rx p).suspend r.ch r.step (some r.timeLeft)

theorem placedAt_preempts {s : State} {r : RunSlot} {st : Step} (hr : s.engine.running = some r) (hst : s.stepOf r = some st)
    (hy : stepYields st = true) (rx : Rx) (p : ClaimPayload) :
    s.placedAt rx p = ((s.yielded rx p r).beginStart p.ch).freeEngine.notify := by
  have hcfg : (((s.judged rx p).writeSeq p.ch p.seq).leave p.ch).cfg r.ch = s.cfg r.ch :=
    cfg_of_loader (by simp [writeSeq]) r.ch
  refine placeStart_preempts (st := st) (by simpa [writeSeq] using hr) ?_ hy p.ch
  unfold stepOf
  rw [hcfg]
  exact hst

/-- The record of the suspended recipe, as the state before the claim gives it. -/
theorem yielded_context (s : State) (rx : Rx) (p : ClaimPayload) (r : RunSlot) :
    contextOf (s.ground rx p) r.ch r.step (some r.timeLeft) = contextOf s r.ch r.step (some r.timeLeft) := by
  obtain ⟨-, hl, -⟩ := s.ground_keeps rx p
  obtain ⟨hpre, hmain⟩ := s.ground_levels rx p r.ch
  exact contextOf_congr hl hpre hmain _ _

theorem yielded_engine (s : State) (rx : Rx) (p : ClaimPayload) (r : RunSlot) :
    (s.yielded rx p r).engine =
      { s.engine with
        running := none
        stack := contextOf s r.ch r.step (some r.timeLeft) :: s.engine.stack
        renewVoids := s.engine.renewVoids.set p.ch 0
        exhausted := s.engine.exhausted.set p.ch false } := by
  rw [yielded, suspend_engine, yielded_context, ground_engine]

theorem runFrom_yielded (s : State) (rx : Rx) (p : ClaimPayload) {r : RunSlot} (h : r.ch ≠ p.ch) (i : Nat) :
    (s.yielded rx p r).runFrom p.ch i = s.runFrom p.ch i :=
  (runFrom_suspend h.symm _ _ i).trans (runFrom_ground s rx p p.ch i)

/-- The preempting start has taken its steps. -/
theorem yielded_ran (s : State) (rx : Rx) (p : ClaimPayload) {r : RunSlot} (h : r.ch ≠ p.ch) :
    ranTo s ((s.yielded rx p r).beginStart p.ch).flagged p.ch 0 :=
  (ranTo_congr (runFrom_yielded s rx p h 0)).mp ((s.yielded rx p r).beginStart_ran p.ch)

theorem beginStart_renewals {s : State} {c : Chan} (h : s.engine.exhausted.get c = false) :
    (s.beginStart c).engine.renewVoids = s.engine.renewVoids ∧ (s.beginStart c).engine.exhausted = s.engine.exhausted := by
  obtain ⟨-, -, -, hvoids⟩ := takeSteps_engine (s.enter c .starting) c 0
  have hset : s.engine.exhausted.set c false = s.engine.exhausted := by
    rw [← h]
    exact set_get_self _ c
  refine ⟨hvoids, ?_⟩
  show ((s.enter c .starting).takeSteps c 0).engine.exhausted = _
  rw [takeSteps_eq]
  cases runEnd (s.enter c .starting) c 0 with
  | waits j left => rfl
  | completes => simpa [ended] using hset
  | fails j => simpa [ended] using hset

/-- What the engine holds when the preempting start has taken its steps. -/
theorem yielded_begun (s : State) (rx : Rx) (p : ClaimPayload) {r : RunSlot} (h : r.ch ≠ p.ch) :
    ((s.yielded rx p r).beginStart p.ch).engine =
      { s.engine with
        running := (runEnd s p.ch 0).slot p.ch
        stack := contextOf s r.ch r.step (some r.timeLeft) :: s.engine.stack
        renewVoids := s.engine.renewVoids.set p.ch 0
        exhausted := s.engine.exhausted.set p.ch false } := by
  obtain ⟨hrun, hwait, hstack⟩ := (s.yielded rx p r).beginStart_engine p.ch
  obtain ⟨hvoids, hexh⟩ := beginStart_renewals (s := s.yielded rx p r) (c := p.ch)
    (by rw [yielded_engine, Four.get_set, if_pos rfl])
  rw [runEnd_congr (runFrom_yielded s rx p h 0)] at hrun
  rw [yielded_engine] at hwait hstack hvoids hexh
  generalize ((s.yielded rx p r).beginStart p.ch).engine = e at hrun hwait hstack hvoids hexh ⊢
  obtain ⟨_, _, _, _, _⟩ := e
  simp_all

theorem chan_yielded_begun (s : State) (rx : Rx) (p : ClaimPayload) {r : RunSlot} (h : r.ch ≠ p.ch) :
    ((s.yielded rx p r).beginStart p.ch).chan r.ch = (s.yielded rx p r).chan r.ch := chan_beginStart_other _ h

/-- A preempting start that waits in a step of its own runs; the preempted recipe is suspended. -/
theorem preempted_suspended {s : State} (hl : s.live = true) (rx : Rx) (p : ClaimPayload) {r : RunSlot} {st : Step}
    (hr : s.engine.running = some r) (hst : s.stepOf r = some st) (hy : stepYields st = true) (hne : r.ch ≠ p.ch)
    (hslot : (runEnd s p.ch 0).slot p.ch ≠ none) :
    let t := (s.placedAt rx p).frameEnds.finish
    ranTo s t p.ch 0 ∧ t.engine.waiting = s.engine.waiting ∧ suspended s t r.ch r.step (some r.timeLeft) := by
  obtain ⟨q, hq⟩ := Option.ne_none_iff_exists'.mp hslot
  have heng := yielded_begun s rx p hne
  have hplaced : s.placedAt rx p = ((s.yielded rx p r).beginStart p.ch).notify := by
    rw [placedAt_preempts hr hst hy, freeEngine_of_running (r := q) (by rw [heng]; exact hq)]
  have he : (s.placedAt rx p).engine = ((s.yielded rx p r).beginStart p.ch).engine := by rw [hplaced]; rfl
  have hch (d : Chan) : (s.placedAt rx p).chan d = ((s.yielded rx p r).beginStart p.ch).chan d := by rw [hplaced]; rfl
  have hlive : (s.placedAt rx p).live = true := by rwa [placedAt_live]
  obtain ⟨-, hload, -⟩ := s.ground_keeps rx p
  obtain ⟨hpre, hmain⟩ := s.ground_levels rx p r.ch
  have hother : (s.placedAt rx p).chan r.ch = (s.yielded rx p r).chan r.ch :=
    (hch r.ch).trans (chan_yielded_begun s rx p hne)
  dsimp only
  refine ⟨ranTo_carried (yielded_ran s rx p hne) (carried_end (hch p.ch) (by rw [hplaced]; rfl) hlive) ?_, ?_, ?_⟩
  · simpa [flagged] using congrArg Engine.running he
  · simpa [heng] using congrArg Engine.waiting he
  · refine suspended_congr hload hpre hmain (by rw [ground_engine]) (suspended_of ?_ ?_)
    · refine (eq_of_sameButOffer (sameButOffer_frameEnds_finish _ r.ch) ?_).trans hother
      rw [hother, yielded, chan_suspend, if_pos rfl]
      simp [inQueue]
    · have hstack : (s.placedAt rx p).engine.stack = (s.yielded rx p r).engine.stack := by
        rw [he, heng, yielded_engine]
      simpa [yielded] using hstack

/-- A preempting start that ends at once: the preempted recipe waits on as it was. -/
theorem preempted_resumed {s : State} (rx : Rx) (p : ClaimPayload) {r : RunSlot} {st : Step}
    (hr : s.engine.running = some r) (hst : s.stepOf r = some st) (hy : stepYields st = true) (hne : r.ch ≠ p.ch)
    (hslot : (runEnd s p.ch 0).slot p.ch = none) (hw : s.engine.waiting = none) (hleft : r.timeLeft ≠ 0)
    (hsense : ∀ level timeout y, st = .await level timeout y → s.pins.sense.get r.ch ≠ level) :
    let b := ((s.yielded rx p r).beginStart p.ch).popped s.engine.stack
    let k := contextOf s r.ch r.step (some r.timeLeft)
    s.placedAt rx p = ((b.taken k).waiting k r.timeLeft).notify := by
  have heng := yielded_begun s rx p hne
  dsimp only
  generalize hb : (s.yielded rx p r).beginStart p.ch = b at heng ⊢
  generalize hk : contextOf s r.ch r.step (some r.timeLeft) = k at heng ⊢
  have hkch : k.ch = r.ch := by rw [← hk]; rfl
  have hidle : b.engine.running = none := by rw [heng]; exact hslot
  have hnone : b.engine.waiting = none := by rw [heng]; exact hw
  have hstack : b.engine.stack = k :: s.engine.stack := by rw [heng]
  obtain ⟨hpins, hload, -⟩ := s.ground_keeps rx p
  have hbload : b.loader = s.loader := by rw [← hb, ← hload]; simp [yielded]
  have hbpins : b.pins = s.pins := by rw [← hb, ← hpins]; simp [yielded]
  have hresume : (b.popped s.engine.stack).resume k = ((b.popped s.engine.stack).taken k).waiting k r.timeLeft := by
    refine resume_waits (st := st) (by rw [← hk]; rfl) hleft ?_ hy fun level timeout y hawait => ?_
    · have hcfg : (b.popped s.engine.stack).cfg k.ch = s.cfg r.ch := by rw [hkch]; exact cfg_of_loader hbload r.ch
      rw [hcfg, ← hk]
      exact hst
    · show b.pins.sense.get k.ch ≠ level
      rw [hbpins, hkch]
      exact hsense level timeout y hawait
  rw [placedAt_preempts hr hst hy, hb, freeEngine_of_idle hidle, freeLoop_stacked hidle hnone hstack, hresume]
  rw [freeLoop_of_running (r := { ch := k.ch, step := k.next, timeLeft := r.timeLeft }) rfl]
  rfl

/-- That step's end: the start has run, and the preempted recipe is as it was. -/
theorem preempted_ended {s : State} (hl : s.live = true) (rx : Rx) (p : ClaimPayload) {r : RunSlot} {st : Step}
    (hr : s.engine.running = some r) (hst : s.stepOf r = some st) (hy : stepYields st = true) (hne : r.ch ≠ p.ch)
    (hslot : (runEnd s p.ch 0).slot p.ch = none) (hw : s.engine.waiting = none) (hleft : r.timeLeft ≠ 0)
    (hsense : ∀ level timeout y, st = .await level timeout y → s.pins.sense.get r.ch ≠ level) :
    let t := (s.placedAt rx p).frameEnds.finish
    ranChan s t p.ch 0 ∧ t.engine = { s.engine with
        renewVoids := s.engine.renewVoids.set p.ch 0, exhausted := s.engine.exhausted.set p.ch false }
      ∧ (t.chan r.ch).state = .starting ∧ (t.chan r.ch).pre = (s.chan r.ch).pre
      ∧ (t.chan r.ch).main = (s.chan r.ch).main := by
  have hlive : (s.placedAt rx p).live = true := by rwa [placedAt_live]
  have hplaced := preempted_resumed rx p hr hst hy hne hslot hw hleft hsense
  have heng := yielded_begun s rx p hne
  have hrch := chan_yielded_begun s rx p hne
  obtain ⟨hran, -⟩ := yielded_ran s rx p hne
  dsimp only at hplaced ⊢
  generalize (s.yielded rx p r).beginStart p.ch = b at hplaced heng hrch hran
  have hkch : (contextOf s r.ch r.step (some r.timeLeft)).ch = r.ch := rfl
  have hself : (s.placedAt rx p).chan p.ch = b.chan p.ch := by
    rw [hplaced]
    exact chan_waiting_other (b.popped s.engine.stack) (contextOf s r.ch r.step (some r.timeLeft)) r.timeLeft hne.symm
  have hfaults : (s.placedAt rx p).faults = b.faults := by
    rw [hplaced]
    exact waiting_faults (b.popped s.engine.stack) (contextOf s r.ch r.step (some r.timeLeft)) r.timeLeft
  have hengine : (s.placedAt rx p).engine = { s.engine with
      renewVoids := s.engine.renewVoids.set p.ch 0, exhausted := s.engine.exhausted.set p.ch false } := by
    rw [hplaced]
    refine (waiting_engine (b.popped s.engine.stack) _ _).trans ?_
    have hpop : (b.popped s.engine.stack).engine = { b.engine with stack := s.engine.stack } := rfl
    rw [hpop, heng]
    generalize s.engine = e at hr ⊢
    obtain ⟨run, _, _, _, _⟩ := e
    obtain rfl : run = some r := hr
    rfl
  have hrest : (s.placedAt rx p).chan r.ch =
      { (restored (b.popped s.engine.stack) (contextOf s r.ch r.step (some r.timeLeft))).chan r.ch with
        state := .starting } := by
    rw [hplaced]
    exact chan_waiting_self (b.popped s.engine.stack) (contextOf s r.ch r.step (some r.timeLeft)) r.timeLeft
  have hlevels := restored_suspended (v := b.popped s.engine.stack) (s := s.ground rx p) (next := r.step)
    (left := some r.timeLeft) hrch
  rw [yielded_context] at hlevels
  obtain ⟨hpre, hmain⟩ := s.ground_levels rx p r.ch
  have hend : (s.placedAt rx p).frameEnds.finish.chan r.ch = (s.placedAt rx p).chan r.ch :=
    eq_of_sameButOffer (sameButOffer_frameEnds_finish _ r.ch) (by rw [hrest]; simp [inQueue])
  refine ⟨ranChan_carried hran (carried_end hself hfaults hlive), by simpa using hengine, ?_⟩
  rw [hend, hrest]
  exact ⟨rfl, hlevels.1.trans hpre, hlevels.2.trans hmain⟩

/-! ## The PENDING slot -/

/-- A start that finds a step that is not yieldable waits in the PENDING slot (R104). -/
theorem placedAt_waits {s : State} (rx : Rx) (p : ClaimPayload) {r : RunSlot} {st : Step}
    (hr : s.engine.running = some r) (hst : s.stepOf r = some st) (hy : stepYields st = false) :
    let t := (s.placedAt rx p).frameEnds.finish
    t.engine.running = some r ∧ t.engine.waiting = some p.ch ∧ t.engine.stack = s.engine.stack
      ∧ (t.chan p.ch).state = .pending := by
  have hcfg : (((s.judged rx p).writeSeq p.ch p.seq).leave p.ch).stepOf r = some st := by
    unfold stepOf
    rw [cfg_of_loader (s := s) (by simp [writeSeq])]
    exact hst
  have hplaced : s.placedAt rx p = (((s.judged rx p).writeSeq p.ch p.seq).leave p.ch).pended p.ch :=
    placeStart_waits (r := r) (by simpa [writeSeq] using hr)
      (fun q hq => by obtain rfl : st = q := Option.some.inj (hcfg.symm.trans hq); exact hy) p.ch
  have hengine : (s.placedAt rx p).engine = { (s.ground rx p).engine with waiting := some p.ch } := by
    rw [hplaced]
    rfl
  have hstate : ((s.placedAt rx p).chan p.ch).state = .pending := by
    have hchan : (s.placedAt rx p).chan p.ch = ((s.ground rx p).enter p.ch .pending).chan p.ch := by
      rw [hplaced]
      rfl
    rw [hchan, chan_enter, if_pos rfl]
  have hend : (s.placedAt rx p).frameEnds.finish.chan p.ch = (s.placedAt rx p).chan p.ch :=
    eq_of_sameButOffer (sameButOffer_frameEnds_finish _ p.ch) (by rw [hstate]; simp [inQueue])
  rw [ground_engine] at hengine
  dsimp only
  rw [hend]
  simp [hengine, hr, hstate]

end State

open State

/-- Settles O9: an admitted own start preempts at a yieldable step, and else waits in the PENDING slot. -/
theorem admittedStartPreempts : Obligations.AdmittedStartPreempts := by
  unfold Obligations.AdmittedStartPreempts
  intro rx p s r st h hl hi hh hw hn hv hr hne hst
  exact ⟨_, exec_startPlaced h hl hi hh hw hn hv,
    fun hy hslot => preempted_suspended hl rx p hr hst hy hne hslot,
    fun hy hslot hwait hleft hsense => preempted_ended hl rx p hr hst hy hne hslot hwait hleft hsense,
    fun hy => placedAt_waits rx p hr hst hy⟩

end Sys2Proof.Machine
end
